-- ==== Sys2Proof/Word.lean ====
section
/-!
DEFINITION. Word.lean: the words of the Maelzia 8404 and the plain records that packets, firmware plans and requests of
other agents are made of (spec/00 R2, R4, R6; spec/04 R80, R83; spec/18 R397; spec/14 R331).
-/

namespace Sys2Proof

/-- A double word (R2). -/
abbrev Word := BitVec 64

/-- A byte (R2). -/
abbrev Byte := BitVec 8

/-- A 6-bit register field of an instruction word (R41). -/
abbrev Reg := BitVec 6

/-- A logical or physical core number (R6). -/
abbrev CoreNum := BitVec 34

/-- A packet: the header of R83, its payload words and the core that sent it. -/
structure Packet where
  src : CoreNum
  dest : CoreNum
  tag : BitVec 16
  len : BitVec 6
  kind : BitVec 4
  seg : BitVec 8
  ts : BitVec 48
  payload : List (BitVec 32)
  onCircuit : Bool
  deriving DecidableEq, Repr

/-- A bind entry (R80). -/
structure BindEntry where
  entry : Word
  valid : Bool
  ksel : BitVec 4
  part : BitVec 16
  prio : BitVec 2
  tag : BitVec 16
  deriving DecidableEq, Repr

/-- What a held request of a two-phase commit asks of its home (R94). -/
inductive HeldKind where
  | add | set | window | line
  deriving DecidableEq, Repr

/-- What the request of an ordered activation carries (R102): its timestamp, its placement number, and whether it is still
speculative. -/
structure OrderTag where
  ts : BitVec 48
  place : Nat
  spec : Bool
  deriving DecidableEq, Repr

/-- A held request (R94): the committing core, the home address and the kind of write, and what an ordered activation's carries.
-/
structure HeldReq where
  core : CoreNum
  addr : Nat
  kind : HeldKind
  order : Option OrderTag := none
  deriving DecidableEq, Repr

/-- The key of a circuit or stream at its source (R344). -/
structure CircKey where
  dest : CoreNum
  tag : BitVec 16
  deriving DecidableEq, Repr

/-- A closing marker: whose circuit closes and for which tag (R348). -/
structure CircMark where
  src : CoreNum
  dest : CoreNum
  tag : BitVec 16
  deriving DecidableEq, Repr

/-- A set-up flit that reaches this core as the receiver (R347, R349). -/
structure SetupReq where
  src : CoreNum
  tag : BitVec 16
  nslot : Nat
  nxfer : Nat
  stream : Bool
  perPacket : Bool
  deriving DecidableEq, Repr

/-- A bind record of the slot table (R397). -/
structure SlotRecord where
  entry : Word
  clusters : BitVec 64
  cores : BitVec 16
  valid : Bool
  ksel : BitVec 4
  part : BitVec 16
  prio : BitVec 2
  tag : BitVec 16
  deriving DecidableEq, Repr

/-- A capability state of a granule (R323). -/
inductive Cap where
  | excl (c : CoreNum)
  | shared
  | sync
  | reduce (ordered : Bool)
  deriving DecidableEq, Repr

/-- One entry of an access table: a range of masters, a range of local addresses and the rights (R322). -/
structure AccessEntry where
  masterLo : Nat
  masterHi : Nat
  addrLo : Nat
  addrHi : Nat
  r : Bool
  w : Bool
  a : Bool
  deriving DecidableEq, Repr

/-- A region-table entry as the firmware reads it at install, at address `entry` (R331), with the base that it gives the region
and whether it maps it onto a storage window (R425). Log entry 90 (DESIGN CHOICE). -/
structure Region where
  entry : Word
  vbase : Word
  bytes : Word
  fmt : BitVec 4
  g : BitVec 4
  t : Bool
  ad : Bool
  cap : Cap
  psize : BitVec 2
  cal : Bool
  calw : Bool
  storage : Bool
  deriving DecidableEq, Repr

/-- A live-range record: the code address from which it is in force and its ranges of lines (R57). -/
structure LiveRec where
  addr : Word
  ranges : List (Nat × Nat)
  deriving DecidableEq, Repr

/-- The tape areas of an install (R260): the area of logical core 0, the sum of the `.adjoint` bytes, and the addresses of the
tape table images. -/
structure TapePlan where
  base : Word
  bytes : Nat
  tables : List Word
  deriving DecidableEq, Repr

/-- A kernel image as delivered (R55 to R57, R331, R425): its sections, handler-table entries, live-range records (a code offset
and the words), and the region table: where in the data section its entries lie. Log entry 90 (DESIGN CHOICE). -/
structure KernelImage where
  code : List Byte
  data : List Byte
  handlers : List (BitVec 64)
  live : List (Nat × List (BitVec 32))
  regions : List Nat
  deriving DecidableEq, Repr

/-- An install (R394): the image, the digest that the host named (R425), and the inputs that a signature measures (R447); and
what the firmware and the install request decide: the kernel-table entry, the tables in memory, the access table's entries,
where the sections lie, for each region its base and whether it is a storage window (R425), the base of each caldera table whose
handle image stands at an offset of the data section (R223), the slot-table record for each handler, the cores that receive it,
the priorities, and the launch with its number (R395, R433). -/
structure KernelPlan where
  ksel : BitVec 4
  part : BitVec 16
  root1 : Word
  root2 : Word
  asid : BitVec 16
  writes : List (Nat × Byte)
  access : List AccessEntry
  image : KernelImage
  code : Word
  dataBase : Word
  bases : List (Word × Bool)
  tables : List (Nat × BitVec 30)
  tape : Option TapePlan
  clusterShared : Bool
  places : List (BitVec 10)
  clusters : BitVec 64
  cores : BitVec 16
  prios : List (BitVec 16 × BitVec 2)
  named : List Byte
  inputs : List (List Byte)
  launch : Option (Packet × Nat)
  deriving DecidableEq, Repr

/-- The result of each step of a power-on boot and the number the fabric gives the package (R423, R430). -/
structure BootResult where
  romOk : Bool
  image : List Byte
  imageOk : Bool
  trainOk : Bool
  fabricOk : Bool
  pkg : BitVec 22
  deriving DecidableEq, Repr

/-- What a mailbox of BAR 0 asks of the firmware for the partition and its observed core (R421): the enabled KINDs and the size
of the trace buffer (R457), debug hold (R465), the replay log, its REPLAYFULL and a log to feed back (R467, R468), the event
sets with ROTATE (R460), and GPERIOD (R463). Log entry 93 (DESIGN CHOICE). -/
inductive MailRequest where
  | trace (enables : BitVec 10) (cap : Nat)
  | hold (on : Bool)
  | replay (cap : Nat) (full : BitVec 2) (feed : Option (List (BitVec 128)))
  | counters (sets : List (List Word)) (rotate : BitVec 32)
  | geyser (period : Nat)
  deriving DecidableEq, Repr

/-- A host access through a BAR window or by a DMA channel (R421); `req` is what one to a mailbox asks of the firmware. -/
structure HostAccess where
  unit : Nat
  write : Bool
  addr : Nat
  len : Nat
  data : List Byte
  req : Option MailRequest := none
  deriving DecidableEq, Repr

/-- The read-modify-write operations of row 5 (R376). -/
inductive AmoOp where
  | add | minS | minZ | maxS | maxZ | and | or | xor | xchg | cas | fadd
  deriving DecidableEq, Repr

/-- What another agent asks of a home (R369), the face of a `halo` into a scratchpad among it (R356), or of a sync unit (R295):
a slot for a partition and a kernel, with EXPECT, and its release; and the end of an ordered activation's speculation, by its
commit or its abort (R102). Log entry 118 (DEDUCED). -/
inductive SliceOp where
  | load (n : Nat)
  | store (data : List Byte)
  | halo (data : List Byte)
  | strongLoad (n : Nat)
  | strongStore (data : List Byte)
  | amo (op : AmoOp) (n : Nat) (v cmp : Nat)
  | arrive (n : Nat)
  | transfer (cap : Cap) (fmt : BitVec 4)
  | lease (pkg : BitVec 22)
  | balloc (die : Bool) (part : BitVec 16) (ksel : BitVec 4) (expect : BitVec 16)
  | bfree (die : Bool) (part : BitVec 16) (slot : BitVec 6)
  | release (commit : Bool)
  deriving DecidableEq, Repr

/-- A request of another core or engine to a home in the observed storage (R310, R369). -/
structure SliceReq where
  core : CoreNum
  addr : Nat
  op : SliceOp
  order : Option OrderTag
  deriving DecidableEq, Repr

/-- The ACCESS field of a fault record (R320). -/
inductive AccessKind where
  | read | write | fetch | engine
  deriving DecidableEq, Repr

/-- How the copy of a migration ends (R334, R335). -/
inductive CopyResult where
  | done | fault | uncorrectable
  deriving DecidableEq, Repr

/-- Where an uncorrectable error strikes (R336, R337, R303, R246). Log entry 109 (DEDUCED). -/
inductive ErrorSite where
  | line (addr : Nat)
  | capTable (granule : Nat)
  | unit (code : BitVec 8) (index : BitVec 56)
  | tlb
  | accumulator (i : BitVec 2)
  | weightByte (a : BitVec 16)
  | slot (die : Bool) (i : Nat)
  | linkEntry (fromNext : Bool)
  deriving DecidableEq, Repr

/-- The structure classes of the soft-error counters (R428, R429). -/
inductive SoftClass where
  | hbm | sram | files | products | dieLinks | ebver
  deriving DecidableEq, Repr

/-- What a geyser tick latches of one core (R463). -/
structure GeyserCore where
  pc : Word
  tag : BitVec 16
  state : BitVec 4
  deriving DecidableEq, Repr

/-- A frame on the management Ethernet port (R422). Log entry 76 (DEDUCED). -/
inductive EthFrame where
  | telemetry
  | firmwareUpdate (image : List Byte)
  | errorReport
  | recovery (image : List Byte)
  deriving DecidableEq, Repr

end Sys2Proof
end

