-- ==== Sys2Proof/Syntax.lean ====
section
/-!
DEFINITION. Syntax.lean: the instructions of the Kelvel set and the events of the part, one constructor per row of
spec/opcode_table.json, in the table's order. The literal (LEN 01), extended (LEN 10) and extended literal (LEN 11) forms
are constructors of their own. Register fields keep their six bits; WellFormed tests their files.
-/

namespace Sys2Proof

/-- An instruction, or an event row of the table. Each constructor's comment names its row and the rule that gives it. -/
inductive Instr where
  | add (d a b : Reg)  -- ADD (R127)
  | sub (d a b : Reg)  -- SUB (R127)
  | mul (d a b : Reg)  -- MUL (R127)
  | mulhS (d a b : Reg)  -- MULH_S (R127)
  | mulhZ (d a b : Reg)  -- MULH_Z (R127)
  | divS (d a b : Reg)  -- DIV_S (R128)
  | divZ (d a b : Reg)  -- DIV_Z (R128)
  | remS (d a b : Reg)  -- REM_S (R128)
  | remZ (d a b : Reg)  -- REM_Z (R128)
  | and (d a b : Reg)  -- AND (R127)
  | or (d a b : Reg)  -- OR (R127)
  | xor (d a b : Reg)  -- XOR (R127)
  | andn (d a b : Reg)  -- ANDN (R127)
  | shl (d a b : Reg)  -- SHL (R127)
  | shr (d a b : Reg)  -- SHR (R127)
  | sha (d a b : Reg)  -- SHA (R127)
  | minS (d a b : Reg)  -- MIN_S (R127)
  | minZ (d a b : Reg)  -- MIN_Z (R127)
  | maxS (d a b : Reg)  -- MAX_S (R127)
  | maxZ (d a b : Reg)  -- MAX_Z (R127)
  | sel (d a b : Reg)  -- SEL (R127)
  | clz (d a : Reg)  -- CLZ (R127)
  | popc (d a : Reg)  -- POPC (R127)
  | extS (d a b : Reg)  -- EXT_S (R129)
  | extZ (d a b : Reg)  -- EXT_Z (R129)
  | ins (d a b : Reg)  -- INS (R129)
  | lea (d a b : Reg) (s : BitVec 2)  -- LEA (R127)
  | rot (d a b : Reg)  -- ROT (R127)
  | bswap (d a : Reg)  -- BSWAP (R127)
  | addi (d a : Reg) (i : BitVec 9)  -- ADDI (R130)
  | addiLit (d a : Reg) (l : Word)  -- ADDI_LIT (R39)
  | andi (d a : Reg) (i : BitVec 9)  -- ANDI (R130)
  | andiLit (d a : Reg) (l : Word)  -- ANDI_LIT (R39)
  | ori (d a : Reg) (i : BitVec 9)  -- ORI (R130)
  | oriLit (d a : Reg) (l : Word)  -- ORI_LIT (R39)
  | xori (d a : Reg) (i : BitVec 9)  -- XORI (R130)
  | xoriLit (d a : Reg) (l : Word)  -- XORI_LIT (R39)
  | shli (d a : Reg) (i : BitVec 9)  -- SHLI (R130)
  | shliLit (d a : Reg) (l : Word)  -- SHLI_LIT (R39)
  | shri (d a : Reg) (i : BitVec 9)  -- SHRI (R130)
  | shriLit (d a : Reg) (l : Word)  -- SHRI_LIT (R39)
  | shai (d a : Reg) (i : BitVec 9)  -- SHAI (R130)
  | shaiLit (d a : Reg) (l : Word)  -- SHAI_LIT (R39)
  | li (d : Reg) (i : BitVec 15)  -- LI (R130)
  | liLit (d : Reg) (l : Word)  -- LI_LIT (R39)
  | leasw (d a : Reg) (m : BitVec 3)  -- LEASW (R132)
  | cmpEq (d a b : Reg)  -- CMP_EQ (R131)
  | cmpNe (d a b : Reg)  -- CMP_NE (R131)
  | cmpLtS (d a b : Reg)  -- CMP_LT_S (R131)
  | cmpLtZ (d a b : Reg)  -- CMP_LT_Z (R131)
  | cmpLeS (d a b : Reg)  -- CMP_LE_S (R131)
  | cmpLeZ (d a b : Reg)  -- CMP_LE_Z (R131)
  | cmpiEq (d a : Reg) (i : BitVec 9)  -- CMPI_EQ (R131)
  | cmpiEqLit (d a : Reg) (l : Word)  -- CMPI_EQ_LIT (R39)
  | cmpiNe (d a : Reg) (i : BitVec 9)  -- CMPI_NE (R131)
  | cmpiNeLit (d a : Reg) (l : Word)  -- CMPI_NE_LIT (R39)
  | cmpiLtS (d a : Reg) (i : BitVec 9)  -- CMPI_LT_S (R131)
  | cmpiLtSLit (d a : Reg) (l : Word)  -- CMPI_LT_S_LIT (R39)
  | cmpiLtZ (d a : Reg) (i : BitVec 9)  -- CMPI_LT_Z (R131)
  | cmpiLtZLit (d a : Reg) (l : Word)  -- CMPI_LT_Z_LIT (R39)
  | cmpiLeS (d a : Reg) (i : BitVec 9)  -- CMPI_LE_S (R131)
  | cmpiLeSLit (d a : Reg) (l : Word)  -- CMPI_LE_S_LIT (R39)
  | cmpiLeZ (d a : Reg) (i : BitVec 9)  -- CMPI_LE_Z (R131)
  | cmpiLeZLit (d a : Reg) (l : Word)  -- CMPI_LE_Z_LIT (R39)
  | nop  -- NOP (R130)
  | faddF32 (d a b : Reg) (f : BitVec 3)  -- FADD_F32 (R134)
  | faddF64 (d a b : Reg) (f : BitVec 3)  -- FADD_F64 (R134)
  | fsubF32 (d a b : Reg) (f : BitVec 3)  -- FSUB_F32 (R134)
  | fsubF64 (d a b : Reg) (f : BitVec 3)  -- FSUB_F64 (R134)
  | fmulF32 (d a b : Reg) (f : BitVec 3)  -- FMUL_F32 (R134)
  | fmulF64 (d a b : Reg) (f : BitVec 3)  -- FMUL_F64 (R134)
  | fdivF32 (d a b : Reg) (f : BitVec 3)  -- FDIV_F32 (R134)
  | fdivF64 (d a b : Reg) (f : BitVec 3)  -- FDIV_F64 (R134)
  | fsqrtF32 (d a : Reg) (f : BitVec 3)  -- FSQRT_F32 (R134)
  | fsqrtF64 (d a : Reg) (f : BitVec 3)  -- FSQRT_F64 (R134)
  | ffmaF32 (d a b : Reg) (f : BitVec 3)  -- FFMA_F32 (R134)
  | ffmaF64 (d a b : Reg) (f : BitVec 3)  -- FFMA_F64 (R134)
  | fminF32 (d a b : Reg)  -- FMIN_F32 (R135)
  | fminF64 (d a b : Reg)  -- FMIN_F64 (R135)
  | fmaxF32 (d a b : Reg)  -- FMAX_F32 (R135)
  | fmaxF64 (d a b : Reg)  -- FMAX_F64 (R135)
  | fcmpF32 (d a b : Reg) (p : BitVec 2)  -- FCMP_F32 (R136)
  | fcmpF64 (d a b : Reg) (p : BitVec 2)  -- FCMP_F64 (R136)
  | fcvtF32 (d a : Reg) (f : BitVec 3) (c : Reg)  -- FCVT_F32 (R140)
  | fcvtF64 (d a : Reg) (f : BitVec 3) (c : Reg)  -- FCVT_F64 (R140)
  | fclassF32 (d a : Reg)  -- FCLASS_F32 (R137)
  | fclassF64 (d a : Reg)  -- FCLASS_F64 (R137)
  | fsgnF32 (d a b : Reg) (j : BitVec 2)  -- FSGN_F32 (R138)
  | fsgnF64 (d a b : Reg) (j : BitVec 2)  -- FSGN_F64 (R138)
  | br (o : BitVec 15)  -- BR (R141)
  | brLit (l : Word)  -- BR_LIT (R141)
  | bcEq (a : Reg) (o : BitVec 15)  -- BC_EQ (R141)
  | bcEqLit (a : Reg) (l : Word)  -- BC_EQ_LIT (R141)
  | bcNe (a : Reg) (o : BitVec 15)  -- BC_NE (R141)
  | bcNeLit (a : Reg) (l : Word)  -- BC_NE_LIT (R141)
  | bcLt (a : Reg) (o : BitVec 15)  -- BC_LT (R141)
  | bcLtLit (a : Reg) (l : Word)  -- BC_LT_LIT (R141)
  | bcGe (a : Reg) (o : BitVec 15)  -- BC_GE (R141)
  | bcGeLit (a : Reg) (l : Word)  -- BC_GE_LIT (R141)
  | bcLe (a : Reg) (o : BitVec 15)  -- BC_LE (R141)
  | bcLeLit (a : Reg) (l : Word)  -- BC_LE_LIT (R141)
  | bcGt (a : Reg) (o : BitVec 15)  -- BC_GT (R141)
  | bcGtLit (a : Reg) (l : Word)  -- BC_GT_LIT (R141)
  | jmp (a : Reg) (i : BitVec 9)  -- JMP (R142)
  | jmpLit (a : Reg) (l : Word)  -- JMP_LIT (R142)
  | call (a : Reg) (o : BitVec 15)  -- CALL (R142)
  | callLit (a : Reg) (l : Word)  -- CALL_LIT (R142)
  | ret (a : Reg)  -- RET (R142)
  | loop (a : Reg) (o : BitVec 15)  -- LOOP (R143)
  | loopLit (a : Reg) (l : Word)  -- LOOP_LIT (R143)
  | endAct  -- END (R115)
  | trap (i : BitVec 15)  -- TRAP (R144)
  | eret  -- ERET (R145)
  | csrr (d : Reg) (c : BitVec 12)  -- CSRR (R146)
  | csrw (d : Reg) (c : BitVec 12)  -- CSRW (R146)
  | csrs (d : Reg) (c : BitVec 12)  -- CSRS (R146)
  | csrc (d : Reg) (c : BitVec 12)  -- CSRC (R146)
  | bkpt (i : BitVec 15)  -- BKPT (R144)
  | synci (a : Reg)  -- SYNCI (R147)
  | idle (a : Reg)  -- IDLE (R148)
  | idleExpiry  -- IDLE_EXPIRY (R148)
  | ldS8 (d a : Reg) (i : BitVec 9)  -- LD_S8 (R150)
  | ldS8Lit (d a : Reg) (l : Word)  -- LD_S8_LIT (R46)
  | ldS8Ext (d base : Reg) (space : BitVec 2) (swz : BitVec 3) (off : BitVec 21)  -- LD_S8_EXT (R46)
  | ldS8ExtLit (d base : Reg) (space : BitVec 2) (swz : BitVec 3) (l : Word)  -- LD_S8_EXT_LIT (R46)
  | ldZ8 (d a : Reg) (i : BitVec 9)  -- LD_Z8 (R150)
  | ldZ8Lit (d a : Reg) (l : Word)  -- LD_Z8_LIT (R46)
  | ldZ8Ext (d base : Reg) (space : BitVec 2) (swz : BitVec 3) (off : BitVec 21)  -- LD_Z8_EXT (R46)
  | ldZ8ExtLit (d base : Reg) (space : BitVec 2) (swz : BitVec 3) (l : Word)  -- LD_Z8_EXT_LIT (R46)
  | ldS16 (d a : Reg) (i : BitVec 9)  -- LD_S16 (R150)
  | ldS16Lit (d a : Reg) (l : Word)  -- LD_S16_LIT (R46)
  | ldS16Ext (d base : Reg) (space : BitVec 2) (swz : BitVec 3) (off : BitVec 21)  -- LD_S16_EXT (R46)
  | ldS16ExtLit (d base : Reg) (space : BitVec 2) (swz : BitVec 3) (l : Word)  -- LD_S16_EXT_LIT (R46)
  | ldZ16 (d a : Reg) (i : BitVec 9)  -- LD_Z16 (R150)
  | ldZ16Lit (d a : Reg) (l : Word)  -- LD_Z16_LIT (R46)
  | ldZ16Ext (d base : Reg) (space : BitVec 2) (swz : BitVec 3) (off : BitVec 21)  -- LD_Z16_EXT (R46)
  | ldZ16ExtLit (d base : Reg) (space : BitVec 2) (swz : BitVec 3) (l : Word)  -- LD_Z16_EXT_LIT (R46)
  | ldS32 (d a : Reg) (i : BitVec 9)  -- LD_S32 (R150)
  | ldS32Lit (d a : Reg) (l : Word)  -- LD_S32_LIT (R46)
  | ldS32Ext (d base : Reg) (space : BitVec 2) (swz : BitVec 3) (off : BitVec 21)  -- LD_S32_EXT (R46)
  | ldS32ExtLit (d base : Reg) (space : BitVec 2) (swz : BitVec 3) (l : Word)  -- LD_S32_EXT_LIT (R46)
  | ldZ32 (d a : Reg) (i : BitVec 9)  -- LD_Z32 (R150)
  | ldZ32Lit (d a : Reg) (l : Word)  -- LD_Z32_LIT (R46)
  | ldZ32Ext (d base : Reg) (space : BitVec 2) (swz : BitVec 3) (off : BitVec 21)  -- LD_Z32_EXT (R46)
  | ldZ32ExtLit (d base : Reg) (space : BitVec 2) (swz : BitVec 3) (l : Word)  -- LD_Z32_EXT_LIT (R46)
  | ld64 (d a : Reg) (i : BitVec 9)  -- LD_64 (R150)
  | ld64Lit (d a : Reg) (l : Word)  -- LD_64_LIT (R46)
  | ld64Ext (d base : Reg) (space : BitVec 2) (swz : BitVec 3) (off : BitVec 21)  -- LD_64_EXT (R46)
  | ld64ExtLit (d base : Reg) (space : BitVec 2) (swz : BitVec 3) (l : Word)  -- LD_64_EXT_LIT (R46)
  | ld128 (d a : Reg) (i : BitVec 9)  -- LD_128 (R150)
  | ld128Lit (d a : Reg) (l : Word)  -- LD_128_LIT (R46)
  | ld128Ext (d base : Reg) (space : BitVec 2) (swz : BitVec 3) (off : BitVec 21)  -- LD_128_EXT (R46)
  | ld128ExtLit (d base : Reg) (space : BitVec 2) (swz : BitVec 3) (l : Word)  -- LD_128_EXT_LIT (R46)
  | st8 (d a : Reg) (i : BitVec 9)  -- ST_8 (R150)
  | st8Lit (d a : Reg) (l : Word)  -- ST_8_LIT (R46)
  | st8Ext (d base : Reg) (space : BitVec 2) (swz : BitVec 3) (off : BitVec 21)  -- ST_8_EXT (R46)
  | st8ExtLit (d base : Reg) (space : BitVec 2) (swz : BitVec 3) (l : Word)  -- ST_8_EXT_LIT (R46)
  | st16 (d a : Reg) (i : BitVec 9)  -- ST_16 (R150)
  | st16Lit (d a : Reg) (l : Word)  -- ST_16_LIT (R46)
  | st16Ext (d base : Reg) (space : BitVec 2) (swz : BitVec 3) (off : BitVec 21)  -- ST_16_EXT (R46)
  | st16ExtLit (d base : Reg) (space : BitVec 2) (swz : BitVec 3) (l : Word)  -- ST_16_EXT_LIT (R46)
  | st32 (d a : Reg) (i : BitVec 9)  -- ST_32 (R150)
  | st32Lit (d a : Reg) (l : Word)  -- ST_32_LIT (R46)
  | st32Ext (d base : Reg) (space : BitVec 2) (swz : BitVec 3) (off : BitVec 21)  -- ST_32_EXT (R46)
  | st32ExtLit (d base : Reg) (space : BitVec 2) (swz : BitVec 3) (l : Word)  -- ST_32_EXT_LIT (R46)
  | st64 (d a : Reg) (i : BitVec 9)  -- ST_64 (R150)
  | st64Lit (d a : Reg) (l : Word)  -- ST_64_LIT (R46)
  | st64Ext (d base : Reg) (space : BitVec 2) (swz : BitVec 3) (off : BitVec 21)  -- ST_64_EXT (R46)
  | st64ExtLit (d base : Reg) (space : BitVec 2) (swz : BitVec 3) (l : Word)  -- ST_64_EXT_LIT (R46)
  | st128 (d a : Reg) (i : BitVec 9)  -- ST_128 (R150)
  | st128Lit (d a : Reg) (l : Word)  -- ST_128_LIT (R46)
  | st128Ext (d base : Reg) (space : BitVec 2) (swz : BitVec 3) (off : BitVec 21)  -- ST_128_EXT (R46)
  | st128ExtLit (d base : Reg) (space : BitVec 2) (swz : BitVec 3) (l : Word)  -- ST_128_EXT_LIT (R46)
  | ldf (d a : Reg) (i : BitVec 9)  -- LDF (R153)
  | ldsS8 (d a : Reg) (i : BitVec 9)  -- LDS_S8 (R150)
  | ldsZ8 (d a : Reg) (i : BitVec 9)  -- LDS_Z8 (R150)
  | ldsS16 (d a : Reg) (i : BitVec 9)  -- LDS_S16 (R150)
  | ldsZ16 (d a : Reg) (i : BitVec 9)  -- LDS_Z16 (R150)
  | ldsS32 (d a : Reg) (i : BitVec 9)  -- LDS_S32 (R150)
  | ldsZ32 (d a : Reg) (i : BitVec 9)  -- LDS_Z32 (R150)
  | lds64 (d a : Reg) (i : BitVec 9)  -- LDS_64 (R150)
  | sts8 (d a : Reg) (i : BitVec 9)  -- STS_8 (R150)
  | sts16 (d a : Reg) (i : BitVec 9)  -- STS_16 (R150)
  | sts32 (d a : Reg) (i : BitVec 9)  -- STS_32 (R150)
  | sts64 (d a : Reg) (i : BitVec 9)  -- STS_64 (R150)
  | amoAdd32 (d a b : Reg) (s : BitVec 3)  -- AMO_ADD_32 (R376)
  | amoAdd64 (d a b : Reg) (s : BitVec 3)  -- AMO_ADD_64 (R376)
  | amoMinS32 (d a b : Reg) (s : BitVec 3)  -- AMO_MIN_S_32 (R376)
  | amoMinS64 (d a b : Reg) (s : BitVec 3)  -- AMO_MIN_S_64 (R376)
  | amoMinZ32 (d a b : Reg) (s : BitVec 3)  -- AMO_MIN_Z_32 (R376)
  | amoMinZ64 (d a b : Reg) (s : BitVec 3)  -- AMO_MIN_Z_64 (R376)
  | amoMaxS32 (d a b : Reg) (s : BitVec 3)  -- AMO_MAX_S_32 (R376)
  | amoMaxS64 (d a b : Reg) (s : BitVec 3)  -- AMO_MAX_S_64 (R376)
  | amoMaxZ32 (d a b : Reg) (s : BitVec 3)  -- AMO_MAX_Z_32 (R376)
  | amoMaxZ64 (d a b : Reg) (s : BitVec 3)  -- AMO_MAX_Z_64 (R376)
  | amoAnd32 (d a b : Reg) (s : BitVec 3)  -- AMO_AND_32 (R376)
  | amoAnd64 (d a b : Reg) (s : BitVec 3)  -- AMO_AND_64 (R376)
  | amoOr32 (d a b : Reg) (s : BitVec 3)  -- AMO_OR_32 (R376)
  | amoOr64 (d a b : Reg) (s : BitVec 3)  -- AMO_OR_64 (R376)
  | amoXor32 (d a b : Reg) (s : BitVec 3)  -- AMO_XOR_32 (R376)
  | amoXor64 (d a b : Reg) (s : BitVec 3)  -- AMO_XOR_64 (R376)
  | amoXchg32 (d a b : Reg) (s : BitVec 3)  -- AMO_XCHG_32 (R376)
  | amoXchg64 (d a b : Reg) (s : BitVec 3)  -- AMO_XCHG_64 (R376)
  | amoCas32 (d a b : Reg) (s : BitVec 3)  -- AMO_CAS_32 (R376)
  | amoCas64 (d a b : Reg) (s : BitVec 3)  -- AMO_CAS_64 (R376)
  | amoCas128 (d a b : Reg) (s : BitVec 3)  -- AMO_CAS_128 (R377)
  | amoFaddF32 (d a b : Reg) (s : BitVec 3)  -- AMO_FADD_F32 (R378)
  | ldx32 (d a : Reg) (s : BitVec 3)  -- LDX_32 (R379)
  | ldx64 (d a : Reg) (s : BitVec 3)  -- LDX_64 (R379)
  | stx32 (d a : Reg) (s : BitVec 3)  -- STX_32 (R379)
  | stx64 (d a : Reg) (s : BitVec 3)  -- STX_64 (R379)
  | ldacq64 (d a : Reg) (s : BitVec 3)  -- LDACQ_64 (R380)
  | strel64 (d a : Reg) (s : BitVec 3)  -- STREL_64 (R381)
  | fence (s : BitVec 3)  -- FENCE (R383)
  | xfence (s : BitVec 3) (m : Reg)  -- XFENCE (R384)
  | vaddVv (d a b : Reg) (f : BitVec 3)  -- VADD_VV (R173)
  | vaddVs (d a b : Reg) (f : BitVec 3)  -- VADD_VS (R173)
  | vaddVq (d a b : Reg) (f : BitVec 3)  -- VADD_VQ (R173)
  | vsubVv (d a b : Reg) (f : BitVec 3)  -- VSUB_VV (R173)
  | vsubVs (d a b : Reg) (f : BitVec 3)  -- VSUB_VS (R173)
  | vsubVq (d a b : Reg) (f : BitVec 3)  -- VSUB_VQ (R173)
  | vmulVv (d a b : Reg) (f : BitVec 3)  -- VMUL_VV (R173)
  | vmulVs (d a b : Reg) (f : BitVec 3)  -- VMUL_VS (R173)
  | vmulVq (d a b : Reg) (f : BitVec 3)  -- VMUL_VQ (R173)
  | vminVv (d a b : Reg)  -- VMIN_VV (R173)
  | vminVs (d a b : Reg)  -- VMIN_VS (R173)
  | vminVq (d a b : Reg)  -- VMIN_VQ (R173)
  | vmaxVv (d a b : Reg)  -- VMAX_VV (R173)
  | vmaxVs (d a b : Reg)  -- VMAX_VS (R173)
  | vmaxVq (d a b : Reg)  -- VMAX_VQ (R173)
  | vfmaVv (d a b : Reg) (f : BitVec 3)  -- VFMA_VV (R173)
  | vfmaVs (d a b : Reg) (f : BitVec 3)  -- VFMA_VS (R173)
  | vfmaVq (d a b : Reg) (f : BitVec 3)  -- VFMA_VQ (R173)
  | vabs (d a : Reg)  -- VABS (R173)
  | vneg (d a : Reg)  -- VNEG (R173)
  | vcvt (d a : Reg) (f : BitVec 3) (t : BitVec 1)  -- VCVT (R174)
  | vscale (d a b : Reg) (f : BitVec 3)  -- VSCALE (R173)
  | vsum (d a : Reg) (f : BitVec 3)  -- VSUM (R175)
  | vdot (d a b : Reg) (f : BitVec 3)  -- VDOT (R175)
  | vdotQ (d a b : Reg) (f : BitVec 3)  -- VDOT_Q (R175)
  | vcmp (d a b : Reg) (p : BitVec 2)  -- VCMP (R176)
  | vsel (d a b : Reg)  -- VSEL (R176)
  | vclass (d a : Reg)  -- VCLASS (R177)
  | vcopy (d a : Reg)  -- VCOPY (R178)
  | vcopyW (d a : Reg)  -- VCOPY_W (R178)
  | vcopyWAll (d a : Reg)  -- VCOPY_W_ALL (R178)
  | vfill (d a : Reg)  -- VFILL (R179)
  | vfillI (d a : Reg)  -- VFILL_I (R179)
  | vfillB (d a : Reg)  -- VFILL_B (R179)
  | vgath (d a b : Reg)  -- VGATH (R180)
  | vq4 (d a b : Reg)  -- VQ4 (R183)
  | vrng (d a : Reg)  -- VRNG (R184)
  | vmaxabs (d a : Reg)  -- VMAXABS (R175)
  | viadd (d a b : Reg)  -- VIADD (R182)
  | visub (d a b : Reg)  -- VISUB (R182)
  | vimul (d a b : Reg)  -- VIMUL (R182)
  | viand (d a b : Reg)  -- VIAND (R182)
  | vior (d a b : Reg)  -- VIOR (R182)
  | vixor (d a b : Reg)  -- VIXOR (R182)
  | vishl (d a b : Reg)  -- VISHL (R182)
  | vishr (d a b : Reg) (f : BitVec 1)  -- VISHR (R182)
  | vidx (d a b : Reg)  -- VIDX (R179)
  | vpack (d a b : Reg)  -- VPACK (R181)
  | vunpk (d a b : Reg)  -- VUNPK (R181)
  | vrcp (d a : Reg) (f : BitVec 3)  -- VRCP (R173)
  | vrsqrt (d a : Reg) (f : BitVec 3)  -- VRSQRT (R173)
  | waitf (d a : Reg) (i : BitVec 9)  -- WAITF (R169)
  | waitfLit (d a : Reg) (l : Word)  -- WAITF_LIT (R169)
  | waite (d a : Reg) (i : BitVec 9)  -- WAITE (R169)
  | waiteLit (d a : Reg) (l : Word)  -- WAITE_LIT (R169)
  | advp (d a : Reg) (i : BitVec 9)  -- ADVP (R169)
  | advpLit (d a : Reg) (l : Word)  -- ADVP_LIT (R169)
  | advc (d a : Reg) (i : BitVec 9)  -- ADVC (R169)
  | advcLit (d a : Reg) (l : Word)  -- ADVC_LIT (R169)
  | hset (d a : Reg) (i : BitVec 9)  -- HSET (R166)
  | hget (d a : Reg) (i : BitVec 9)  -- HGET (R166)
  | hmov (d a : BitVec 5)  -- HMOV (R167)
  | hld (d a : Reg) (i : BitVec 9)  -- HLD (R167)
  | hldLit (d a : Reg) (l : Word)  -- HLD_LIT (R167)
  | hst (d a : Reg) (i : BitVec 9)  -- HST (R167)
  | hstLit (d a : Reg) (l : Word)  -- HST_LIT (R167)
  | send (d a b : Reg)  -- SEND (R106)
  | sendSp (d a b : Reg)  -- SEND_SP (R106)
  | sendCode (d a b : Reg)  -- SEND_CODE (R216)
  | sendNz (d a b : Reg)  -- SEND_NZ (R106)
  | sendw (d a b : Reg)  -- SENDW (R106)
  | sendwSp (d a b : Reg)  -- SENDW_SP (R106)
  | sendwCode (d a b : Reg)  -- SENDW_CODE (R106)
  | sendwNz (d a b : Reg)  -- SENDW_NZ (R106)
  | relw (d : Reg)  -- RELW (R108)
  | wcnt (d a : Reg)  -- WCNT (R109)
  | ckpt  -- CKPT (R110)
  | yield  -- YIELD (R111)
  | tstamp (d : Reg)  -- TSTAMP (R112)
  | spawn (d a b : Reg)  -- SPAWN (R113)
  | abort  -- ABORT (R114)
  | fnfit (d a b : Reg) (c : BitVec 1)  -- FNFIT (R194)
  | fnld (d a : Reg) (i : BitVec 9)  -- FNLD (R196)
  | fnldLit (d a : Reg) (l : Word)  -- FNLD_LIT (R196)
  | fnst (d a : Reg) (i : BitVec 9)  -- FNST (R196)
  | fnstLit (d a : Reg) (l : Word)  -- FNST_LIT (R196)
  | fnadd (d a b : Reg) (c : BitVec 1)  -- FNADD (R197)
  | fnsub (d a b : Reg) (c : BitVec 1)  -- FNSUB (R197)
  | fnmul (d a b : Reg) (c : BitVec 1)  -- FNMUL (R197)
  | fnscale (d a b : Reg) (c : BitVec 1)  -- FNSCALE (R198)
  | fncomp (d a b : Reg) (c : BitVec 1)  -- FNCOMP (R199)
  | fnint (d a : Reg) (c : BitVec 1)  -- FNINT (R201)
  | fnder (d a : Reg) (c : BitVec 1)  -- FNDER (R200)
  | fnroot (d a b : Reg)  -- FNROOT (R203)
  | fneval (d a b : Reg) (c : BitVec 1)  -- FNEVAL (R202)
  | fnevs (d a b : Reg) (c : BitVec 1)  -- FNEVS (R202)
  | fntrunc (d a b : Reg) (c : BitVec 1)  -- FNTRUNC (R204)
  | fndom (d a b : Reg)  -- FNDOM (R195)
  | fnfree (d : Reg)  -- FNFREE (R204)
  | fnlen (d a : Reg)  -- FNLEN (R204)
  | fnmov (d a : Reg) (c : BitVec 1)  -- FNMOV (R204)
  | pdict (a : Reg)  -- PDICT (R210)
  | pimg (a : Reg)  -- PIMG (R222)
  | pthr (a b : Reg)  -- PTHR (R212)
  | penc (d a b : Reg)  -- PENC (R217)
  | pacc (d a : Reg)  -- PACC (R224)
  | pesc (d a : Reg)  -- PESC (R224)
  | pdec (d a : Reg)  -- PDEC (R225)
  | pgrad (d a b : Reg)  -- PGRAD (R226)
  | pstat (d : Reg)  -- PSTAT (R221)
  | mxq (a b : BitVec 5)  -- MXQ (R234)
  | mxseq (d : Reg)  -- MXSEQ (R244)
  | mxwait (a : Reg)  -- MXWAIT (R245)
  | accmv (d a b : Reg)  -- ACCMV (R248)
  | accpk (d a b : Reg)  -- ACCPK (R249)
  | mxLdw  -- MX_LDW (R238)
  | mxMma (mis : List Nat)  -- MX_MMA (R239)
  | mxMmat (mis : List Nat)  -- MX_MMAT (R239)
  | mxStacc  -- MX_STACC (R241)
  | mxZero  -- MX_ZERO (R241)
  | mxChk  -- MX_CHK (R242)
  | admode (m : BitVec 2)  -- ADMODE (R258)
  | adld (d a : Reg) (i : BitVec 9)  -- ADLD (R273)
  | adldLit (d a : Reg) (l : Word)  -- ADLD_LIT (R273)
  | adst (d a : Reg) (i : BitVec 9)  -- ADST (R273)
  | adstLit (d a : Reg) (l : Word)  -- ADST_LIT (R273)
  | adclr (d a : Reg) (i : BitVec 9)  -- ADCLR (R273)
  | adclrLit (d a : Reg) (l : Word)  -- ADCLR_LIT (R273)
  | tmark (d : Reg)  -- TMARK (R274)
  | trew (a : Reg)  -- TREW (R275)
  | tstat (d : Reg)  -- TSTAT (R276)
  | lkset (a : Reg)  -- LKSET (R283)
  | lkget (d : Reg)  -- LKGET (R283)
  | qbind (d a : Reg)  -- QBIND (R285)
  | qpush (d a : Reg)  -- QPUSH (R287)
  | nxld (d a : Reg) (n : BitVec 1)  -- NXLD (R289)
  | nxst (d a : Reg) (n : BitVec 1)  -- NXST (R289)
  | balloc (d : Reg)  -- BALLOC (R295)
  | bfree (a : Reg)  -- BFREE (R295)
  | barr (d a b : Reg) (c : BitVec 1)  -- BARR (R296)
  | barrM (d a b : Reg) (c : BitVec 1)  -- BARR_M (R296)
  | barrMCs (d a b : Reg) (c : BitVec 1)  -- BARR_M_CS (R296)
  | bwait (d a b : Reg)  -- BWAIT (R298)
  | bwaitCs (d a b : Reg)  -- BWAIT_CS (R298)
  | bwaitGv (d a b : Reg)  -- BWAIT_GV (R298)
  | btest (d a b : Reg)  -- BTEST (R298)
  | btestCs (d a b : Reg)  -- BTEST_CS (R298)
  | btestGv (d a b : Reg)  -- BTEST_GV (R298)
  | barto  -- BARTO (R298)
  | barrierChangeNotice  -- BARRIER_CHANGE_NOTICE (R298)
  | capxfer (a b : Reg)  -- CAPXFER (R328)
  | capq (d a : Reg)  -- CAPQ (R330)
  | circ (d a b : Reg)  -- CIRC (R347)
  | circrel (a : Reg)  -- CIRCREL (R348)
  | sopen (d a b : Reg)  -- SOPEN (R347)
  | sclose (a : Reg)  -- SCLOSE (R348)
  | cp (d a : Reg) (c : BitVec 3)  -- CP (R353)
  | cpt (d a : Reg) (c : BitVec 3)  -- CPT (R354)
  | gath (d a b : Reg) (c : BitVec 3)  -- GATH (R355)
  | cpwp (d : Reg) (c : BitVec 3)  -- CPWP (R359)
  | cpwait (c : BitVec 3)  -- CPWAIT (R360)
  | engseq (d a : Reg)  -- ENGSEQ (R361)
  | halo (d a : Reg) (c : BitVec 3)  -- HALO (R356)
  | lclock (d : Reg)  -- LCLOCK (R405)
  | engineUnit (c : BitVec 3)  -- ENGINE_UNIT (R357)
  | pst (d a : Reg) (i : BitVec 9)  -- PST (R418)
  | pstLit (d a : Reg) (l : Word)  -- PST_LIT (R418)
  | pstb (d a : Reg) (i : BitVec 9)  -- PSTB (R418)
  | pstbLit (d a : Reg) (l : Word)  -- PSTB_LIT (R418)
  | redst (d a : Reg) (i : BitVec 9)  -- REDST (R441)
  | redstLit (d a : Reg) (l : Word)  -- REDST_LIT (R441)
  | redq (d a : Reg)  -- REDQ (R443)
  | wake (a : Reg)  -- WAKE (R445)
  | sigx (a : Reg)  -- SIGX (R448)
  | mark (d : Reg) (i : BitVec 15)  -- MARK (R459)
  | packetPlacement (p : Packet) (num : Option (BitVec 16) := none)  -- PACKET_PLACEMENT (R80)
  | unboundArrivalAnswer (slot : BitVec 5) (entry : Option BindEntry)  -- UNBOUND_ARRIVAL_ANSWER (R81)
  | activationStart  -- ACTIVATION_START (R87)
  | heldRequest (r : HeldReq) (num : Option (BitVec 16) := none)  -- HELD_REQUEST (R94)
  | applyNotice (r : HeldReq) (data : List (Nat × BitVec 8)) (val : BitVec 32) (num : Option (BitVec 16) := none)  -- APPLY_NOTICE (R94)
  | dropNotice (r : HeldReq) (num : Option (BitVec 16) := none)  -- DROP_NOTICE (R94)
  | commitAcknowledgement  -- COMMIT_ACKNOWLEDGEMENT (R93)
  | speculationEnd  -- SPECULATION_END (R101)
  | preempt (flight : Bool)  -- PREEMPT (R407)
  | contextSave  -- CONTEXT_SAVE (R408)
  | contextResume (i : Nat := 0)  -- CONTEXT_RESUME (R409)
  | partitionSwitch (part : BitVec 16)  -- PARTITION_SWITCH (R410)
  | parkedActivationReturn (i : Nat) (retire : Bool)  -- PARKED_ACTIVATION_RETURN (R411)
  | linkPassThrough (toNext : Bool) (arrival : Option (List Byte))  -- LINK_PASS_THROUGH (R282)
  | circuitIdleTimeout (key : CircKey)  -- CIRCUIT_IDLE_TIMEOUT (R348)
  | closingMarker (c : CircMark)  -- CLOSING_MARKER (R348)
  | setupFlit (r : SetupReq) (num : Option (BitVec 16) := none)  -- SETUP_FLIT (R349)
  | setupGrant (src : BitVec 34)  -- SETUP_GRANT (R349)
  | syncPacket (core : BitVec 34) (die : Bool) (slot : BitVec 6) (n : BitVec 16)  -- SYNC_PACKET (R294)
  | wakePlacement (p : Packet) (count : Nat) (part : BitVec 16 := 0) (ksel : Option (BitVec 4) := none)  -- WAKE_PLACEMENT (R395)
  | kernelInstall (k : KernelPlan)  -- KERNEL_INSTALL (R394)
  | kernelRemoval (ksel : BitVec 4)  -- KERNEL_REMOVAL (R399)
  | slotRecordWrite (idx : BitVec 10) (rec : SlotRecord) (others : BitVec 2 := 0)  -- SLOT_RECORD_WRITE (R398)
  | quantumEnd  -- QUANTUM_END (R403)
  | clockChange (mhz : Nat)  -- CLOCK_CHANGE (R406)
  | thermalThrottle (mhz : Nat)  -- THERMAL_THROTTLE (R427)
  | thermalPreemption  -- THERMAL_PREEMPTION (R427)
  | thermalResume  -- THERMAL_RESUME (R427)
  | thermalTrip  -- THERMAL_TRIP (R427)
  | boot (r : BootResult)  -- BOOT (R423)
  | attestationRequest (nonce : List (BitVec 8))  -- ATTESTATION_REQUEST (R424)
  | hostBarAccess (r : HostAccess)  -- HOST_BAR_ACCESS (R421)
  | hostDma (r : HostAccess)  -- HOST_DMA (R421)
  | sliceAccess (r : SliceReq)  -- SLICE_ACCESS (R310)
  | hbmFill (line : Nat) (core : BitVec 34 := 0)  -- HBM_FILL (R310)
  | calderaRefreshStart (bank : BitVec 7)  -- CALDERA_REFRESH_START (R312)
  | calderaRefreshEnd (bank : BitVec 7)  -- CALDERA_REFRESH_END (R312)
  | tlbWalk (va : Word) (kind : AccessKind)  -- TLB_WALK (R302)
  | firmwareInvalidation (va : Word)  -- FIRMWARE_INVALIDATION (R319)
  | migration (granule : Nat) (frame : Nat) (frames : List Nat := [])  -- MIGRATION (R334)
  | migrationCopyComplete (granule : Nat) (res : CopyResult)  -- MIGRATION_COPY_COMPLETE (R334)
  | hotnessRead (granule : Nat)  -- HOTNESS_READ (R332)
  | uncorrectableError (site : ErrorSite)  -- UNCORRECTABLE_ERROR (R336)
  | correctableError (cls : SoftClass) (die : BitVec 2 := 0)  -- CORRECTABLE_ERROR (R429)
  | fabricRequest (src : BitVec 34) (num : BitVec 16) (r : SliceReq)  -- FABRIC_REQUEST (R433)
  | fabricResendTimeout (pkg : BitVec 22) (kind : BitVec 4)  -- FABRIC_RESEND_TIMEOUT (R434)
  | flitCrcFailure (link : Nat)  -- FLIT_CRC_FAILURE (R431)
  | onDieLinkCrcFailure (link : Nat) (noRoute : Bool)  -- ON_DIE_LINK_CRC_FAILURE (R434)
  | leaseRecall (granule : Nat)  -- LEASE_RECALL (R435)
  | leaseHolderFailed (pkg : BitVec 22)  -- LEASE_HOLDER_FAILED (R435)
  | reduceContribution (core : BitVec 34) (addr : Nat) (val : BitVec 32) (num : Option (BitVec 16) := none)  -- REDUCE_CONTRIBUTION (R436)
  | geyserTick (others : List GeyserCore)  -- GEYSER_TICK (R463)
  | counterRotate  -- COUNTER_ROTATE (R460)
  | debugStop (passed : Bool)  -- DEBUG_STOP (R464)
  | debugResume  -- DEBUG_RESUME (R464)
  | breakResume  -- BREAK_RESUME (R465)
  | patch (addr : Nat) (words : List (BitVec 32))  -- PATCH (R466)
  | replayLogDrain  -- REPLAY_LOG_DRAIN (R468)
  | frmWrite (v : Word)  -- FRM_WRITE (R20)
  | fntolWrite (v : Word)  -- FNTOL_WRITE (R190)
  | pmselWrite (v : Word)  -- PMSEL_WRITE (R460)
  | csrWrite (c : BitVec 12) (v : Word)  -- CSR_WRITE (R120)
  | nonInstruction (w : BitVec 32) (bit : Option (BitVec 8))  -- NON_INSTRUCTION (R59)
  | placementAcknowledgement  -- PLACEMENT_ACKNOWLEDGEMENT (R106)
  | atomicReply  -- ATOMIC_REPLY (R388)
  | holdAnswer  -- HOLD_ANSWER (R94)
  | managementEthernetFrame (f : EthFrame)  -- MANAGEMENT_ETHERNET_FRAME (R422)
  deriving DecidableEq, Repr

end Sys2Proof
end

