-- ==== Sys2Proof/WellFormed.lean ====
section
/-!
DEFINITION. WellFormed.lean: what decode refuses after the cell and the length are known: reserved values of enumerated
fields (ILLOP, spec/02 R59 rows 4 and 5) and register fields outside their file (ILLOPD, R59 row 6, R42, R43).
-/

namespace Sys2Proof

/-- The verdict on an instruction: `none` well formed, `some none` ILLOP, `some (some k)` ILLOPD whose offending field
begins at bit `k` of the first word (R43). -/
abbrev Verdict := Option (Option (BitVec 8))

namespace Check

/-- ILLOP unless `b` (R59 rows 4 and 5). -/
def illopUnless (b : Bool) : Verdict := if b then none else some none

/-- ILLOPD naming the field at bit `k` unless `b` (R59 row 6, R43). -/
def illopdUnless (b : Bool) (k : BitVec 8) : Verdict := if b then none else some (some k)

/-- R62: FN 5 and 6 of a rounding field are reserved. -/
def roundOk (f : BitVec 3) : Verdict := illopUnless (f != 5 && f != 6)

/-- R63: scope codes 5 to 7 are reserved. -/
def scopeOk (s : BitVec 3) : Verdict := illopUnless (s.toNat < 5)

/-- R72: an `xfence` MASK names at least two classes. -/
def maskOk (m : BitVec 6) : Verdict :=
  illopUnless (decide (2 ≤ m[0].toNat + m[1].toNat + m[2].toNat + m[3].toNat + m[4].toNat + m[5].toNat))

/-- R68: `fsgn` has three forms. -/
def signOk (j : BitVec 2) : Verdict := illopUnless (j != 3)

/-- R139: the conversion codes of `fcvt`: SAT only with DIR 0 and T 6 or 7, T below 9. -/
def cvtOk (c : BitVec 6) : Verdict :=
  let t := c.extractLsb' 0 4
  illopUnless (decide (t.toNat < 9) && (!c.getLsbD 5 || (!c.getLsbD 4 && (t == 6 || t == 7))))

/-- R119: the assigned CSR numbers. -/
def csrAssigned (c : BitVec 12) : Bool :=
  let n := c.toNat
  n ≤ 0x006 || (0x010 ≤ n && n ≤ 0x015) || (0x020 ≤ n && n ≤ 0x023) || (0x100 ≤ n && n ≤ 0x105) ||
    (0x200 ≤ n && n ≤ 0x222)

/-- R120: a CSR instruction naming an unassigned number raises ILLOP at decode. -/
def csrOk (c : BitVec 12) : Verdict := illopUnless (csrAssigned c)

/-- R77: `admode` has the modes 0 to 2. -/
def modeOk (m : BitVec 2) : Verdict := illopUnless (m != 3)

/-- R47: a swizzle mode only with SPACE 1. -/
def swzOk (space : BitVec 2) (swz : BitVec 3) : Verdict := illopUnless (swz == 0 || space == 1)

/-- R42: a register field below the size of its file. -/
def below (n : Nat) (r : Reg) (k : BitVec 8) : Verdict := illopdUnless (decide (r.toNat < n)) k

/-- R43: a scalar pair is named by its even register. -/
def even (r : Reg) (k : BitVec 8) : Verdict := illopdUnless (!r[0]) k

/-- R130: an immediate shift amount is 0 to 63. -/
def shiftOk (i : BitVec 9) : Verdict := illopdUnless (decide (i.toNat < 64)) 23

/-- R130: a literal shift amount is 0 to 63; the offending field is the one the literal replaces. -/
def shiftLitOk (l : Word) : Verdict := illopdUnless (decide (l.toNat < 64)) 23

/-- R165: the field selectors of `hset` and `hget` are 0 to 21. -/
def selectorOk (i : BitVec 9) : Verdict := illopdUnless (decide (i.toNat < 22)) 23

/-- The first verdict that is not `none`, in the order of R59. Log entry 7 (DEDUCED). -/
def first : List Verdict → Verdict
  | [] => none
  | v :: vs => match v with
    | none => first vs
    | some r => some r

end Check

open Check in
/-- The checks of R59 rows 4 to 6 on an instruction's fields, ILLOP before ILLOPD; of several register fields out of range
the lowest is named. An event has no word and nothing to refuse. Log entry 7 (DEDUCED). -/
def Instr.verdict : Instr → Verdict
  | .add _ _ _ => none
  | .sub _ _ _ => none
  | .mul _ _ _ => none
  | .mulhS _ _ _ => none
  | .mulhZ _ _ _ => none
  | .divS _ _ _ => none
  | .divZ _ _ _ => none
  | .remS _ _ _ => none
  | .remZ _ _ _ => none
  | .and _ _ _ => none
  | .or _ _ _ => none
  | .xor _ _ _ => none
  | .andn _ _ _ => none
  | .shl _ _ _ => none
  | .shr _ _ _ => none
  | .sha _ _ _ => none
  | .minS _ _ _ => none
  | .minZ _ _ _ => none
  | .maxS _ _ _ => none
  | .maxZ _ _ _ => none
  | .sel _ _ _ => none
  | .clz _ _ => none
  | .popc _ _ => none
  | .extS _ _ _ => none
  | .extZ _ _ _ => none
  | .ins _ _ _ => none
  | .lea _ _ _ _ => none
  | .rot _ _ _ => none
  | .bswap _ _ => none
  | .addi _ _ _ => none
  | .addiLit _ _ _ => none
  | .andi _ _ _ => none
  | .andiLit _ _ _ => none
  | .ori _ _ _ => none
  | .oriLit _ _ _ => none
  | .xori _ _ _ => none
  | .xoriLit _ _ _ => none
  | .shli _ _ i => shiftOk i
  | .shliLit _ _ l => shiftLitOk l
  | .shri _ _ i => shiftOk i
  | .shriLit _ _ l => shiftLitOk l
  | .shai _ _ i => shiftOk i
  | .shaiLit _ _ l => shiftLitOk l
  | .li _ _ => none
  | .liLit _ _ => none
  | .leasw _ _ _ => none
  | .cmpEq _ _ _ => none
  | .cmpNe _ _ _ => none
  | .cmpLtS _ _ _ => none
  | .cmpLtZ _ _ _ => none
  | .cmpLeS _ _ _ => none
  | .cmpLeZ _ _ _ => none
  | .cmpiEq _ _ _ => none
  | .cmpiEqLit _ _ _ => none
  | .cmpiNe _ _ _ => none
  | .cmpiNeLit _ _ _ => none
  | .cmpiLtS _ _ _ => none
  | .cmpiLtSLit _ _ _ => none
  | .cmpiLtZ _ _ _ => none
  | .cmpiLtZLit _ _ _ => none
  | .cmpiLeS _ _ _ => none
  | .cmpiLeSLit _ _ _ => none
  | .cmpiLeZ _ _ _ => none
  | .cmpiLeZLit _ _ _ => none
  | .nop => none
  | .faddF32 _ _ _ f => roundOk f
  | .faddF64 _ _ _ f => roundOk f
  | .fsubF32 _ _ _ f => roundOk f
  | .fsubF64 _ _ _ f => roundOk f
  | .fmulF32 _ _ _ f => roundOk f
  | .fmulF64 _ _ _ f => roundOk f
  | .fdivF32 _ _ _ f => roundOk f
  | .fdivF64 _ _ _ f => roundOk f
  | .fsqrtF32 _ _ f => roundOk f
  | .fsqrtF64 _ _ f => roundOk f
  | .ffmaF32 _ _ _ f => roundOk f
  | .ffmaF64 _ _ _ f => roundOk f
  | .fminF32 _ _ _ => none
  | .fminF64 _ _ _ => none
  | .fmaxF32 _ _ _ => none
  | .fmaxF64 _ _ _ => none
  | .fcmpF32 _ _ _ _ => none
  | .fcmpF64 _ _ _ _ => none
  | .fcvtF32 _ _ f c => first [roundOk f, cvtOk c]
  | .fcvtF64 _ _ f c => first [roundOk f, cvtOk c]
  | .fclassF32 _ _ => none
  | .fclassF64 _ _ => none
  | .fsgnF32 _ _ _ j => signOk j
  | .fsgnF64 _ _ _ j => signOk j
  | .br _ => none
  | .brLit _ => none
  | .bcEq _ _ => none
  | .bcEqLit _ _ => none
  | .bcNe _ _ => none
  | .bcNeLit _ _ => none
  | .bcLt _ _ => none
  | .bcLtLit _ _ => none
  | .bcGe _ _ => none
  | .bcGeLit _ _ => none
  | .bcLe _ _ => none
  | .bcLeLit _ _ => none
  | .bcGt _ _ => none
  | .bcGtLit _ _ => none
  | .jmp _ _ => none
  | .jmpLit _ _ => none
  | .call _ _ => none
  | .callLit _ _ => none
  | .ret _ => none
  | .loop _ _ => none
  | .loopLit _ _ => none
  | .endAct => none
  | .trap _ => none
  | .eret => none
  | .csrr _ c => csrOk c
  | .csrw _ c => csrOk c
  | .csrs _ c => csrOk c
  | .csrc _ c => csrOk c
  | .bkpt _ => none
  | .synci _ => none
  | .idle _ => none
  | .idleExpiry => none
  | .ldS8 _ _ _ => none
  | .ldS8Lit _ _ _ => none
  | .ldS8Ext _ _ space swz _ => swzOk space swz
  | .ldS8ExtLit _ _ space swz _ => swzOk space swz
  | .ldZ8 _ _ _ => none
  | .ldZ8Lit _ _ _ => none
  | .ldZ8Ext _ _ space swz _ => swzOk space swz
  | .ldZ8ExtLit _ _ space swz _ => swzOk space swz
  | .ldS16 _ _ _ => none
  | .ldS16Lit _ _ _ => none
  | .ldS16Ext _ _ space swz _ => swzOk space swz
  | .ldS16ExtLit _ _ space swz _ => swzOk space swz
  | .ldZ16 _ _ _ => none
  | .ldZ16Lit _ _ _ => none
  | .ldZ16Ext _ _ space swz _ => swzOk space swz
  | .ldZ16ExtLit _ _ space swz _ => swzOk space swz
  | .ldS32 _ _ _ => none
  | .ldS32Lit _ _ _ => none
  | .ldS32Ext _ _ space swz _ => swzOk space swz
  | .ldS32ExtLit _ _ space swz _ => swzOk space swz
  | .ldZ32 _ _ _ => none
  | .ldZ32Lit _ _ _ => none
  | .ldZ32Ext _ _ space swz _ => swzOk space swz
  | .ldZ32ExtLit _ _ space swz _ => swzOk space swz
  | .ld64 _ _ _ => none
  | .ld64Lit _ _ _ => none
  | .ld64Ext _ _ space swz _ => swzOk space swz
  | .ld64ExtLit _ _ space swz _ => swzOk space swz
  | .ld128 d _ _ => even d 11
  | .ld128Lit d _ _ => even d 11
  | .ld128Ext d _ space swz _ => first [swzOk space swz, even d 11]
  | .ld128ExtLit d _ space swz _ => first [swzOk space swz, even d 11]
  | .st8 _ _ _ => none
  | .st8Lit _ _ _ => none
  | .st8Ext _ _ space swz _ => swzOk space swz
  | .st8ExtLit _ _ space swz _ => swzOk space swz
  | .st16 _ _ _ => none
  | .st16Lit _ _ _ => none
  | .st16Ext _ _ space swz _ => swzOk space swz
  | .st16ExtLit _ _ space swz _ => swzOk space swz
  | .st32 _ _ _ => none
  | .st32Lit _ _ _ => none
  | .st32Ext _ _ space swz _ => swzOk space swz
  | .st32ExtLit _ _ space swz _ => swzOk space swz
  | .st64 _ _ _ => none
  | .st64Lit _ _ _ => none
  | .st64Ext _ _ space swz _ => swzOk space swz
  | .st64ExtLit _ _ space swz _ => swzOk space swz
  | .st128 d _ _ => even d 11
  | .st128Lit d _ _ => even d 11
  | .st128Ext d _ space swz _ => first [swzOk space swz, even d 11]
  | .st128ExtLit d _ space swz _ => first [swzOk space swz, even d 11]
  | .ldf _ _ _ => none
  | .ldsS8 _ _ _ => none
  | .ldsZ8 _ _ _ => none
  | .ldsS16 _ _ _ => none
  | .ldsZ16 _ _ _ => none
  | .ldsS32 _ _ _ => none
  | .ldsZ32 _ _ _ => none
  | .lds64 _ _ _ => none
  | .sts8 _ _ _ => none
  | .sts16 _ _ _ => none
  | .sts32 _ _ _ => none
  | .sts64 _ _ _ => none
  | .amoAdd32 _ _ _ s => scopeOk s
  | .amoAdd64 _ _ _ s => scopeOk s
  | .amoMinS32 _ _ _ s => scopeOk s
  | .amoMinS64 _ _ _ s => scopeOk s
  | .amoMinZ32 _ _ _ s => scopeOk s
  | .amoMinZ64 _ _ _ s => scopeOk s
  | .amoMaxS32 _ _ _ s => scopeOk s
  | .amoMaxS64 _ _ _ s => scopeOk s
  | .amoMaxZ32 _ _ _ s => scopeOk s
  | .amoMaxZ64 _ _ _ s => scopeOk s
  | .amoAnd32 _ _ _ s => scopeOk s
  | .amoAnd64 _ _ _ s => scopeOk s
  | .amoOr32 _ _ _ s => scopeOk s
  | .amoOr64 _ _ _ s => scopeOk s
  | .amoXor32 _ _ _ s => scopeOk s
  | .amoXor64 _ _ _ s => scopeOk s
  | .amoXchg32 _ _ _ s => scopeOk s
  | .amoXchg64 _ _ _ s => scopeOk s
  | .amoCas32 _ _ _ s => scopeOk s
  | .amoCas64 _ _ _ s => scopeOk s
  | .amoCas128 d _ b s => first [scopeOk s, even d 11, even b 23]
  | .amoFaddF32 _ _ _ s => scopeOk s
  | .ldx32 _ _ s => scopeOk s
  | .ldx64 _ _ s => scopeOk s
  | .stx32 _ _ s => scopeOk s
  | .stx64 _ _ s => scopeOk s
  | .ldacq64 _ _ s => scopeOk s
  | .strel64 _ _ s => scopeOk s
  | .fence s => scopeOk s
  | .xfence s m => first [scopeOk s, maskOk m]
  | .vaddVv d a b f => first [roundOk f, below 32 d 11, below 32 a 17, below 32 b 23]
  | .vaddVs d a _ f => first [roundOk f, below 32 d 11, below 32 a 17]
  | .vaddVq d a b f => first [roundOk f, below 32 d 11, below 32 a 17, below 8 b 23]
  | .vsubVv d a b f => first [roundOk f, below 32 d 11, below 32 a 17, below 32 b 23]
  | .vsubVs d a _ f => first [roundOk f, below 32 d 11, below 32 a 17]
  | .vsubVq d a b f => first [roundOk f, below 32 d 11, below 32 a 17, below 8 b 23]
  | .vmulVv d a b f => first [roundOk f, below 32 d 11, below 32 a 17, below 32 b 23]
  | .vmulVs d a _ f => first [roundOk f, below 32 d 11, below 32 a 17]
  | .vmulVq d a b f => first [roundOk f, below 32 d 11, below 32 a 17, below 8 b 23]
  | .vminVv d a b => first [below 32 d 11, below 32 a 17, below 32 b 23]
  | .vminVs d a _ => first [below 32 d 11, below 32 a 17]
  | .vminVq d a b => first [below 32 d 11, below 32 a 17, below 8 b 23]
  | .vmaxVv d a b => first [below 32 d 11, below 32 a 17, below 32 b 23]
  | .vmaxVs d a _ => first [below 32 d 11, below 32 a 17]
  | .vmaxVq d a b => first [below 32 d 11, below 32 a 17, below 8 b 23]
  | .vfmaVv d a b f => first [roundOk f, below 32 d 11, below 32 a 17, below 32 b 23]
  | .vfmaVs d a _ f => first [roundOk f, below 32 d 11, below 32 a 17]
  | .vfmaVq d a b f => first [roundOk f, below 32 d 11, below 32 a 17, below 8 b 23]
  | .vabs d a => first [below 32 d 11, below 32 a 17]
  | .vneg d a => first [below 32 d 11, below 32 a 17]
  | .vcvt d a f _ => first [roundOk f, below 32 d 11, below 32 a 17]
  | .vscale d a _ f => first [roundOk f, below 32 d 11, below 32 a 17]
  | .vsum _ a f => first [roundOk f, below 32 a 17]
  | .vdot _ a b f => first [roundOk f, below 32 a 17, below 32 b 23]
  | .vdotQ _ a b f => first [roundOk f, below 32 a 17, below 8 b 23]
  | .vcmp d a b _ => first [below 32 d 11, below 32 a 17, below 32 b 23]
  | .vsel d a b => first [below 32 d 11, below 32 a 17, below 32 b 23]
  | .vclass d a => first [below 32 d 11, below 32 a 17]
  | .vcopy d a => first [below 32 d 11, below 32 a 17]
  | .vcopyW d a => first [below 32 d 11, below 16 a 17]
  | .vcopyWAll d a => first [below 32 d 11, below 16 a 17]
  | .vfill d _ => below 32 d 11
  | .vfillI d _ => below 32 d 11
  | .vfillB d _ => below 32 d 11
  | .vgath d a b => first [below 32 d 11, below 32 a 17, below 32 b 23]
  | .vq4 d a _ => first [below 32 d 11, below 32 a 17]
  | .vrng d _ => below 32 d 11
  | .vmaxabs _ a => below 32 a 17
  | .viadd d a b => first [below 32 d 11, below 32 a 17, below 32 b 23]
  | .visub d a b => first [below 32 d 11, below 32 a 17, below 32 b 23]
  | .vimul d a b => first [below 32 d 11, below 32 a 17, below 32 b 23]
  | .viand d a b => first [below 32 d 11, below 32 a 17, below 32 b 23]
  | .vior d a b => first [below 32 d 11, below 32 a 17, below 32 b 23]
  | .vixor d a b => first [below 32 d 11, below 32 a 17, below 32 b 23]
  | .vishl d a b => first [below 32 d 11, below 32 a 17, below 32 b 23]
  | .vishr d a b _ => first [below 32 d 11, below 32 a 17, below 32 b 23]
  | .vidx d _ _ => below 32 d 11
  | .vpack d a b => first [below 32 d 11, below 32 a 17, below 32 b 23]
  | .vunpk d a _ => first [below 32 d 11, below 32 a 17]
  | .vrcp d a f => first [roundOk f, below 32 d 11, below 32 a 17]
  | .vrsqrt d a f => first [roundOk f, below 32 d 11, below 32 a 17]
  | .waitf d _ _ => below 32 d 11
  | .waitfLit d _ _ => below 32 d 11
  | .waite d _ _ => below 32 d 11
  | .waiteLit d _ _ => below 32 d 11
  | .advp d _ _ => below 32 d 11
  | .advpLit d _ _ => below 32 d 11
  | .advc d _ _ => below 32 d 11
  | .advcLit d _ _ => below 32 d 11
  | .hset d _ i => first [below 32 d 11, selectorOk i]
  | .hget _ a i => first [below 32 a 17, selectorOk i]
  | .hmov _ _ => none
  | .hld d _ _ => below 32 d 11
  | .hldLit d _ _ => below 32 d 11
  | .hst d _ _ => below 32 d 11
  | .hstLit d _ _ => below 32 d 11
  | .send _ _ _ => none
  | .sendSp _ _ _ => none
  | .sendCode _ _ _ => none
  | .sendNz _ _ _ => none
  | .sendw _ _ _ => none
  | .sendwSp _ _ _ => none
  | .sendwCode _ _ _ => none
  | .sendwNz _ _ _ => none
  | .relw d => below 16 d 11
  | .wcnt _ a => below 16 a 17
  | .ckpt => none
  | .yield => none
  | .tstamp _ => none
  | .spawn _ _ _ => none
  | .abort => none
  | .fnfit d a _ _ => first [below 16 d 11, below 32 a 17]
  | .fnld d _ _ => below 16 d 11
  | .fnldLit d _ _ => below 16 d 11
  | .fnst d _ _ => below 16 d 11
  | .fnstLit d _ _ => below 16 d 11
  | .fnadd d a b _ => first [below 16 d 11, below 16 a 17, below 16 b 23]
  | .fnsub d a b _ => first [below 16 d 11, below 16 a 17, below 16 b 23]
  | .fnmul d a b _ => first [below 16 d 11, below 16 a 17, below 16 b 23]
  | .fnscale d a _ _ => first [below 16 d 11, below 16 a 17]
  | .fncomp d a b _ => first [below 16 d 11, below 16 a 17, below 16 b 23]
  | .fnint d a _ => first [below 16 d 11, below 16 a 17]
  | .fnder d a _ => first [below 16 d 11, below 16 a 17]
  | .fnroot _ a _ => below 16 a 17
  | .fneval d a b _ => first [below 32 d 11, below 16 a 17, below 32 b 23]
  | .fnevs _ a _ _ => below 16 a 17
  | .fntrunc d a _ _ => first [below 16 d 11, below 16 a 17]
  | .fndom d _ _ => below 16 d 11
  | .fnfree d => below 16 d 11
  | .fnlen _ a => below 16 a 17
  | .fnmov d a _ => first [below 16 d 11, below 16 a 17]
  | .pdict a => below 32 a 17
  | .pimg a => below 32 a 17
  | .pthr _ _ => none
  | .penc d a _ => first [below 32 d 11, below 32 a 17]
  | .pacc d a => first [below 32 d 11, below 16 a 17]
  | .pesc d a => first [below 32 d 11, below 16 a 17]
  | .pdec d a => first [below 32 d 11, below 16 a 17]
  | .pgrad d a b => first [below 32 d 11, below 32 a 17, below 16 b 23]
  | .pstat _ => none
  | .mxq _ _ => none
  | .mxseq _ => none
  | .mxwait _ => none
  | .accmv _ a _ => below 4 a 17
  | .accpk d a _ => first [even d 11, below 4 a 17]
  | .mxLdw => none
  | .mxMma _ => none
  | .mxMmat _ => none
  | .mxStacc => none
  | .mxZero => none
  | .mxChk => none
  | .admode m => modeOk m
  | .adld _ _ _ => none
  | .adldLit _ _ _ => none
  | .adst _ _ _ => none
  | .adstLit _ _ _ => none
  | .adclr _ _ _ => none
  | .adclrLit _ _ _ => none
  | .tmark _ => none
  | .trew _ => none
  | .tstat _ => none
  | .lkset _ => none
  | .lkget _ => none
  | .qbind d _ => below 8 d 11
  | .qpush d _ => below 8 d 11
  | .nxld _ _ _ => none
  | .nxst _ _ _ => none
  | .balloc _ => none
  | .bfree _ => none
  | .barr _ _ _ _ => none
  | .barrM _ _ _ _ => none
  | .barrMCs _ _ _ _ => none
  | .bwait _ _ _ => none
  | .bwaitCs _ _ _ => none
  | .bwaitGv _ _ _ => none
  | .btest _ _ _ => none
  | .btestCs _ _ _ => none
  | .btestGv _ _ _ => none
  | .barto => none
  | .barrierChangeNotice => none
  | .capxfer _ _ => none
  | .capq _ _ => none
  | .circ _ _ _ => none
  | .circrel _ => none
  | .sopen _ _ _ => none
  | .sclose _ => none
  | .cp d a _ => first [below 32 d 11, below 32 a 17]
  | .cpt d a _ => first [below 32 d 11, below 32 a 17]
  | .gath d a b _ => first [below 32 d 11, below 32 a 17, below 32 b 23]
  | .cpwp _ _ => none
  | .cpwait _ => none
  | .engseq _ _ => none
  | .halo d a _ => first [below 32 d 11, below 32 a 17]
  | .lclock _ => none
  | .engineUnit _ => none
  | .pst _ _ _ => none
  | .pstLit _ _ _ => none
  | .pstb d _ _ => below 32 d 11
  | .pstbLit d _ _ => below 32 d 11
  | .redst _ _ _ => none
  | .redstLit _ _ _ => none
  | .redq _ _ => none
  | .wake _ => none
  | .sigx _ => none
  | .mark _ _ => none
  | .packetPlacement _ _ => none
  | .unboundArrivalAnswer _ _ => none
  | .activationStart => none
  | .heldRequest _ _ => none
  | .applyNotice _ _ _ _ => none
  | .dropNotice _ _ => none
  | .commitAcknowledgement => none
  | .speculationEnd => none
  | .preempt _ => none
  | .contextSave => none
  | .contextResume _ => none
  | .partitionSwitch _ => none
  | .parkedActivationReturn _ _ => none
  | .linkPassThrough _ _ => none
  | .circuitIdleTimeout _ => none
  | .closingMarker _ => none
  | .setupFlit _ _ => none
  | .setupGrant _ => none
  | .syncPacket _ _ _ _ => none
  | .wakePlacement _ _ _ _ => none
  | .kernelInstall _ => none
  | .kernelRemoval _ => none
  | .slotRecordWrite _ _ _ => none
  | .quantumEnd => none
  | .clockChange _ => none
  | .thermalThrottle _ => none
  | .thermalPreemption => none
  | .thermalResume => none
  | .thermalTrip => none
  | .boot _ => none
  | .attestationRequest _ => none
  | .hostBarAccess _ => none
  | .hostDma _ => none
  | .sliceAccess _ => none
  | .hbmFill _ _ => none
  | .calderaRefreshStart _ => none
  | .calderaRefreshEnd _ => none
  | .tlbWalk _ _ => none
  | .firmwareInvalidation _ => none
  | .migration _ _ _ => none
  | .migrationCopyComplete _ _ => none
  | .hotnessRead _ => none
  | .uncorrectableError _ => none
  | .correctableError _ _ => none
  | .fabricRequest _ _ _ => none
  | .fabricResendTimeout _ _ => none
  | .flitCrcFailure _ => none
  | .onDieLinkCrcFailure _ _ => none
  | .leaseRecall _ => none
  | .leaseHolderFailed _ => none
  | .reduceContribution _ _ _ _ => none
  | .geyserTick _ => none
  | .counterRotate => none
  | .debugStop _ => none
  | .debugResume => none
  | .breakResume => none
  | .patch _ _ => none
  | .replayLogDrain => none
  | .frmWrite _ => none
  | .fntolWrite _ => none
  | .pmselWrite _ => none
  | .csrWrite _ _ => none
  | .nonInstruction _ _ => none
  | .placementAcknowledgement => none
  | .atomicReply => none
  | .holdAnswer => none
  | .managementEthernetFrame _ => none

/-- An instruction whose fields decode accepts (R59). -/
def Instr.wf (i : Instr) : Bool := i.verdict == none

/-- An event row of the table, which no word encodes. -/
def Instr.isEvent : Instr → Bool
  | .add _ _ _ => false
  | .sub _ _ _ => false
  | .mul _ _ _ => false
  | .mulhS _ _ _ => false
  | .mulhZ _ _ _ => false
  | .divS _ _ _ => false
  | .divZ _ _ _ => false
  | .remS _ _ _ => false
  | .remZ _ _ _ => false
  | .and _ _ _ => false
  | .or _ _ _ => false
  | .xor _ _ _ => false
  | .andn _ _ _ => false
  | .shl _ _ _ => false
  | .shr _ _ _ => false
  | .sha _ _ _ => false
  | .minS _ _ _ => false
  | .minZ _ _ _ => false
  | .maxS _ _ _ => false
  | .maxZ _ _ _ => false
  | .sel _ _ _ => false
  | .clz _ _ => false
  | .popc _ _ => false
  | .extS _ _ _ => false
  | .extZ _ _ _ => false
  | .ins _ _ _ => false
  | .lea _ _ _ _ => false
  | .rot _ _ _ => false
  | .bswap _ _ => false
  | .addi _ _ _ => false
  | .addiLit _ _ _ => false
  | .andi _ _ _ => false
  | .andiLit _ _ _ => false
  | .ori _ _ _ => false
  | .oriLit _ _ _ => false
  | .xori _ _ _ => false
  | .xoriLit _ _ _ => false
  | .shli _ _ _ => false
  | .shliLit _ _ _ => false
  | .shri _ _ _ => false
  | .shriLit _ _ _ => false
  | .shai _ _ _ => false
  | .shaiLit _ _ _ => false
  | .li _ _ => false
  | .liLit _ _ => false
  | .leasw _ _ _ => false
  | .cmpEq _ _ _ => false
  | .cmpNe _ _ _ => false
  | .cmpLtS _ _ _ => false
  | .cmpLtZ _ _ _ => false
  | .cmpLeS _ _ _ => false
  | .cmpLeZ _ _ _ => false
  | .cmpiEq _ _ _ => false
  | .cmpiEqLit _ _ _ => false
  | .cmpiNe _ _ _ => false
  | .cmpiNeLit _ _ _ => false
  | .cmpiLtS _ _ _ => false
  | .cmpiLtSLit _ _ _ => false
  | .cmpiLtZ _ _ _ => false
  | .cmpiLtZLit _ _ _ => false
  | .cmpiLeS _ _ _ => false
  | .cmpiLeSLit _ _ _ => false
  | .cmpiLeZ _ _ _ => false
  | .cmpiLeZLit _ _ _ => false
  | .nop => false
  | .faddF32 _ _ _ _ => false
  | .faddF64 _ _ _ _ => false
  | .fsubF32 _ _ _ _ => false
  | .fsubF64 _ _ _ _ => false
  | .fmulF32 _ _ _ _ => false
  | .fmulF64 _ _ _ _ => false
  | .fdivF32 _ _ _ _ => false
  | .fdivF64 _ _ _ _ => false
  | .fsqrtF32 _ _ _ => false
  | .fsqrtF64 _ _ _ => false
  | .ffmaF32 _ _ _ _ => false
  | .ffmaF64 _ _ _ _ => false
  | .fminF32 _ _ _ => false
  | .fminF64 _ _ _ => false
  | .fmaxF32 _ _ _ => false
  | .fmaxF64 _ _ _ => false
  | .fcmpF32 _ _ _ _ => false
  | .fcmpF64 _ _ _ _ => false
  | .fcvtF32 _ _ _ _ => false
  | .fcvtF64 _ _ _ _ => false
  | .fclassF32 _ _ => false
  | .fclassF64 _ _ => false
  | .fsgnF32 _ _ _ _ => false
  | .fsgnF64 _ _ _ _ => false
  | .br _ => false
  | .brLit _ => false
  | .bcEq _ _ => false
  | .bcEqLit _ _ => false
  | .bcNe _ _ => false
  | .bcNeLit _ _ => false
  | .bcLt _ _ => false
  | .bcLtLit _ _ => false
  | .bcGe _ _ => false
  | .bcGeLit _ _ => false
  | .bcLe _ _ => false
  | .bcLeLit _ _ => false
  | .bcGt _ _ => false
  | .bcGtLit _ _ => false
  | .jmp _ _ => false
  | .jmpLit _ _ => false
  | .call _ _ => false
  | .callLit _ _ => false
  | .ret _ => false
  | .loop _ _ => false
  | .loopLit _ _ => false
  | .endAct => false
  | .trap _ => false
  | .eret => false
  | .csrr _ _ => false
  | .csrw _ _ => false
  | .csrs _ _ => false
  | .csrc _ _ => false
  | .bkpt _ => false
  | .synci _ => false
  | .idle _ => false
  | .idleExpiry => true
  | .ldS8 _ _ _ => false
  | .ldS8Lit _ _ _ => false
  | .ldS8Ext _ _ _ _ _ => false
  | .ldS8ExtLit _ _ _ _ _ => false
  | .ldZ8 _ _ _ => false
  | .ldZ8Lit _ _ _ => false
  | .ldZ8Ext _ _ _ _ _ => false
  | .ldZ8ExtLit _ _ _ _ _ => false
  | .ldS16 _ _ _ => false
  | .ldS16Lit _ _ _ => false
  | .ldS16Ext _ _ _ _ _ => false
  | .ldS16ExtLit _ _ _ _ _ => false
  | .ldZ16 _ _ _ => false
  | .ldZ16Lit _ _ _ => false
  | .ldZ16Ext _ _ _ _ _ => false
  | .ldZ16ExtLit _ _ _ _ _ => false
  | .ldS32 _ _ _ => false
  | .ldS32Lit _ _ _ => false
  | .ldS32Ext _ _ _ _ _ => false
  | .ldS32ExtLit _ _ _ _ _ => false
  | .ldZ32 _ _ _ => false
  | .ldZ32Lit _ _ _ => false
  | .ldZ32Ext _ _ _ _ _ => false
  | .ldZ32ExtLit _ _ _ _ _ => false
  | .ld64 _ _ _ => false
  | .ld64Lit _ _ _ => false
  | .ld64Ext _ _ _ _ _ => false
  | .ld64ExtLit _ _ _ _ _ => false
  | .ld128 _ _ _ => false
  | .ld128Lit _ _ _ => false
  | .ld128Ext _ _ _ _ _ => false
  | .ld128ExtLit _ _ _ _ _ => false
  | .st8 _ _ _ => false
  | .st8Lit _ _ _ => false
  | .st8Ext _ _ _ _ _ => false
  | .st8ExtLit _ _ _ _ _ => false
  | .st16 _ _ _ => false
  | .st16Lit _ _ _ => false
  | .st16Ext _ _ _ _ _ => false
  | .st16ExtLit _ _ _ _ _ => false
  | .st32 _ _ _ => false
  | .st32Lit _ _ _ => false
  | .st32Ext _ _ _ _ _ => false
  | .st32ExtLit _ _ _ _ _ => false
  | .st64 _ _ _ => false
  | .st64Lit _ _ _ => false
  | .st64Ext _ _ _ _ _ => false
  | .st64ExtLit _ _ _ _ _ => false
  | .st128 _ _ _ => false
  | .st128Lit _ _ _ => false
  | .st128Ext _ _ _ _ _ => false
  | .st128ExtLit _ _ _ _ _ => false
  | .ldf _ _ _ => false
  | .ldsS8 _ _ _ => false
  | .ldsZ8 _ _ _ => false
  | .ldsS16 _ _ _ => false
  | .ldsZ16 _ _ _ => false
  | .ldsS32 _ _ _ => false
  | .ldsZ32 _ _ _ => false
  | .lds64 _ _ _ => false
  | .sts8 _ _ _ => false
  | .sts16 _ _ _ => false
  | .sts32 _ _ _ => false
  | .sts64 _ _ _ => false
  | .amoAdd32 _ _ _ _ => false
  | .amoAdd64 _ _ _ _ => false
  | .amoMinS32 _ _ _ _ => false
  | .amoMinS64 _ _ _ _ => false
  | .amoMinZ32 _ _ _ _ => false
  | .amoMinZ64 _ _ _ _ => false
  | .amoMaxS32 _ _ _ _ => false
  | .amoMaxS64 _ _ _ _ => false
  | .amoMaxZ32 _ _ _ _ => false
  | .amoMaxZ64 _ _ _ _ => false
  | .amoAnd32 _ _ _ _ => false
  | .amoAnd64 _ _ _ _ => false
  | .amoOr32 _ _ _ _ => false
  | .amoOr64 _ _ _ _ => false
  | .amoXor32 _ _ _ _ => false
  | .amoXor64 _ _ _ _ => false
  | .amoXchg32 _ _ _ _ => false
  | .amoXchg64 _ _ _ _ => false
  | .amoCas32 _ _ _ _ => false
  | .amoCas64 _ _ _ _ => false
  | .amoCas128 _ _ _ _ => false
  | .amoFaddF32 _ _ _ _ => false
  | .ldx32 _ _ _ => false
  | .ldx64 _ _ _ => false
  | .stx32 _ _ _ => false
  | .stx64 _ _ _ => false
  | .ldacq64 _ _ _ => false
  | .strel64 _ _ _ => false
  | .fence _ => false
  | .xfence _ _ => false
  | .vaddVv _ _ _ _ => false
  | .vaddVs _ _ _ _ => false
  | .vaddVq _ _ _ _ => false
  | .vsubVv _ _ _ _ => false
  | .vsubVs _ _ _ _ => false
  | .vsubVq _ _ _ _ => false
  | .vmulVv _ _ _ _ => false
  | .vmulVs _ _ _ _ => false
  | .vmulVq _ _ _ _ => false
  | .vminVv _ _ _ => false
  | .vminVs _ _ _ => false
  | .vminVq _ _ _ => false
  | .vmaxVv _ _ _ => false
  | .vmaxVs _ _ _ => false
  | .vmaxVq _ _ _ => false
  | .vfmaVv _ _ _ _ => false
  | .vfmaVs _ _ _ _ => false
  | .vfmaVq _ _ _ _ => false
  | .vabs _ _ => false
  | .vneg _ _ => false
  | .vcvt _ _ _ _ => false
  | .vscale _ _ _ _ => false
  | .vsum _ _ _ => false
  | .vdot _ _ _ _ => false
  | .vdotQ _ _ _ _ => false
  | .vcmp _ _ _ _ => false
  | .vsel _ _ _ => false
  | .vclass _ _ => false
  | .vcopy _ _ => false
  | .vcopyW _ _ => false
  | .vcopyWAll _ _ => false
  | .vfill _ _ => false
  | .vfillI _ _ => false
  | .vfillB _ _ => false
  | .vgath _ _ _ => false
  | .vq4 _ _ _ => false
  | .vrng _ _ => false
  | .vmaxabs _ _ => false
  | .viadd _ _ _ => false
  | .visub _ _ _ => false
  | .vimul _ _ _ => false
  | .viand _ _ _ => false
  | .vior _ _ _ => false
  | .vixor _ _ _ => false
  | .vishl _ _ _ => false
  | .vishr _ _ _ _ => false
  | .vidx _ _ _ => false
  | .vpack _ _ _ => false
  | .vunpk _ _ _ => false
  | .vrcp _ _ _ => false
  | .vrsqrt _ _ _ => false
  | .waitf _ _ _ => false
  | .waitfLit _ _ _ => false
  | .waite _ _ _ => false
  | .waiteLit _ _ _ => false
  | .advp _ _ _ => false
  | .advpLit _ _ _ => false
  | .advc _ _ _ => false
  | .advcLit _ _ _ => false
  | .hset _ _ _ => false
  | .hget _ _ _ => false
  | .hmov _ _ => false
  | .hld _ _ _ => false
  | .hldLit _ _ _ => false
  | .hst _ _ _ => false
  | .hstLit _ _ _ => false
  | .send _ _ _ => false
  | .sendSp _ _ _ => false
  | .sendCode _ _ _ => false
  | .sendNz _ _ _ => false
  | .sendw _ _ _ => false
  | .sendwSp _ _ _ => false
  | .sendwCode _ _ _ => false
  | .sendwNz _ _ _ => false
  | .relw _ => false
  | .wcnt _ _ => false
  | .ckpt => false
  | .yield => false
  | .tstamp _ => false
  | .spawn _ _ _ => false
  | .abort => false
  | .fnfit _ _ _ _ => false
  | .fnld _ _ _ => false
  | .fnldLit _ _ _ => false
  | .fnst _ _ _ => false
  | .fnstLit _ _ _ => false
  | .fnadd _ _ _ _ => false
  | .fnsub _ _ _ _ => false
  | .fnmul _ _ _ _ => false
  | .fnscale _ _ _ _ => false
  | .fncomp _ _ _ _ => false
  | .fnint _ _ _ => false
  | .fnder _ _ _ => false
  | .fnroot _ _ _ => false
  | .fneval _ _ _ _ => false
  | .fnevs _ _ _ _ => false
  | .fntrunc _ _ _ _ => false
  | .fndom _ _ _ => false
  | .fnfree _ => false
  | .fnlen _ _ => false
  | .fnmov _ _ _ => false
  | .pdict _ => false
  | .pimg _ => false
  | .pthr _ _ => false
  | .penc _ _ _ => false
  | .pacc _ _ => false
  | .pesc _ _ => false
  | .pdec _ _ => false
  | .pgrad _ _ _ => false
  | .pstat _ => false
  | .mxq _ _ => false
  | .mxseq _ => false
  | .mxwait _ => false
  | .accmv _ _ _ => false
  | .accpk _ _ _ => false
  | .mxLdw => true
  | .mxMma _ => true
  | .mxMmat _ => true
  | .mxStacc => true
  | .mxZero => true
  | .mxChk => true
  | .admode _ => false
  | .adld _ _ _ => false
  | .adldLit _ _ _ => false
  | .adst _ _ _ => false
  | .adstLit _ _ _ => false
  | .adclr _ _ _ => false
  | .adclrLit _ _ _ => false
  | .tmark _ => false
  | .trew _ => false
  | .tstat _ => false
  | .lkset _ => false
  | .lkget _ => false
  | .qbind _ _ => false
  | .qpush _ _ => false
  | .nxld _ _ _ => false
  | .nxst _ _ _ => false
  | .balloc _ => false
  | .bfree _ => false
  | .barr _ _ _ _ => false
  | .barrM _ _ _ _ => false
  | .barrMCs _ _ _ _ => false
  | .bwait _ _ _ => false
  | .bwaitCs _ _ _ => false
  | .bwaitGv _ _ _ => false
  | .btest _ _ _ => false
  | .btestCs _ _ _ => false
  | .btestGv _ _ _ => false
  | .barto => true
  | .barrierChangeNotice => true
  | .capxfer _ _ => false
  | .capq _ _ => false
  | .circ _ _ _ => false
  | .circrel _ => false
  | .sopen _ _ _ => false
  | .sclose _ => false
  | .cp _ _ _ => false
  | .cpt _ _ _ => false
  | .gath _ _ _ _ => false
  | .cpwp _ _ => false
  | .cpwait _ => false
  | .engseq _ _ => false
  | .halo _ _ _ => false
  | .lclock _ => false
  | .engineUnit _ => true
  | .pst _ _ _ => false
  | .pstLit _ _ _ => false
  | .pstb _ _ _ => false
  | .pstbLit _ _ _ => false
  | .redst _ _ _ => false
  | .redstLit _ _ _ => false
  | .redq _ _ => false
  | .wake _ => false
  | .sigx _ => false
  | .mark _ _ => false
  | .packetPlacement _ _ => true
  | .unboundArrivalAnswer _ _ => true
  | .activationStart => true
  | .heldRequest _ _ => true
  | .applyNotice _ _ _ _ => true
  | .dropNotice _ _ => true
  | .commitAcknowledgement => true
  | .speculationEnd => true
  | .preempt _ => true
  | .contextSave => true
  | .contextResume _ => true
  | .partitionSwitch _ => true
  | .parkedActivationReturn _ _ => true
  | .linkPassThrough _ _ => true
  | .circuitIdleTimeout _ => true
  | .closingMarker _ => true
  | .setupFlit _ _ => true
  | .setupGrant _ => true
  | .syncPacket _ _ _ _ => true
  | .wakePlacement _ _ _ _ => true
  | .kernelInstall _ => true
  | .kernelRemoval _ => true
  | .slotRecordWrite _ _ _ => true
  | .quantumEnd => true
  | .clockChange _ => true
  | .thermalThrottle _ => true
  | .thermalPreemption => true
  | .thermalResume => true
  | .thermalTrip => true
  | .boot _ => true
  | .attestationRequest _ => true
  | .hostBarAccess _ => true
  | .hostDma _ => true
  | .sliceAccess _ => true
  | .hbmFill _ _ => true
  | .calderaRefreshStart _ => true
  | .calderaRefreshEnd _ => true
  | .tlbWalk _ _ => true
  | .firmwareInvalidation _ => true
  | .migration _ _ _ => true
  | .migrationCopyComplete _ _ => true
  | .hotnessRead _ => true
  | .uncorrectableError _ => true
  | .correctableError _ _ => true
  | .fabricRequest _ _ _ => true
  | .fabricResendTimeout _ _ => true
  | .flitCrcFailure _ => true
  | .onDieLinkCrcFailure _ _ => true
  | .leaseRecall _ => true
  | .leaseHolderFailed _ => true
  | .reduceContribution _ _ _ _ => true
  | .geyserTick _ => true
  | .counterRotate => true
  | .debugStop _ => true
  | .debugResume => true
  | .breakResume => true
  | .patch _ _ => true
  | .replayLogDrain => true
  | .frmWrite _ => true
  | .fntolWrite _ => true
  | .pmselWrite _ => true
  | .csrWrite _ _ => true
  | .nonInstruction _ _ => true
  | .placementAcknowledgement => true
  | .atomicReply => true
  | .holdAnswer => true
  | .managementEthernetFrame _ => true

end Sys2Proof
end

