-- ==== Sys2Proof/Decode.lean ====
section
/-!
DEFINITION. Decode.lean: from words to instructions (spec/02 R36 to R47, R59; spec/03 R60 to R78), total on any bytes and
rejecting by name; then the encoder, written from the same formats.
-/

namespace Sys2Proof

/-- Why bytes are no instruction (R59): too few bytes for the length LEN states, ILLOP, or ILLOPD with the lowest bit
number of the offending field (R43). -/
inductive DecodeError where
  | truncated
  | illop
  | illopd (bit : BitVec 8)
  deriving DecidableEq, Repr

/-- The words of one instruction, each in its place (R37); the places its length does not have are zero. -/
structure Words where
  w : BitVec 32
  e1 : BitVec 32
  e2 : BitVec 32
  lit : Word
  deriving DecidableEq, Repr

/-- LEN (R36). -/
def lenOf (w : BitVec 32) : BitVec 2 := w.extractLsb' 0 2
/-- OPC (R36). -/
def opcOf (w : BitVec 32) : BitVec 9 := w.extractLsb' 2 9

/-- FN of RRR (R41). -/
def Words.fn (x : Words) : BitVec 3 := x.w.extractLsb' 29 3
/-- B of RRR (R41). -/
def Words.fb (x : Words) : Reg := x.w.extractLsb' 23 6
/-- A of RRR and RRI (R41). -/
def Words.fa (x : Words) : Reg := x.w.extractLsb' 17 6
/-- D of RRR, RRI and RI15, and A of BR (R41). -/
def Words.fd (x : Words) : Reg := x.w.extractLsb' 11 6
/-- IMM9 of RRI (R41). -/
def Words.i9 (x : Words) : BitVec 9 := x.w.extractLsb' 23 9
/-- IMM15 of RI15, and OFF15 of BR (R41). -/
def Words.i15 (x : Words) : BitVec 15 := x.w.extractLsb' 17 15
/-- FN6 of HHH (R41). -/
def Words.fn6 (x : Words) : BitVec 6 := x.w.extractLsb' 26 6
/-- HB of HHH (R41). -/
def Words.hb (x : Words) : BitVec 5 := x.w.extractLsb' 21 5
/-- HA of HHH (R41). -/
def Words.ha (x : Words) : BitVec 5 := x.w.extractLsb' 16 5
/-- HD of HHH (R41). -/
def Words.hd (x : Words) : BitVec 5 := x.w.extractLsb' 11 5
/-- OFF21 of extension word 1 (R44). -/
def Words.eoff (x : Words) : BitVec 21 := x.e1.extractLsb' 11 21
/-- SPACE of extension word 1 (R44). -/
def Words.espace (x : Words) : BitVec 2 := x.e1.extractLsb' 9 2
/-- SWZ of extension word 1 (R44). -/
def Words.eswz (x : Words) : BitVec 3 := x.e1.extractLsb' 6 3
/-- BASE of extension word 1 (R44). -/
def Words.ebase (x : Words) : Reg := x.e1.extractLsb' 0 6

/-- One permitted form of a cell (R61): its LEN, the test that every field it does not use holds its fixed value, and the
instruction it stands for. -/
structure Form where
  len : BitVec 2
  ok : Words → Bool
  build : Words → Instr

/-- Row 0: integer register-register (R66); the cells in column order, each with its forms. -/
def row0 : List (List Form) := [
  [⟨0, fun x => x.fn == 0, fun x => .add x.fd x.fa x.fb⟩],
  [⟨0, fun x => x.fn == 0, fun x => .sub x.fd x.fa x.fb⟩],
  [⟨0, fun x => x.fn == 0, fun x => .mul x.fd x.fa x.fb⟩],
  [⟨0, fun x => x.fn == 0, fun x => .mulhS x.fd x.fa x.fb⟩],
  [⟨0, fun x => x.fn == 0, fun x => .mulhZ x.fd x.fa x.fb⟩],
  [⟨0, fun x => x.fn == 0, fun x => .divS x.fd x.fa x.fb⟩],
  [⟨0, fun x => x.fn == 0, fun x => .divZ x.fd x.fa x.fb⟩],
  [⟨0, fun x => x.fn == 0, fun x => .remS x.fd x.fa x.fb⟩],
  [⟨0, fun x => x.fn == 0, fun x => .remZ x.fd x.fa x.fb⟩],
  [⟨0, fun x => x.fn == 0, fun x => .and x.fd x.fa x.fb⟩],
  [⟨0, fun x => x.fn == 0, fun x => .or x.fd x.fa x.fb⟩],
  [⟨0, fun x => x.fn == 0, fun x => .xor x.fd x.fa x.fb⟩],
  [⟨0, fun x => x.fn == 0, fun x => .andn x.fd x.fa x.fb⟩],
  [⟨0, fun x => x.fn == 0, fun x => .shl x.fd x.fa x.fb⟩],
  [⟨0, fun x => x.fn == 0, fun x => .shr x.fd x.fa x.fb⟩],
  [⟨0, fun x => x.fn == 0, fun x => .sha x.fd x.fa x.fb⟩],
  [⟨0, fun x => x.fn == 0, fun x => .minS x.fd x.fa x.fb⟩],
  [⟨0, fun x => x.fn == 0, fun x => .minZ x.fd x.fa x.fb⟩],
  [⟨0, fun x => x.fn == 0, fun x => .maxS x.fd x.fa x.fb⟩],
  [⟨0, fun x => x.fn == 0, fun x => .maxZ x.fd x.fa x.fb⟩],
  [⟨0, fun x => x.fn == 0, fun x => .sel x.fd x.fa x.fb⟩],
  [⟨0, fun x => x.fn == 0 && x.fb == 0, fun x => .clz x.fd x.fa⟩],
  [⟨0, fun x => x.fn == 0 && x.fb == 0, fun x => .popc x.fd x.fa⟩],
  [⟨0, fun x => x.fn == 0, fun x => .extS x.fd x.fa x.fb⟩],
  [⟨0, fun x => x.fn == 0, fun x => .extZ x.fd x.fa x.fb⟩],
  [⟨0, fun x => x.fn == 0, fun x => .ins x.fd x.fa x.fb⟩],
  [⟨0, fun x => x.fn.extractLsb' 2 1 == 0, fun x => .lea x.fd x.fa x.fb (x.fn.extractLsb' 0 2)⟩],
  [⟨0, fun x => x.fn == 0, fun x => .rot x.fd x.fa x.fb⟩],
  [⟨0, fun x => x.fn == 0 && x.fb == 0, fun x => .bswap x.fd x.fa⟩]]

/-- Row 1: immediates and compares (R67); the cells in column order, each with its forms. -/
def row1 : List (List Form) := [
  [⟨0, fun _ => true, fun x => .addi x.fd x.fa x.i9⟩,
   ⟨1, fun x => x.i9 == 0, fun x => .addiLit x.fd x.fa x.lit⟩],
  [⟨0, fun _ => true, fun x => .andi x.fd x.fa x.i9⟩,
   ⟨1, fun x => x.i9 == 0, fun x => .andiLit x.fd x.fa x.lit⟩],
  [⟨0, fun _ => true, fun x => .ori x.fd x.fa x.i9⟩,
   ⟨1, fun x => x.i9 == 0, fun x => .oriLit x.fd x.fa x.lit⟩],
  [⟨0, fun _ => true, fun x => .xori x.fd x.fa x.i9⟩,
   ⟨1, fun x => x.i9 == 0, fun x => .xoriLit x.fd x.fa x.lit⟩],
  [⟨0, fun _ => true, fun x => .shli x.fd x.fa x.i9⟩,
   ⟨1, fun x => x.i9 == 0, fun x => .shliLit x.fd x.fa x.lit⟩],
  [⟨0, fun _ => true, fun x => .shri x.fd x.fa x.i9⟩,
   ⟨1, fun x => x.i9 == 0, fun x => .shriLit x.fd x.fa x.lit⟩],
  [⟨0, fun _ => true, fun x => .shai x.fd x.fa x.i9⟩,
   ⟨1, fun x => x.i9 == 0, fun x => .shaiLit x.fd x.fa x.lit⟩],
  [⟨0, fun _ => true, fun x => .li x.fd x.i15⟩,
   ⟨1, fun x => x.i15 == 0, fun x => .liLit x.fd x.lit⟩],
  [⟨0, fun x => x.i9.extractLsb' 3 6 == 0, fun x => .leasw x.fd x.fa (x.i9.extractLsb' 0 3)⟩],
  [⟨0, fun x => x.fn == 0, fun x => .cmpEq x.fd x.fa x.fb⟩],
  [⟨0, fun x => x.fn == 0, fun x => .cmpNe x.fd x.fa x.fb⟩],
  [⟨0, fun x => x.fn == 0, fun x => .cmpLtS x.fd x.fa x.fb⟩],
  [⟨0, fun x => x.fn == 0, fun x => .cmpLtZ x.fd x.fa x.fb⟩],
  [⟨0, fun x => x.fn == 0, fun x => .cmpLeS x.fd x.fa x.fb⟩],
  [⟨0, fun x => x.fn == 0, fun x => .cmpLeZ x.fd x.fa x.fb⟩],
  [⟨0, fun _ => true, fun x => .cmpiEq x.fd x.fa x.i9⟩,
   ⟨1, fun x => x.i9 == 0, fun x => .cmpiEqLit x.fd x.fa x.lit⟩],
  [⟨0, fun _ => true, fun x => .cmpiNe x.fd x.fa x.i9⟩,
   ⟨1, fun x => x.i9 == 0, fun x => .cmpiNeLit x.fd x.fa x.lit⟩],
  [⟨0, fun _ => true, fun x => .cmpiLtS x.fd x.fa x.i9⟩,
   ⟨1, fun x => x.i9 == 0, fun x => .cmpiLtSLit x.fd x.fa x.lit⟩],
  [⟨0, fun _ => true, fun x => .cmpiLtZ x.fd x.fa x.i9⟩,
   ⟨1, fun x => x.i9 == 0, fun x => .cmpiLtZLit x.fd x.fa x.lit⟩],
  [⟨0, fun _ => true, fun x => .cmpiLeS x.fd x.fa x.i9⟩,
   ⟨1, fun x => x.i9 == 0, fun x => .cmpiLeSLit x.fd x.fa x.lit⟩],
  [⟨0, fun _ => true, fun x => .cmpiLeZ x.fd x.fa x.i9⟩,
   ⟨1, fun x => x.i9 == 0, fun x => .cmpiLeZLit x.fd x.fa x.lit⟩],
  [⟨0, fun x => x.fn == 0 && x.fb == 0 && x.fa == 0 && x.fd == 0, fun _ => .nop⟩]]

/-- Row 2: scalar floating point (R68); the cells in column order, each with its forms. -/
def row2 : List (List Form) := [
  [⟨0, fun _ => true, fun x => .faddF32 x.fd x.fa x.fb x.fn⟩],
  [⟨0, fun _ => true, fun x => .faddF64 x.fd x.fa x.fb x.fn⟩],
  [⟨0, fun _ => true, fun x => .fsubF32 x.fd x.fa x.fb x.fn⟩],
  [⟨0, fun _ => true, fun x => .fsubF64 x.fd x.fa x.fb x.fn⟩],
  [⟨0, fun _ => true, fun x => .fmulF32 x.fd x.fa x.fb x.fn⟩],
  [⟨0, fun _ => true, fun x => .fmulF64 x.fd x.fa x.fb x.fn⟩],
  [⟨0, fun _ => true, fun x => .fdivF32 x.fd x.fa x.fb x.fn⟩],
  [⟨0, fun _ => true, fun x => .fdivF64 x.fd x.fa x.fb x.fn⟩],
  [⟨0, fun x => x.fb == 0, fun x => .fsqrtF32 x.fd x.fa x.fn⟩],
  [⟨0, fun x => x.fb == 0, fun x => .fsqrtF64 x.fd x.fa x.fn⟩],
  [⟨0, fun _ => true, fun x => .ffmaF32 x.fd x.fa x.fb x.fn⟩],
  [⟨0, fun _ => true, fun x => .ffmaF64 x.fd x.fa x.fb x.fn⟩],
  [⟨0, fun x => x.fn == 0, fun x => .fminF32 x.fd x.fa x.fb⟩],
  [⟨0, fun x => x.fn == 0, fun x => .fminF64 x.fd x.fa x.fb⟩],
  [⟨0, fun x => x.fn == 0, fun x => .fmaxF32 x.fd x.fa x.fb⟩],
  [⟨0, fun x => x.fn == 0, fun x => .fmaxF64 x.fd x.fa x.fb⟩],
  [⟨0, fun x => x.fn.extractLsb' 2 1 == 0, fun x => .fcmpF32 x.fd x.fa x.fb (x.fn.extractLsb' 0 2)⟩],
  [⟨0, fun x => x.fn.extractLsb' 2 1 == 0, fun x => .fcmpF64 x.fd x.fa x.fb (x.fn.extractLsb' 0 2)⟩],
  [⟨0, fun _ => true, fun x => .fcvtF32 x.fd x.fa x.fn x.fb⟩],
  [⟨0, fun _ => true, fun x => .fcvtF64 x.fd x.fa x.fn x.fb⟩],
  [⟨0, fun x => x.fn == 0 && x.fb == 0, fun x => .fclassF32 x.fd x.fa⟩],
  [⟨0, fun x => x.fn == 0 && x.fb == 0, fun x => .fclassF64 x.fd x.fa⟩],
  [⟨0, fun x => x.fn.extractLsb' 2 1 == 0, fun x => .fsgnF32 x.fd x.fa x.fb (x.fn.extractLsb' 0 2)⟩],
  [⟨0, fun x => x.fn.extractLsb' 2 1 == 0, fun x => .fsgnF64 x.fd x.fa x.fb (x.fn.extractLsb' 0 2)⟩]]

/-- Row 3: control flow and system (R69); the cells in column order, each with its forms. -/
def row3 : List (List Form) := [
  [⟨0, fun x => x.fd == 0, fun x => .br x.i15⟩,
   ⟨1, fun x => x.i15 == 0 && x.fd == 0, fun x => .brLit x.lit⟩],
  [⟨0, fun _ => true, fun x => .bcEq x.fd x.i15⟩,
   ⟨1, fun x => x.i15 == 0, fun x => .bcEqLit x.fd x.lit⟩],
  [⟨0, fun _ => true, fun x => .bcNe x.fd x.i15⟩,
   ⟨1, fun x => x.i15 == 0, fun x => .bcNeLit x.fd x.lit⟩],
  [⟨0, fun _ => true, fun x => .bcLt x.fd x.i15⟩,
   ⟨1, fun x => x.i15 == 0, fun x => .bcLtLit x.fd x.lit⟩],
  [⟨0, fun _ => true, fun x => .bcGe x.fd x.i15⟩,
   ⟨1, fun x => x.i15 == 0, fun x => .bcGeLit x.fd x.lit⟩],
  [⟨0, fun _ => true, fun x => .bcLe x.fd x.i15⟩,
   ⟨1, fun x => x.i15 == 0, fun x => .bcLeLit x.fd x.lit⟩],
  [⟨0, fun _ => true, fun x => .bcGt x.fd x.i15⟩,
   ⟨1, fun x => x.i15 == 0, fun x => .bcGtLit x.fd x.lit⟩],
  [⟨0, fun x => x.fd == 0, fun x => .jmp x.fa x.i9⟩,
   ⟨1, fun x => x.i9 == 0 && x.fd == 0, fun x => .jmpLit x.fa x.lit⟩],
  [⟨0, fun _ => true, fun x => .call x.fd x.i15⟩,
   ⟨1, fun x => x.i15 == 0, fun x => .callLit x.fd x.lit⟩],
  [⟨0, fun x => x.fn == 0 && x.fb == 0 && x.fd == 0, fun x => .ret x.fa⟩],
  [⟨0, fun _ => true, fun x => .loop x.fd x.i15⟩,
   ⟨1, fun x => x.i15 == 0, fun x => .loopLit x.fd x.lit⟩],
  [⟨0, fun x => x.fn == 0 && x.fb == 0 && x.fa == 0 && x.fd == 0, fun _ => .endAct⟩],
  [⟨0, fun x => x.fd == 0, fun x => .trap x.i15⟩],
  [⟨0, fun x => x.fn == 0 && x.fb == 0 && x.fa == 0 && x.fd == 0, fun _ => .eret⟩],
  [⟨0, fun x => x.i15.extractLsb' 12 3 == 0, fun x => .csrr x.fd (x.i15.extractLsb' 0 12)⟩],
  [⟨0, fun x => x.i15.extractLsb' 12 3 == 0, fun x => .csrw x.fd (x.i15.extractLsb' 0 12)⟩],
  [⟨0, fun x => x.i15.extractLsb' 12 3 == 0, fun x => .csrs x.fd (x.i15.extractLsb' 0 12)⟩],
  [⟨0, fun x => x.i15.extractLsb' 12 3 == 0, fun x => .csrc x.fd (x.i15.extractLsb' 0 12)⟩],
  [⟨0, fun x => x.fd == 0, fun x => .bkpt x.i15⟩],
  [⟨0, fun x => x.fn == 0 && x.fb == 0 && x.fd == 0, fun x => .synci x.fa⟩],
  [⟨0, fun x => x.fn == 0 && x.fb == 0 && x.fd == 0, fun x => .idle x.fa⟩]]

/-- Row 4: scalar loads and stores (R70); the cells in column order, each with its forms. -/
def row4 : List (List Form) := [
  [⟨0, fun _ => true, fun x => .ldS8 x.fd x.fa x.i9⟩,
   ⟨1, fun x => x.i9 == 0, fun x => .ldS8Lit x.fd x.fa x.lit⟩,
   ⟨2, fun x => x.fn == 0 && x.fb == 0 && x.fa == 0 && x.e2 == 0, fun x => .ldS8Ext x.fd x.ebase x.espace x.eswz x.eoff⟩,
   ⟨3, fun x => x.fn == 0 && x.fb == 0 && x.fa == 0 && x.e2 == 0 && x.eoff == 0, fun x => .ldS8ExtLit x.fd x.ebase x.espace x.eswz x.lit⟩],
  [⟨0, fun _ => true, fun x => .ldZ8 x.fd x.fa x.i9⟩,
   ⟨1, fun x => x.i9 == 0, fun x => .ldZ8Lit x.fd x.fa x.lit⟩,
   ⟨2, fun x => x.fn == 0 && x.fb == 0 && x.fa == 0 && x.e2 == 0, fun x => .ldZ8Ext x.fd x.ebase x.espace x.eswz x.eoff⟩,
   ⟨3, fun x => x.fn == 0 && x.fb == 0 && x.fa == 0 && x.e2 == 0 && x.eoff == 0, fun x => .ldZ8ExtLit x.fd x.ebase x.espace x.eswz x.lit⟩],
  [⟨0, fun _ => true, fun x => .ldS16 x.fd x.fa x.i9⟩,
   ⟨1, fun x => x.i9 == 0, fun x => .ldS16Lit x.fd x.fa x.lit⟩,
   ⟨2, fun x => x.fn == 0 && x.fb == 0 && x.fa == 0 && x.e2 == 0, fun x => .ldS16Ext x.fd x.ebase x.espace x.eswz x.eoff⟩,
   ⟨3, fun x => x.fn == 0 && x.fb == 0 && x.fa == 0 && x.e2 == 0 && x.eoff == 0, fun x => .ldS16ExtLit x.fd x.ebase x.espace x.eswz x.lit⟩],
  [⟨0, fun _ => true, fun x => .ldZ16 x.fd x.fa x.i9⟩,
   ⟨1, fun x => x.i9 == 0, fun x => .ldZ16Lit x.fd x.fa x.lit⟩,
   ⟨2, fun x => x.fn == 0 && x.fb == 0 && x.fa == 0 && x.e2 == 0, fun x => .ldZ16Ext x.fd x.ebase x.espace x.eswz x.eoff⟩,
   ⟨3, fun x => x.fn == 0 && x.fb == 0 && x.fa == 0 && x.e2 == 0 && x.eoff == 0, fun x => .ldZ16ExtLit x.fd x.ebase x.espace x.eswz x.lit⟩],
  [⟨0, fun _ => true, fun x => .ldS32 x.fd x.fa x.i9⟩,
   ⟨1, fun x => x.i9 == 0, fun x => .ldS32Lit x.fd x.fa x.lit⟩,
   ⟨2, fun x => x.fn == 0 && x.fb == 0 && x.fa == 0 && x.e2 == 0, fun x => .ldS32Ext x.fd x.ebase x.espace x.eswz x.eoff⟩,
   ⟨3, fun x => x.fn == 0 && x.fb == 0 && x.fa == 0 && x.e2 == 0 && x.eoff == 0, fun x => .ldS32ExtLit x.fd x.ebase x.espace x.eswz x.lit⟩],
  [⟨0, fun _ => true, fun x => .ldZ32 x.fd x.fa x.i9⟩,
   ⟨1, fun x => x.i9 == 0, fun x => .ldZ32Lit x.fd x.fa x.lit⟩,
   ⟨2, fun x => x.fn == 0 && x.fb == 0 && x.fa == 0 && x.e2 == 0, fun x => .ldZ32Ext x.fd x.ebase x.espace x.eswz x.eoff⟩,
   ⟨3, fun x => x.fn == 0 && x.fb == 0 && x.fa == 0 && x.e2 == 0 && x.eoff == 0, fun x => .ldZ32ExtLit x.fd x.ebase x.espace x.eswz x.lit⟩],
  [⟨0, fun _ => true, fun x => .ld64 x.fd x.fa x.i9⟩,
   ⟨1, fun x => x.i9 == 0, fun x => .ld64Lit x.fd x.fa x.lit⟩,
   ⟨2, fun x => x.fn == 0 && x.fb == 0 && x.fa == 0 && x.e2 == 0, fun x => .ld64Ext x.fd x.ebase x.espace x.eswz x.eoff⟩,
   ⟨3, fun x => x.fn == 0 && x.fb == 0 && x.fa == 0 && x.e2 == 0 && x.eoff == 0, fun x => .ld64ExtLit x.fd x.ebase x.espace x.eswz x.lit⟩],
  [⟨0, fun _ => true, fun x => .ld128 x.fd x.fa x.i9⟩,
   ⟨1, fun x => x.i9 == 0, fun x => .ld128Lit x.fd x.fa x.lit⟩,
   ⟨2, fun x => x.fn == 0 && x.fb == 0 && x.fa == 0 && x.e2 == 0, fun x => .ld128Ext x.fd x.ebase x.espace x.eswz x.eoff⟩,
   ⟨3, fun x => x.fn == 0 && x.fb == 0 && x.fa == 0 && x.e2 == 0 && x.eoff == 0, fun x => .ld128ExtLit x.fd x.ebase x.espace x.eswz x.lit⟩],
  [⟨0, fun _ => true, fun x => .st8 x.fd x.fa x.i9⟩,
   ⟨1, fun x => x.i9 == 0, fun x => .st8Lit x.fd x.fa x.lit⟩,
   ⟨2, fun x => x.fn == 0 && x.fb == 0 && x.fa == 0 && x.e2 == 0, fun x => .st8Ext x.fd x.ebase x.espace x.eswz x.eoff⟩,
   ⟨3, fun x => x.fn == 0 && x.fb == 0 && x.fa == 0 && x.e2 == 0 && x.eoff == 0, fun x => .st8ExtLit x.fd x.ebase x.espace x.eswz x.lit⟩],
  [⟨0, fun _ => true, fun x => .st16 x.fd x.fa x.i9⟩,
   ⟨1, fun x => x.i9 == 0, fun x => .st16Lit x.fd x.fa x.lit⟩,
   ⟨2, fun x => x.fn == 0 && x.fb == 0 && x.fa == 0 && x.e2 == 0, fun x => .st16Ext x.fd x.ebase x.espace x.eswz x.eoff⟩,
   ⟨3, fun x => x.fn == 0 && x.fb == 0 && x.fa == 0 && x.e2 == 0 && x.eoff == 0, fun x => .st16ExtLit x.fd x.ebase x.espace x.eswz x.lit⟩],
  [⟨0, fun _ => true, fun x => .st32 x.fd x.fa x.i9⟩,
   ⟨1, fun x => x.i9 == 0, fun x => .st32Lit x.fd x.fa x.lit⟩,
   ⟨2, fun x => x.fn == 0 && x.fb == 0 && x.fa == 0 && x.e2 == 0, fun x => .st32Ext x.fd x.ebase x.espace x.eswz x.eoff⟩,
   ⟨3, fun x => x.fn == 0 && x.fb == 0 && x.fa == 0 && x.e2 == 0 && x.eoff == 0, fun x => .st32ExtLit x.fd x.ebase x.espace x.eswz x.lit⟩],
  [⟨0, fun _ => true, fun x => .st64 x.fd x.fa x.i9⟩,
   ⟨1, fun x => x.i9 == 0, fun x => .st64Lit x.fd x.fa x.lit⟩,
   ⟨2, fun x => x.fn == 0 && x.fb == 0 && x.fa == 0 && x.e2 == 0, fun x => .st64Ext x.fd x.ebase x.espace x.eswz x.eoff⟩,
   ⟨3, fun x => x.fn == 0 && x.fb == 0 && x.fa == 0 && x.e2 == 0 && x.eoff == 0, fun x => .st64ExtLit x.fd x.ebase x.espace x.eswz x.lit⟩],
  [⟨0, fun _ => true, fun x => .st128 x.fd x.fa x.i9⟩,
   ⟨1, fun x => x.i9 == 0, fun x => .st128Lit x.fd x.fa x.lit⟩,
   ⟨2, fun x => x.fn == 0 && x.fb == 0 && x.fa == 0 && x.e2 == 0, fun x => .st128Ext x.fd x.ebase x.espace x.eswz x.eoff⟩,
   ⟨3, fun x => x.fn == 0 && x.fb == 0 && x.fa == 0 && x.e2 == 0 && x.eoff == 0, fun x => .st128ExtLit x.fd x.ebase x.espace x.eswz x.lit⟩],
  [⟨0, fun _ => true, fun x => .ldf x.fd x.fa x.i9⟩],
  [⟨0, fun _ => true, fun x => .ldsS8 x.fd x.fa x.i9⟩],
  [⟨0, fun _ => true, fun x => .ldsZ8 x.fd x.fa x.i9⟩],
  [⟨0, fun _ => true, fun x => .ldsS16 x.fd x.fa x.i9⟩],
  [⟨0, fun _ => true, fun x => .ldsZ16 x.fd x.fa x.i9⟩],
  [⟨0, fun _ => true, fun x => .ldsS32 x.fd x.fa x.i9⟩],
  [⟨0, fun _ => true, fun x => .ldsZ32 x.fd x.fa x.i9⟩],
  [⟨0, fun _ => true, fun x => .lds64 x.fd x.fa x.i9⟩],
  [⟨0, fun _ => true, fun x => .sts8 x.fd x.fa x.i9⟩],
  [⟨0, fun _ => true, fun x => .sts16 x.fd x.fa x.i9⟩],
  [⟨0, fun _ => true, fun x => .sts32 x.fd x.fa x.i9⟩],
  [⟨0, fun _ => true, fun x => .sts64 x.fd x.fa x.i9⟩]]

/-- Row 5: atomics, ordered accesses and fences (R71); the cells in column order, each with its forms. -/
def row5 : List (List Form) := [
  [⟨0, fun _ => true, fun x => .amoAdd32 x.fd x.fa x.fb x.fn⟩],
  [⟨0, fun _ => true, fun x => .amoAdd64 x.fd x.fa x.fb x.fn⟩],
  [⟨0, fun _ => true, fun x => .amoMinS32 x.fd x.fa x.fb x.fn⟩],
  [⟨0, fun _ => true, fun x => .amoMinS64 x.fd x.fa x.fb x.fn⟩],
  [⟨0, fun _ => true, fun x => .amoMinZ32 x.fd x.fa x.fb x.fn⟩],
  [⟨0, fun _ => true, fun x => .amoMinZ64 x.fd x.fa x.fb x.fn⟩],
  [⟨0, fun _ => true, fun x => .amoMaxS32 x.fd x.fa x.fb x.fn⟩],
  [⟨0, fun _ => true, fun x => .amoMaxS64 x.fd x.fa x.fb x.fn⟩],
  [⟨0, fun _ => true, fun x => .amoMaxZ32 x.fd x.fa x.fb x.fn⟩],
  [⟨0, fun _ => true, fun x => .amoMaxZ64 x.fd x.fa x.fb x.fn⟩],
  [⟨0, fun _ => true, fun x => .amoAnd32 x.fd x.fa x.fb x.fn⟩],
  [⟨0, fun _ => true, fun x => .amoAnd64 x.fd x.fa x.fb x.fn⟩],
  [⟨0, fun _ => true, fun x => .amoOr32 x.fd x.fa x.fb x.fn⟩],
  [⟨0, fun _ => true, fun x => .amoOr64 x.fd x.fa x.fb x.fn⟩],
  [⟨0, fun _ => true, fun x => .amoXor32 x.fd x.fa x.fb x.fn⟩],
  [⟨0, fun _ => true, fun x => .amoXor64 x.fd x.fa x.fb x.fn⟩],
  [⟨0, fun _ => true, fun x => .amoXchg32 x.fd x.fa x.fb x.fn⟩],
  [⟨0, fun _ => true, fun x => .amoXchg64 x.fd x.fa x.fb x.fn⟩],
  [⟨0, fun _ => true, fun x => .amoCas32 x.fd x.fa x.fb x.fn⟩],
  [⟨0, fun _ => true, fun x => .amoCas64 x.fd x.fa x.fb x.fn⟩],
  [⟨0, fun _ => true, fun x => .amoCas128 x.fd x.fa x.fb x.fn⟩],
  [⟨0, fun _ => true, fun x => .amoFaddF32 x.fd x.fa x.fb x.fn⟩],
  [⟨0, fun x => x.fb == 0, fun x => .ldx32 x.fd x.fa x.fn⟩],
  [⟨0, fun x => x.fb == 0, fun x => .ldx64 x.fd x.fa x.fn⟩],
  [⟨0, fun x => x.fb == 0, fun x => .stx32 x.fd x.fa x.fn⟩],
  [⟨0, fun x => x.fb == 0, fun x => .stx64 x.fd x.fa x.fn⟩],
  [⟨0, fun x => x.fb == 0, fun x => .ldacq64 x.fd x.fa x.fn⟩],
  [⟨0, fun x => x.fb == 0, fun x => .strel64 x.fd x.fa x.fn⟩],
  [⟨0, fun x => x.fb == 0 && x.fa == 0 && x.fd == 0, fun x => .fence x.fn⟩],
  [⟨0, fun x => x.i15.extractLsb' 9 6 == 0 && x.fd == 0, fun x => .xfence (x.i15.extractLsb' 6 3) (x.i15.extractLsb' 0 6)⟩]]

/-- Row 6: vector (R73); the cells in column order, each with its forms. -/
def row6 : List (List Form) := [
  [⟨0, fun _ => true, fun x => .vaddVv x.fd x.fa x.fb x.fn⟩],
  [⟨0, fun _ => true, fun x => .vaddVs x.fd x.fa x.fb x.fn⟩],
  [⟨0, fun _ => true, fun x => .vaddVq x.fd x.fa x.fb x.fn⟩],
  [⟨0, fun _ => true, fun x => .vsubVv x.fd x.fa x.fb x.fn⟩],
  [⟨0, fun _ => true, fun x => .vsubVs x.fd x.fa x.fb x.fn⟩],
  [⟨0, fun _ => true, fun x => .vsubVq x.fd x.fa x.fb x.fn⟩],
  [⟨0, fun _ => true, fun x => .vmulVv x.fd x.fa x.fb x.fn⟩],
  [⟨0, fun _ => true, fun x => .vmulVs x.fd x.fa x.fb x.fn⟩],
  [⟨0, fun _ => true, fun x => .vmulVq x.fd x.fa x.fb x.fn⟩],
  [⟨0, fun x => x.fn == 0, fun x => .vminVv x.fd x.fa x.fb⟩],
  [⟨0, fun x => x.fn == 0, fun x => .vminVs x.fd x.fa x.fb⟩],
  [⟨0, fun x => x.fn == 0, fun x => .vminVq x.fd x.fa x.fb⟩],
  [⟨0, fun x => x.fn == 0, fun x => .vmaxVv x.fd x.fa x.fb⟩],
  [⟨0, fun x => x.fn == 0, fun x => .vmaxVs x.fd x.fa x.fb⟩],
  [⟨0, fun x => x.fn == 0, fun x => .vmaxVq x.fd x.fa x.fb⟩],
  [⟨0, fun _ => true, fun x => .vfmaVv x.fd x.fa x.fb x.fn⟩],
  [⟨0, fun _ => true, fun x => .vfmaVs x.fd x.fa x.fb x.fn⟩],
  [⟨0, fun _ => true, fun x => .vfmaVq x.fd x.fa x.fb x.fn⟩],
  [⟨0, fun x => x.fn == 0 && x.fb == 0, fun x => .vabs x.fd x.fa⟩],
  [⟨0, fun x => x.fn == 0 && x.fb == 0, fun x => .vneg x.fd x.fa⟩],
  [⟨0, fun x => x.fb.extractLsb' 0 5 == 0, fun x => .vcvt x.fd x.fa x.fn (x.fb.extractLsb' 5 1)⟩],
  [⟨0, fun _ => true, fun x => .vscale x.fd x.fa x.fb x.fn⟩]]

/-- Row 7: vector (R73); the cells in column order, each with its forms. -/
noncomputable def row7 : List (List Form) := [
  [⟨0, fun x => x.fb == 0, fun x => .vsum x.fd x.fa x.fn⟩],
  [⟨0, fun _ => true, fun x => .vdot x.fd x.fa x.fb x.fn⟩],
  [⟨0, fun _ => true, fun x => .vdotQ x.fd x.fa x.fb x.fn⟩],
  [⟨0, fun x => x.fn.extractLsb' 2 1 == 0, fun x => .vcmp x.fd x.fa x.fb (x.fn.extractLsb' 0 2)⟩],
  [⟨0, fun x => x.fn == 0, fun x => .vsel x.fd x.fa x.fb⟩],
  [⟨0, fun x => x.fn == 0 && x.fb == 0, fun x => .vclass x.fd x.fa⟩],
  [⟨0, fun x => x.fn == 0 && x.fb == 0, fun x => .vcopy x.fd x.fa⟩,
   ⟨0, fun x => x.fn == 0 && x.fb == 1, fun x => .vcopyW x.fd x.fa⟩,
   ⟨0, fun x => x.fn == 0 && x.fb == 2, fun x => .vcopyWAll x.fd x.fa⟩],
  [⟨0, fun x => x.fn == 0 && x.fb == 0, fun x => .vfill x.fd x.fa⟩,
   ⟨0, fun x => x.fn == 0 && x.fb == 1, fun x => .vfillI x.fd x.fa⟩,
   ⟨0, fun x => x.fn == 0 && x.fb == 2, fun x => .vfillB x.fd x.fa⟩],
  [⟨0, fun x => x.fn == 0, fun x => .vgath x.fd x.fa x.fb⟩],
  [⟨0, fun x => x.fn == 0, fun x => .vq4 x.fd x.fa x.fb⟩],
  [⟨0, fun x => x.fn == 0 && x.fb == 0, fun x => .vrng x.fd x.fa⟩],
  [⟨0, fun x => x.fn == 0 && x.fb == 0, fun x => .vmaxabs x.fd x.fa⟩],
  [⟨0, fun x => x.fn == 0, fun x => .viadd x.fd x.fa x.fb⟩],
  [⟨0, fun x => x.fn == 0, fun x => .visub x.fd x.fa x.fb⟩],
  [⟨0, fun x => x.fn == 0, fun x => .vimul x.fd x.fa x.fb⟩],
  [⟨0, fun x => x.fn == 0, fun x => .viand x.fd x.fa x.fb⟩],
  [⟨0, fun x => x.fn == 0, fun x => .vior x.fd x.fa x.fb⟩],
  [⟨0, fun x => x.fn == 0, fun x => .vixor x.fd x.fa x.fb⟩],
  [⟨0, fun x => x.fn == 0, fun x => .vishl x.fd x.fa x.fb⟩],
  [⟨0, fun x => x.fn.extractLsb' 1 2 == 0, fun x => .vishr x.fd x.fa x.fb (x.fn.extractLsb' 0 1)⟩],
  [⟨0, fun x => x.fn == 0, fun x => .vidx x.fd x.fa x.fb⟩],
  [⟨0, fun x => x.fn == 0, fun x => .vpack x.fd x.fa x.fb⟩],
  [⟨0, fun x => x.fn == 0, fun x => .vunpk x.fd x.fa x.fb⟩],
  [⟨0, fun x => x.fb == 0, fun x => .vrcp x.fd x.fa x.fn⟩],
  [⟨0, fun x => x.fb == 0, fun x => .vrsqrt x.fd x.fa x.fn⟩]]

/-- Row 8: handles, rings and the activation (R74); the cells in column order, each with its forms. -/
noncomputable def row8 : List (List Form) := [
  [⟨0, fun _ => true, fun x => .waitf x.fd x.fa x.i9⟩,
   ⟨1, fun x => x.i9 == 0, fun x => .waitfLit x.fd x.fa x.lit⟩],
  [⟨0, fun _ => true, fun x => .waite x.fd x.fa x.i9⟩,
   ⟨1, fun x => x.i9 == 0, fun x => .waiteLit x.fd x.fa x.lit⟩],
  [⟨0, fun _ => true, fun x => .advp x.fd x.fa x.i9⟩,
   ⟨1, fun x => x.i9 == 0, fun x => .advpLit x.fd x.fa x.lit⟩],
  [⟨0, fun _ => true, fun x => .advc x.fd x.fa x.i9⟩,
   ⟨1, fun x => x.i9 == 0, fun x => .advcLit x.fd x.fa x.lit⟩],
  [⟨0, fun _ => true, fun x => .hset x.fd x.fa x.i9⟩],
  [⟨0, fun _ => true, fun x => .hget x.fd x.fa x.i9⟩],
  [⟨0, fun x => x.fn6 == 0 && x.hb == 0, fun x => .hmov x.hd x.ha⟩],
  [⟨0, fun _ => true, fun x => .hld x.fd x.fa x.i9⟩,
   ⟨1, fun x => x.i9 == 0, fun x => .hldLit x.fd x.fa x.lit⟩],
  [⟨0, fun _ => true, fun x => .hst x.fd x.fa x.i9⟩,
   ⟨1, fun x => x.i9 == 0, fun x => .hstLit x.fd x.fa x.lit⟩],
  [⟨0, fun x => x.fn == 0, fun x => .send x.fd x.fa x.fb⟩,
   ⟨0, fun x => x.fn == 1, fun x => .sendSp x.fd x.fa x.fb⟩,
   ⟨0, fun x => x.fn == 2, fun x => .sendCode x.fd x.fa x.fb⟩,
   ⟨0, fun x => x.fn == 3, fun x => .sendNz x.fd x.fa x.fb⟩],
  [⟨0, fun x => x.fn == 0, fun x => .sendw x.fd x.fa x.fb⟩,
   ⟨0, fun x => x.fn == 1, fun x => .sendwSp x.fd x.fa x.fb⟩,
   ⟨0, fun x => x.fn == 2, fun x => .sendwCode x.fd x.fa x.fb⟩,
   ⟨0, fun x => x.fn == 3, fun x => .sendwNz x.fd x.fa x.fb⟩],
  [⟨0, fun x => x.fn == 0 && x.fb == 0 && x.fa == 0, fun x => .relw x.fd⟩],
  [⟨0, fun x => x.fn == 0 && x.fb == 0, fun x => .wcnt x.fd x.fa⟩],
  [⟨0, fun x => x.fn == 0 && x.fb == 0 && x.fa == 0 && x.fd == 0, fun _ => .ckpt⟩],
  [⟨0, fun x => x.fn == 0 && x.fb == 0 && x.fa == 0 && x.fd == 0, fun _ => .yield⟩],
  [⟨0, fun x => x.fn == 0 && x.fb == 0 && x.fa == 0, fun x => .tstamp x.fd⟩],
  [⟨0, fun x => x.fn == 0, fun x => .spawn x.fd x.fa x.fb⟩],
  [⟨0, fun x => x.fn == 0 && x.fb == 0 && x.fa == 0 && x.fd == 0, fun _ => .abort⟩]]

/-- Row 9: function registers (R75); the cells in column order, each with its forms. -/
noncomputable def row9 : List (List Form) := [
  [⟨0, fun x => x.fn.extractLsb' 1 2 == 0, fun x => .fnfit x.fd x.fa x.fb (x.fn.extractLsb' 0 1)⟩],
  [⟨0, fun _ => true, fun x => .fnld x.fd x.fa x.i9⟩,
   ⟨1, fun x => x.i9 == 0, fun x => .fnldLit x.fd x.fa x.lit⟩],
  [⟨0, fun _ => true, fun x => .fnst x.fd x.fa x.i9⟩,
   ⟨1, fun x => x.i9 == 0, fun x => .fnstLit x.fd x.fa x.lit⟩],
  [⟨0, fun x => x.fn.extractLsb' 1 2 == 0, fun x => .fnadd x.fd x.fa x.fb (x.fn.extractLsb' 0 1)⟩],
  [⟨0, fun x => x.fn.extractLsb' 1 2 == 0, fun x => .fnsub x.fd x.fa x.fb (x.fn.extractLsb' 0 1)⟩],
  [⟨0, fun x => x.fn.extractLsb' 1 2 == 0, fun x => .fnmul x.fd x.fa x.fb (x.fn.extractLsb' 0 1)⟩],
  [⟨0, fun x => x.fn.extractLsb' 1 2 == 0, fun x => .fnscale x.fd x.fa x.fb (x.fn.extractLsb' 0 1)⟩],
  [⟨0, fun x => x.fn.extractLsb' 1 2 == 0, fun x => .fncomp x.fd x.fa x.fb (x.fn.extractLsb' 0 1)⟩],
  [⟨0, fun x => x.fn.extractLsb' 1 2 == 0 && x.fb == 0, fun x => .fnint x.fd x.fa (x.fn.extractLsb' 0 1)⟩],
  [⟨0, fun x => x.fn.extractLsb' 1 2 == 0 && x.fb == 0, fun x => .fnder x.fd x.fa (x.fn.extractLsb' 0 1)⟩],
  [⟨0, fun x => x.fn == 0, fun x => .fnroot x.fd x.fa x.fb⟩],
  [⟨0, fun x => x.fn.extractLsb' 1 2 == 0, fun x => .fneval x.fd x.fa x.fb (x.fn.extractLsb' 0 1)⟩],
  [⟨0, fun x => x.fn.extractLsb' 1 2 == 0, fun x => .fnevs x.fd x.fa x.fb (x.fn.extractLsb' 0 1)⟩],
  [⟨0, fun x => x.fn.extractLsb' 1 2 == 0, fun x => .fntrunc x.fd x.fa x.fb (x.fn.extractLsb' 0 1)⟩],
  [⟨0, fun x => x.fn == 0, fun x => .fndom x.fd x.fa x.fb⟩],
  [⟨0, fun x => x.fn == 0 && x.fb == 0 && x.fa == 0, fun x => .fnfree x.fd⟩],
  [⟨0, fun x => x.fn == 0 && x.fb == 0, fun x => .fnlen x.fd x.fa⟩],
  [⟨0, fun x => x.fn.extractLsb' 1 2 == 0 && x.fb == 0, fun x => .fnmov x.fd x.fa (x.fn.extractLsb' 0 1)⟩]]

/-- Row 10: pursuit encoder and matrix unit (R76); the cells in column order, each with its forms. -/
noncomputable def row10 : List (List Form) := [
  [⟨0, fun x => x.fn == 0 && x.fb == 0 && x.fd == 0, fun x => .pdict x.fa⟩],
  [⟨0, fun x => x.fn == 0 && x.fb == 0 && x.fd == 0, fun x => .pimg x.fa⟩],
  [⟨0, fun x => x.fn == 0 && x.fd == 0, fun x => .pthr x.fa x.fb⟩],
  [⟨0, fun x => x.fn == 0, fun x => .penc x.fd x.fa x.fb⟩],
  [⟨0, fun x => x.fn == 0 && x.fb == 0, fun x => .pacc x.fd x.fa⟩],
  [⟨0, fun x => x.fn == 0 && x.fb == 0, fun x => .pesc x.fd x.fa⟩],
  [⟨0, fun x => x.fn == 0 && x.fb == 0, fun x => .pdec x.fd x.fa⟩],
  [⟨0, fun x => x.fn == 0, fun x => .pgrad x.fd x.fa x.fb⟩],
  [⟨0, fun x => x.fn == 0 && x.fb == 0 && x.fa == 0, fun x => .pstat x.fd⟩],
  [⟨0, fun x => x.fn6 == 0 && x.hd == 0, fun x => .mxq x.ha x.hb⟩],
  [⟨0, fun x => x.fn == 0 && x.fb == 0 && x.fa == 0, fun x => .mxseq x.fd⟩],
  [⟨0, fun x => x.fn == 0 && x.fb == 0 && x.fd == 0, fun x => .mxwait x.fa⟩],
  [⟨0, fun x => x.fn == 0, fun x => .accmv x.fd x.fa x.fb⟩],
  [⟨0, fun x => x.fn == 0, fun x => .accpk x.fd x.fa x.fb⟩]]

/-- Row 11: differentiable regions and the cluster (R77); the cells in column order, each with its forms. -/
noncomputable def row11 : List (List Form) := [
  [⟨0, fun x => x.i15.extractLsb' 2 13 == 0 && x.fd == 0, fun x => .admode (x.i15.extractLsb' 0 2)⟩],
  [⟨0, fun _ => true, fun x => .adld x.fd x.fa x.i9⟩,
   ⟨1, fun x => x.i9 == 0, fun x => .adldLit x.fd x.fa x.lit⟩],
  [⟨0, fun _ => true, fun x => .adst x.fd x.fa x.i9⟩,
   ⟨1, fun x => x.i9 == 0, fun x => .adstLit x.fd x.fa x.lit⟩],
  [⟨0, fun _ => true, fun x => .adclr x.fd x.fa x.i9⟩,
   ⟨1, fun x => x.i9 == 0, fun x => .adclrLit x.fd x.fa x.lit⟩],
  [⟨0, fun x => x.fn == 0 && x.fb == 0 && x.fa == 0, fun x => .tmark x.fd⟩],
  [⟨0, fun x => x.fn == 0 && x.fb == 0 && x.fd == 0, fun x => .trew x.fa⟩],
  [⟨0, fun x => x.fn == 0 && x.fb == 0 && x.fa == 0, fun x => .tstat x.fd⟩],
  [⟨0, fun x => x.fn == 0 && x.fb == 0 && x.fd == 0, fun x => .lkset x.fa⟩],
  [⟨0, fun x => x.fn == 0 && x.fb == 0 && x.fa == 0, fun x => .lkget x.fd⟩],
  [⟨0, fun x => x.fn == 0 && x.fb == 0, fun x => .qbind x.fd x.fa⟩],
  [⟨0, fun x => x.fn == 0 && x.fb == 0, fun x => .qpush x.fd x.fa⟩],
  [⟨0, fun x => x.fn.extractLsb' 1 2 == 0 && x.fb == 0, fun x => .nxld x.fd x.fa (x.fn.extractLsb' 0 1)⟩],
  [⟨0, fun x => x.fn.extractLsb' 1 2 == 0 && x.fb == 0, fun x => .nxst x.fd x.fa (x.fn.extractLsb' 0 1)⟩],
  [⟨0, fun x => x.fn == 0 && x.fb == 0 && x.fa == 0, fun x => .balloc x.fd⟩],
  [⟨0, fun x => x.fn == 0 && x.fb == 0 && x.fd == 0, fun x => .bfree x.fa⟩],
  [⟨0, fun x => x.fn.extractLsb' 1 2 == 0, fun x => .barr x.fd x.fa x.fb (x.fn.extractLsb' 0 1)⟩],
  [⟨0, fun x => x.fn.extractLsb' 1 2 == 0, fun x => .barrM x.fd x.fa x.fb (x.fn.extractLsb' 0 1)⟩,
   ⟨0, fun x => x.fn.extractLsb' 1 2 == 1, fun x => .barrMCs x.fd x.fa x.fb (x.fn.extractLsb' 0 1)⟩],
  [⟨0, fun x => x.fn == 0, fun x => .bwait x.fd x.fa x.fb⟩,
   ⟨0, fun x => x.fn == 1, fun x => .bwaitCs x.fd x.fa x.fb⟩,
   ⟨0, fun x => x.fn == 2, fun x => .bwaitGv x.fd x.fa x.fb⟩],
  [⟨0, fun x => x.fn == 0, fun x => .btest x.fd x.fa x.fb⟩,
   ⟨0, fun x => x.fn == 1, fun x => .btestCs x.fd x.fa x.fb⟩,
   ⟨0, fun x => x.fn == 2, fun x => .btestGv x.fd x.fa x.fb⟩]]

/-- Row 12: die (R78); the cells in column order, each with its forms. -/
noncomputable def row12 : List (List Form) := [
  [⟨0, fun x => x.fn == 0 && x.fd == 0, fun x => .capxfer x.fa x.fb⟩],
  [⟨0, fun x => x.fn == 0 && x.fb == 0, fun x => .capq x.fd x.fa⟩],
  [⟨0, fun x => x.fn == 0, fun x => .circ x.fd x.fa x.fb⟩],
  [⟨0, fun x => x.fn == 0 && x.fb == 0 && x.fd == 0, fun x => .circrel x.fa⟩],
  [⟨0, fun x => x.fn == 0, fun x => .sopen x.fd x.fa x.fb⟩],
  [⟨0, fun x => x.fn == 0 && x.fb == 0 && x.fd == 0, fun x => .sclose x.fa⟩],
  [⟨0, fun x => x.fb == 0, fun x => .cp x.fd x.fa x.fn⟩],
  [⟨0, fun x => x.fb == 0, fun x => .cpt x.fd x.fa x.fn⟩],
  [⟨0, fun _ => true, fun x => .gath x.fd x.fa x.fb x.fn⟩],
  [⟨0, fun x => x.fb == 0 && x.fa == 0, fun x => .cpwp x.fd x.fn⟩],
  [⟨0, fun x => x.fb == 0 && x.fa == 0 && x.fd == 0, fun x => .cpwait x.fn⟩],
  [⟨0, fun x => x.fn == 0 && x.fb == 0, fun x => .engseq x.fd x.fa⟩],
  [⟨0, fun x => x.fb == 0, fun x => .halo x.fd x.fa x.fn⟩],
  [⟨0, fun x => x.fn == 0 && x.fb == 0 && x.fa == 0, fun x => .lclock x.fd⟩]]

/-- Row 13: package, fabric and debug (R78); the cells in column order, each with its forms. -/
noncomputable def row13 : List (List Form) := [
  [⟨0, fun _ => true, fun x => .pst x.fd x.fa x.i9⟩,
   ⟨1, fun x => x.i9 == 0, fun x => .pstLit x.fd x.fa x.lit⟩],
  [⟨0, fun _ => true, fun x => .pstb x.fd x.fa x.i9⟩,
   ⟨1, fun x => x.i9 == 0, fun x => .pstbLit x.fd x.fa x.lit⟩],
  [⟨0, fun _ => true, fun x => .redst x.fd x.fa x.i9⟩,
   ⟨1, fun x => x.i9 == 0, fun x => .redstLit x.fd x.fa x.lit⟩],
  [⟨0, fun x => x.fn == 0 && x.fb == 0, fun x => .redq x.fd x.fa⟩],
  [⟨0, fun x => x.fn == 0 && x.fb == 0 && x.fd == 0, fun x => .wake x.fa⟩],
  [⟨0, fun x => x.fn == 0 && x.fb == 0 && x.fd == 0, fun x => .sigx x.fa⟩],
  [⟨0, fun _ => true, fun x => .mark x.fd x.i15⟩]]

/-- The rows of the opcode map that hold cells; rows 14 and 15 hold none (R60). -/
noncomputable def opcodeMap : List (List (List Form)) :=
  [row0, row1, row2, row3, row4, row5, row6, row7, row8, row9, row10, row11, row12, row13]

/-- The forms of the cell an OPC names, none for an unassigned one (R60). -/
noncomputable def cellOf (opc : BitVec 9) : List Form :=
  ((opcodeMap[(opc.extractLsb' 5 4).toNat]?.getD [])[(opc.extractLsb' 0 5).toNat]?).getD []

/-- Decode of fetched words by R59 rows 2 to 6. -/
noncomputable def decodeWords (x : Words) : Except DecodeError Instr :=
  match ((cellOf (opcOf x.w)).filter (fun f => f.len == lenOf x.w)).find? (fun f => f.ok x) with
  | none => .error .illop
  | some f =>
    match (f.build x).verdict with
    | none => .ok (f.build x)
    | some none => .error .illop
    | some (some k) => .error (.illopd k)

/-- The number of 32-bit words that LEN states (R37). -/
def wordCount (len : BitVec 2) : Nat := if len == 0 then 1 else if len == 3 then 5 else 3

/-- Fetched words in ascending address order, put into their places by LEN (R37). -/
def Words.ofList : List (BitVec 32) → Option Words
  | [] => none
  | w :: ws =>
    match lenOf w, ws with
    | 0, _ => some ⟨w, 0, 0, 0⟩
    | 1, l0 :: l1 :: _ => some ⟨w, 0, 0, l1 ++ l0⟩
    | 2, e1 :: e2 :: _ => some ⟨w, e1, e2, 0⟩
    | 3, e1 :: e2 :: l0 :: l1 :: _ => some ⟨w, e1, e2, l1 ++ l0⟩
    | _, _ => none

/-- A word from its four bytes, the lowest address first (R4). -/
def wordOfBytes (b0 b1 b2 b3 : Byte) : BitVec 32 := b3 ++ b2 ++ b1 ++ b0

/-- The whole words that a list of bytes holds. -/
def wordsOfBytes : List Byte → List (BitVec 32)
  | b0 :: b1 :: b2 :: b3 :: rest => wordOfBytes b0 b1 b2 b3 :: wordsOfBytes rest
  | _ => []

/-- Decode the instruction at the head of a list of bytes; the bytes after it are returned with it. -/
noncomputable def decode (bs : List Byte) : Except DecodeError (Instr × List Byte) :=
  match wordsOfBytes bs with
  | [] => .error .truncated
  | w :: ws =>
    match Words.ofList (w :: ws) with
    | none => .error .truncated
    | some x =>
      match decodeWords x with
      | .error e => .error e
      | .ok i => .ok (i, bs.drop (4 * wordCount (lenOf w)))

/-- The `n` bytes of a number, the least significant first. -/
def bytesOfNat : Nat → Nat → List Byte
  | 0, _ => []
  | n + 1, v => BitVec.ofNat 8 v :: bytesOfNat n (v / 256)

/-- The instruction that decode reads from an instruction whose bits are `w`, numbered as the opcode table numbers them;
the bits above `nbits` are zero. -/
noncomputable def decodeTableWord (nbits w : Nat) : Option Instr :=
  match decode (bytesOfNat 20 (w % 2 ^ nbits)) with
  | .ok (i, _) => some i
  | .error _ => none

/-- A first word of format RRR (R41). -/
def rrr (len : BitVec 2) (opc : BitVec 9) (fn : BitVec 3) (b a d : Reg) : BitVec 32 := fn ++ b ++ a ++ d ++ opc ++ len
/-- A first word of format RRI (R41). -/
def rri (len : BitVec 2) (opc : BitVec 9) (i : BitVec 9) (a d : Reg) : BitVec 32 := i ++ a ++ d ++ opc ++ len
/-- A first word of format RI15 or BR (R41). -/
def ri15 (len : BitVec 2) (opc : BitVec 9) (i : BitVec 15) (d : Reg) : BitVec 32 := i ++ d ++ opc ++ len
/-- A first word of format HHH (R41). -/
def hhh (len : BitVec 2) (opc : BitVec 9) (fn : BitVec 6) (hb ha hd : BitVec 5) : BitVec 32 :=
  fn ++ hb ++ ha ++ hd ++ opc ++ len
/-- Extension word 1 (R44). -/
def ext1 (off : BitVec 21) (space : BitVec 2) (swz : BitVec 3) (base : Reg) : BitVec 32 := off ++ space ++ swz ++ base

/-- The words of an instruction with a literal (R37, R39). -/
def withLit (w : BitVec 32) (l : Word) : List (BitVec 32) := [w, l.extractLsb' 0 32, l.extractLsb' 32 32]
/-- The words of the extended form of opcode `opc` (R44). -/
def extForm (opc : BitVec 9) (d base : Reg) (space : BitVec 2) (swz : BitVec 3) (off : BitVec 21) : List (BitVec 32) :=
  [rrr 2 opc 0 0 0 d, ext1 off space swz base, 0]
/-- The words of the extended form with a literal (R44, R39). -/
def extLitForm (opc : BitVec 9) (d base : Reg) (space : BitVec 2) (swz : BitVec 3) (l : Word) : List (BitVec 32) :=
  [rrr 3 opc 0 0 0 d, ext1 0 space swz base, 0, l.extractLsb' 0 32, l.extractLsb' 32 32]

/-- The words of an instruction, in ascending address order (R37). An event has none; `nonInstruction` stands for the word
it was fetched as. -/
def encode : Instr → List (BitVec 32)
  | .add d a b => [rrr 0 0x000 0 b a d]
  | .sub d a b => [rrr 0 0x001 0 b a d]
  | .mul d a b => [rrr 0 0x002 0 b a d]
  | .mulhS d a b => [rrr 0 0x003 0 b a d]
  | .mulhZ d a b => [rrr 0 0x004 0 b a d]
  | .divS d a b => [rrr 0 0x005 0 b a d]
  | .divZ d a b => [rrr 0 0x006 0 b a d]
  | .remS d a b => [rrr 0 0x007 0 b a d]
  | .remZ d a b => [rrr 0 0x008 0 b a d]
  | .and d a b => [rrr 0 0x009 0 b a d]
  | .or d a b => [rrr 0 0x00A 0 b a d]
  | .xor d a b => [rrr 0 0x00B 0 b a d]
  | .andn d a b => [rrr 0 0x00C 0 b a d]
  | .shl d a b => [rrr 0 0x00D 0 b a d]
  | .shr d a b => [rrr 0 0x00E 0 b a d]
  | .sha d a b => [rrr 0 0x00F 0 b a d]
  | .minS d a b => [rrr 0 0x010 0 b a d]
  | .minZ d a b => [rrr 0 0x011 0 b a d]
  | .maxS d a b => [rrr 0 0x012 0 b a d]
  | .maxZ d a b => [rrr 0 0x013 0 b a d]
  | .sel d a b => [rrr 0 0x014 0 b a d]
  | .clz d a => [rrr 0 0x015 0 0 a d]
  | .popc d a => [rrr 0 0x016 0 0 a d]
  | .extS d a b => [rrr 0 0x017 0 b a d]
  | .extZ d a b => [rrr 0 0x018 0 b a d]
  | .ins d a b => [rrr 0 0x019 0 b a d]
  | .lea d a b s => [rrr 0 0x01A (0#1 ++ s) b a d]
  | .rot d a b => [rrr 0 0x01B 0 b a d]
  | .bswap d a => [rrr 0 0x01C 0 0 a d]
  | .addi d a i => [rri 0 0x020 i a d]
  | .addiLit d a l => withLit (rri 1 0x020 0 a d) l
  | .andi d a i => [rri 0 0x021 i a d]
  | .andiLit d a l => withLit (rri 1 0x021 0 a d) l
  | .ori d a i => [rri 0 0x022 i a d]
  | .oriLit d a l => withLit (rri 1 0x022 0 a d) l
  | .xori d a i => [rri 0 0x023 i a d]
  | .xoriLit d a l => withLit (rri 1 0x023 0 a d) l
  | .shli d a i => [rri 0 0x024 i a d]
  | .shliLit d a l => withLit (rri 1 0x024 0 a d) l
  | .shri d a i => [rri 0 0x025 i a d]
  | .shriLit d a l => withLit (rri 1 0x025 0 a d) l
  | .shai d a i => [rri 0 0x026 i a d]
  | .shaiLit d a l => withLit (rri 1 0x026 0 a d) l
  | .li d i => [ri15 0 0x027 i d]
  | .liLit d l => withLit (ri15 1 0x027 0 d) l
  | .leasw d a m => [rri 0 0x028 (0#6 ++ m) a d]
  | .cmpEq d a b => [rrr 0 0x029 0 b a d]
  | .cmpNe d a b => [rrr 0 0x02A 0 b a d]
  | .cmpLtS d a b => [rrr 0 0x02B 0 b a d]
  | .cmpLtZ d a b => [rrr 0 0x02C 0 b a d]
  | .cmpLeS d a b => [rrr 0 0x02D 0 b a d]
  | .cmpLeZ d a b => [rrr 0 0x02E 0 b a d]
  | .cmpiEq d a i => [rri 0 0x02F i a d]
  | .cmpiEqLit d a l => withLit (rri 1 0x02F 0 a d) l
  | .cmpiNe d a i => [rri 0 0x030 i a d]
  | .cmpiNeLit d a l => withLit (rri 1 0x030 0 a d) l
  | .cmpiLtS d a i => [rri 0 0x031 i a d]
  | .cmpiLtSLit d a l => withLit (rri 1 0x031 0 a d) l
  | .cmpiLtZ d a i => [rri 0 0x032 i a d]
  | .cmpiLtZLit d a l => withLit (rri 1 0x032 0 a d) l
  | .cmpiLeS d a i => [rri 0 0x033 i a d]
  | .cmpiLeSLit d a l => withLit (rri 1 0x033 0 a d) l
  | .cmpiLeZ d a i => [rri 0 0x034 i a d]
  | .cmpiLeZLit d a l => withLit (rri 1 0x034 0 a d) l
  | .nop => [rrr 0 0x035 0 0 0 0]
  | .faddF32 d a b f => [rrr 0 0x040 f b a d]
  | .faddF64 d a b f => [rrr 0 0x041 f b a d]
  | .fsubF32 d a b f => [rrr 0 0x042 f b a d]
  | .fsubF64 d a b f => [rrr 0 0x043 f b a d]
  | .fmulF32 d a b f => [rrr 0 0x044 f b a d]
  | .fmulF64 d a b f => [rrr 0 0x045 f b a d]
  | .fdivF32 d a b f => [rrr 0 0x046 f b a d]
  | .fdivF64 d a b f => [rrr 0 0x047 f b a d]
  | .fsqrtF32 d a f => [rrr 0 0x048 f 0 a d]
  | .fsqrtF64 d a f => [rrr 0 0x049 f 0 a d]
  | .ffmaF32 d a b f => [rrr 0 0x04A f b a d]
  | .ffmaF64 d a b f => [rrr 0 0x04B f b a d]
  | .fminF32 d a b => [rrr 0 0x04C 0 b a d]
  | .fminF64 d a b => [rrr 0 0x04D 0 b a d]
  | .fmaxF32 d a b => [rrr 0 0x04E 0 b a d]
  | .fmaxF64 d a b => [rrr 0 0x04F 0 b a d]
  | .fcmpF32 d a b p => [rrr 0 0x050 (0#1 ++ p) b a d]
  | .fcmpF64 d a b p => [rrr 0 0x051 (0#1 ++ p) b a d]
  | .fcvtF32 d a f c => [rrr 0 0x052 f c a d]
  | .fcvtF64 d a f c => [rrr 0 0x053 f c a d]
  | .fclassF32 d a => [rrr 0 0x054 0 0 a d]
  | .fclassF64 d a => [rrr 0 0x055 0 0 a d]
  | .fsgnF32 d a b j => [rrr 0 0x056 (0#1 ++ j) b a d]
  | .fsgnF64 d a b j => [rrr 0 0x057 (0#1 ++ j) b a d]
  | .br o => [ri15 0 0x060 o 0]
  | .brLit l => withLit (ri15 1 0x060 0 0) l
  | .bcEq a o => [ri15 0 0x061 o a]
  | .bcEqLit a l => withLit (ri15 1 0x061 0 a) l
  | .bcNe a o => [ri15 0 0x062 o a]
  | .bcNeLit a l => withLit (ri15 1 0x062 0 a) l
  | .bcLt a o => [ri15 0 0x063 o a]
  | .bcLtLit a l => withLit (ri15 1 0x063 0 a) l
  | .bcGe a o => [ri15 0 0x064 o a]
  | .bcGeLit a l => withLit (ri15 1 0x064 0 a) l
  | .bcLe a o => [ri15 0 0x065 o a]
  | .bcLeLit a l => withLit (ri15 1 0x065 0 a) l
  | .bcGt a o => [ri15 0 0x066 o a]
  | .bcGtLit a l => withLit (ri15 1 0x066 0 a) l
  | .jmp a i => [rri 0 0x067 i a 0]
  | .jmpLit a l => withLit (rri 1 0x067 0 a 0) l
  | .call a o => [ri15 0 0x068 o a]
  | .callLit a l => withLit (ri15 1 0x068 0 a) l
  | .ret a => [rrr 0 0x069 0 0 a 0]
  | .loop a o => [ri15 0 0x06A o a]
  | .loopLit a l => withLit (ri15 1 0x06A 0 a) l
  | .endAct => [rrr 0 0x06B 0 0 0 0]
  | .trap i => [ri15 0 0x06C i 0]
  | .eret => [rrr 0 0x06D 0 0 0 0]
  | .csrr d c => [ri15 0 0x06E (0#3 ++ c) d]
  | .csrw d c => [ri15 0 0x06F (0#3 ++ c) d]
  | .csrs d c => [ri15 0 0x070 (0#3 ++ c) d]
  | .csrc d c => [ri15 0 0x071 (0#3 ++ c) d]
  | .bkpt i => [ri15 0 0x072 i 0]
  | .synci a => [rrr 0 0x073 0 0 a 0]
  | .idle a => [rrr 0 0x074 0 0 a 0]
  | .idleExpiry => []
  | .ldS8 d a i => [rri 0 0x080 i a d]
  | .ldS8Lit d a l => withLit (rri 1 0x080 0 a d) l
  | .ldS8Ext d base space swz off => extForm 0x080 d base space swz off
  | .ldS8ExtLit d base space swz l => extLitForm 0x080 d base space swz l
  | .ldZ8 d a i => [rri 0 0x081 i a d]
  | .ldZ8Lit d a l => withLit (rri 1 0x081 0 a d) l
  | .ldZ8Ext d base space swz off => extForm 0x081 d base space swz off
  | .ldZ8ExtLit d base space swz l => extLitForm 0x081 d base space swz l
  | .ldS16 d a i => [rri 0 0x082 i a d]
  | .ldS16Lit d a l => withLit (rri 1 0x082 0 a d) l
  | .ldS16Ext d base space swz off => extForm 0x082 d base space swz off
  | .ldS16ExtLit d base space swz l => extLitForm 0x082 d base space swz l
  | .ldZ16 d a i => [rri 0 0x083 i a d]
  | .ldZ16Lit d a l => withLit (rri 1 0x083 0 a d) l
  | .ldZ16Ext d base space swz off => extForm 0x083 d base space swz off
  | .ldZ16ExtLit d base space swz l => extLitForm 0x083 d base space swz l
  | .ldS32 d a i => [rri 0 0x084 i a d]
  | .ldS32Lit d a l => withLit (rri 1 0x084 0 a d) l
  | .ldS32Ext d base space swz off => extForm 0x084 d base space swz off
  | .ldS32ExtLit d base space swz l => extLitForm 0x084 d base space swz l
  | .ldZ32 d a i => [rri 0 0x085 i a d]
  | .ldZ32Lit d a l => withLit (rri 1 0x085 0 a d) l
  | .ldZ32Ext d base space swz off => extForm 0x085 d base space swz off
  | .ldZ32ExtLit d base space swz l => extLitForm 0x085 d base space swz l
  | .ld64 d a i => [rri 0 0x086 i a d]
  | .ld64Lit d a l => withLit (rri 1 0x086 0 a d) l
  | .ld64Ext d base space swz off => extForm 0x086 d base space swz off
  | .ld64ExtLit d base space swz l => extLitForm 0x086 d base space swz l
  | .ld128 d a i => [rri 0 0x087 i a d]
  | .ld128Lit d a l => withLit (rri 1 0x087 0 a d) l
  | .ld128Ext d base space swz off => extForm 0x087 d base space swz off
  | .ld128ExtLit d base space swz l => extLitForm 0x087 d base space swz l
  | .st8 d a i => [rri 0 0x088 i a d]
  | .st8Lit d a l => withLit (rri 1 0x088 0 a d) l
  | .st8Ext d base space swz off => extForm 0x088 d base space swz off
  | .st8ExtLit d base space swz l => extLitForm 0x088 d base space swz l
  | .st16 d a i => [rri 0 0x089 i a d]
  | .st16Lit d a l => withLit (rri 1 0x089 0 a d) l
  | .st16Ext d base space swz off => extForm 0x089 d base space swz off
  | .st16ExtLit d base space swz l => extLitForm 0x089 d base space swz l
  | .st32 d a i => [rri 0 0x08A i a d]
  | .st32Lit d a l => withLit (rri 1 0x08A 0 a d) l
  | .st32Ext d base space swz off => extForm 0x08A d base space swz off
  | .st32ExtLit d base space swz l => extLitForm 0x08A d base space swz l
  | .st64 d a i => [rri 0 0x08B i a d]
  | .st64Lit d a l => withLit (rri 1 0x08B 0 a d) l
  | .st64Ext d base space swz off => extForm 0x08B d base space swz off
  | .st64ExtLit d base space swz l => extLitForm 0x08B d base space swz l
  | .st128 d a i => [rri 0 0x08C i a d]
  | .st128Lit d a l => withLit (rri 1 0x08C 0 a d) l
  | .st128Ext d base space swz off => extForm 0x08C d base space swz off
  | .st128ExtLit d base space swz l => extLitForm 0x08C d base space swz l
  | .ldf d a i => [rri 0 0x08D i a d]
  | .ldsS8 d a i => [rri 0 0x08E i a d]
  | .ldsZ8 d a i => [rri 0 0x08F i a d]
  | .ldsS16 d a i => [rri 0 0x090 i a d]
  | .ldsZ16 d a i => [rri 0 0x091 i a d]
  | .ldsS32 d a i => [rri 0 0x092 i a d]
  | .ldsZ32 d a i => [rri 0 0x093 i a d]
  | .lds64 d a i => [rri 0 0x094 i a d]
  | .sts8 d a i => [rri 0 0x095 i a d]
  | .sts16 d a i => [rri 0 0x096 i a d]
  | .sts32 d a i => [rri 0 0x097 i a d]
  | .sts64 d a i => [rri 0 0x098 i a d]
  | .amoAdd32 d a b s => [rrr 0 0x0A0 s b a d]
  | .amoAdd64 d a b s => [rrr 0 0x0A1 s b a d]
  | .amoMinS32 d a b s => [rrr 0 0x0A2 s b a d]
  | .amoMinS64 d a b s => [rrr 0 0x0A3 s b a d]
  | .amoMinZ32 d a b s => [rrr 0 0x0A4 s b a d]
  | .amoMinZ64 d a b s => [rrr 0 0x0A5 s b a d]
  | .amoMaxS32 d a b s => [rrr 0 0x0A6 s b a d]
  | .amoMaxS64 d a b s => [rrr 0 0x0A7 s b a d]
  | .amoMaxZ32 d a b s => [rrr 0 0x0A8 s b a d]
  | .amoMaxZ64 d a b s => [rrr 0 0x0A9 s b a d]
  | .amoAnd32 d a b s => [rrr 0 0x0AA s b a d]
  | .amoAnd64 d a b s => [rrr 0 0x0AB s b a d]
  | .amoOr32 d a b s => [rrr 0 0x0AC s b a d]
  | .amoOr64 d a b s => [rrr 0 0x0AD s b a d]
  | .amoXor32 d a b s => [rrr 0 0x0AE s b a d]
  | .amoXor64 d a b s => [rrr 0 0x0AF s b a d]
  | .amoXchg32 d a b s => [rrr 0 0x0B0 s b a d]
  | .amoXchg64 d a b s => [rrr 0 0x0B1 s b a d]
  | .amoCas32 d a b s => [rrr 0 0x0B2 s b a d]
  | .amoCas64 d a b s => [rrr 0 0x0B3 s b a d]
  | .amoCas128 d a b s => [rrr 0 0x0B4 s b a d]
  | .amoFaddF32 d a b s => [rrr 0 0x0B5 s b a d]
  | .ldx32 d a s => [rrr 0 0x0B6 s 0 a d]
  | .ldx64 d a s => [rrr 0 0x0B7 s 0 a d]
  | .stx32 d a s => [rrr 0 0x0B8 s 0 a d]
  | .stx64 d a s => [rrr 0 0x0B9 s 0 a d]
  | .ldacq64 d a s => [rrr 0 0x0BA s 0 a d]
  | .strel64 d a s => [rrr 0 0x0BB s 0 a d]
  | .fence s => [rrr 0 0x0BC s 0 0 0]
  | .xfence s m => [ri15 0 0x0BD (0#6 ++ s ++ m) 0]
  | .vaddVv d a b f => [rrr 0 0x0C0 f b a d]
  | .vaddVs d a b f => [rrr 0 0x0C1 f b a d]
  | .vaddVq d a b f => [rrr 0 0x0C2 f b a d]
  | .vsubVv d a b f => [rrr 0 0x0C3 f b a d]
  | .vsubVs d a b f => [rrr 0 0x0C4 f b a d]
  | .vsubVq d a b f => [rrr 0 0x0C5 f b a d]
  | .vmulVv d a b f => [rrr 0 0x0C6 f b a d]
  | .vmulVs d a b f => [rrr 0 0x0C7 f b a d]
  | .vmulVq d a b f => [rrr 0 0x0C8 f b a d]
  | .vminVv d a b => [rrr 0 0x0C9 0 b a d]
  | .vminVs d a b => [rrr 0 0x0CA 0 b a d]
  | .vminVq d a b => [rrr 0 0x0CB 0 b a d]
  | .vmaxVv d a b => [rrr 0 0x0CC 0 b a d]
  | .vmaxVs d a b => [rrr 0 0x0CD 0 b a d]
  | .vmaxVq d a b => [rrr 0 0x0CE 0 b a d]
  | .vfmaVv d a b f => [rrr 0 0x0CF f b a d]
  | .vfmaVs d a b f => [rrr 0 0x0D0 f b a d]
  | .vfmaVq d a b f => [rrr 0 0x0D1 f b a d]
  | .vabs d a => [rrr 0 0x0D2 0 0 a d]
  | .vneg d a => [rrr 0 0x0D3 0 0 a d]
  | .vcvt d a f t => [rrr 0 0x0D4 f (t ++ 0#5) a d]
  | .vscale d a b f => [rrr 0 0x0D5 f b a d]
  | .vsum d a f => [rrr 0 0x0E0 f 0 a d]
  | .vdot d a b f => [rrr 0 0x0E1 f b a d]
  | .vdotQ d a b f => [rrr 0 0x0E2 f b a d]
  | .vcmp d a b p => [rrr 0 0x0E3 (0#1 ++ p) b a d]
  | .vsel d a b => [rrr 0 0x0E4 0 b a d]
  | .vclass d a => [rrr 0 0x0E5 0 0 a d]
  | .vcopy d a => [rrr 0 0x0E6 0 0 a d]
  | .vcopyW d a => [rrr 0 0x0E6 0 1 a d]
  | .vcopyWAll d a => [rrr 0 0x0E6 0 2 a d]
  | .vfill d a => [rrr 0 0x0E7 0 0 a d]
  | .vfillI d a => [rrr 0 0x0E7 0 1 a d]
  | .vfillB d a => [rrr 0 0x0E7 0 2 a d]
  | .vgath d a b => [rrr 0 0x0E8 0 b a d]
  | .vq4 d a b => [rrr 0 0x0E9 0 b a d]
  | .vrng d a => [rrr 0 0x0EA 0 0 a d]
  | .vmaxabs d a => [rrr 0 0x0EB 0 0 a d]
  | .viadd d a b => [rrr 0 0x0EC 0 b a d]
  | .visub d a b => [rrr 0 0x0ED 0 b a d]
  | .vimul d a b => [rrr 0 0x0EE 0 b a d]
  | .viand d a b => [rrr 0 0x0EF 0 b a d]
  | .vior d a b => [rrr 0 0x0F0 0 b a d]
  | .vixor d a b => [rrr 0 0x0F1 0 b a d]
  | .vishl d a b => [rrr 0 0x0F2 0 b a d]
  | .vishr d a b f => [rrr 0 0x0F3 (0#2 ++ f) b a d]
  | .vidx d a b => [rrr 0 0x0F4 0 b a d]
  | .vpack d a b => [rrr 0 0x0F5 0 b a d]
  | .vunpk d a b => [rrr 0 0x0F6 0 b a d]
  | .vrcp d a f => [rrr 0 0x0F7 f 0 a d]
  | .vrsqrt d a f => [rrr 0 0x0F8 f 0 a d]
  | .waitf d a i => [rri 0 0x100 i a d]
  | .waitfLit d a l => withLit (rri 1 0x100 0 a d) l
  | .waite d a i => [rri 0 0x101 i a d]
  | .waiteLit d a l => withLit (rri 1 0x101 0 a d) l
  | .advp d a i => [rri 0 0x102 i a d]
  | .advpLit d a l => withLit (rri 1 0x102 0 a d) l
  | .advc d a i => [rri 0 0x103 i a d]
  | .advcLit d a l => withLit (rri 1 0x103 0 a d) l
  | .hset d a i => [rri 0 0x104 i a d]
  | .hget d a i => [rri 0 0x105 i a d]
  | .hmov d a => [hhh 0 0x106 0 0 a d]
  | .hld d a i => [rri 0 0x107 i a d]
  | .hldLit d a l => withLit (rri 1 0x107 0 a d) l
  | .hst d a i => [rri 0 0x108 i a d]
  | .hstLit d a l => withLit (rri 1 0x108 0 a d) l
  | .send d a b => [rrr 0 0x109 0 b a d]
  | .sendSp d a b => [rrr 0 0x109 1 b a d]
  | .sendCode d a b => [rrr 0 0x109 2 b a d]
  | .sendNz d a b => [rrr 0 0x109 3 b a d]
  | .sendw d a b => [rrr 0 0x10A 0 b a d]
  | .sendwSp d a b => [rrr 0 0x10A 1 b a d]
  | .sendwCode d a b => [rrr 0 0x10A 2 b a d]
  | .sendwNz d a b => [rrr 0 0x10A 3 b a d]
  | .relw d => [rrr 0 0x10B 0 0 0 d]
  | .wcnt d a => [rrr 0 0x10C 0 0 a d]
  | .ckpt => [rrr 0 0x10D 0 0 0 0]
  | .yield => [rrr 0 0x10E 0 0 0 0]
  | .tstamp d => [rrr 0 0x10F 0 0 0 d]
  | .spawn d a b => [rrr 0 0x110 0 b a d]
  | .abort => [rrr 0 0x111 0 0 0 0]
  | .fnfit d a b c => [rrr 0 0x120 (0#2 ++ c) b a d]
  | .fnld d a i => [rri 0 0x121 i a d]
  | .fnldLit d a l => withLit (rri 1 0x121 0 a d) l
  | .fnst d a i => [rri 0 0x122 i a d]
  | .fnstLit d a l => withLit (rri 1 0x122 0 a d) l
  | .fnadd d a b c => [rrr 0 0x123 (0#2 ++ c) b a d]
  | .fnsub d a b c => [rrr 0 0x124 (0#2 ++ c) b a d]
  | .fnmul d a b c => [rrr 0 0x125 (0#2 ++ c) b a d]
  | .fnscale d a b c => [rrr 0 0x126 (0#2 ++ c) b a d]
  | .fncomp d a b c => [rrr 0 0x127 (0#2 ++ c) b a d]
  | .fnint d a c => [rrr 0 0x128 (0#2 ++ c) 0 a d]
  | .fnder d a c => [rrr 0 0x129 (0#2 ++ c) 0 a d]
  | .fnroot d a b => [rrr 0 0x12A 0 b a d]
  | .fneval d a b c => [rrr 0 0x12B (0#2 ++ c) b a d]
  | .fnevs d a b c => [rrr 0 0x12C (0#2 ++ c) b a d]
  | .fntrunc d a b c => [rrr 0 0x12D (0#2 ++ c) b a d]
  | .fndom d a b => [rrr 0 0x12E 0 b a d]
  | .fnfree d => [rrr 0 0x12F 0 0 0 d]
  | .fnlen d a => [rrr 0 0x130 0 0 a d]
  | .fnmov d a c => [rrr 0 0x131 (0#2 ++ c) 0 a d]
  | .pdict a => [rrr 0 0x140 0 0 a 0]
  | .pimg a => [rrr 0 0x141 0 0 a 0]
  | .pthr a b => [rrr 0 0x142 0 b a 0]
  | .penc d a b => [rrr 0 0x143 0 b a d]
  | .pacc d a => [rrr 0 0x144 0 0 a d]
  | .pesc d a => [rrr 0 0x145 0 0 a d]
  | .pdec d a => [rrr 0 0x146 0 0 a d]
  | .pgrad d a b => [rrr 0 0x147 0 b a d]
  | .pstat d => [rrr 0 0x148 0 0 0 d]
  | .mxq a b => [hhh 0 0x149 0 b a 0]
  | .mxseq d => [rrr 0 0x14A 0 0 0 d]
  | .mxwait a => [rrr 0 0x14B 0 0 a 0]
  | .accmv d a b => [rrr 0 0x14C 0 b a d]
  | .accpk d a b => [rrr 0 0x14D 0 b a d]
  | .mxLdw => []
  | .mxMma _ => []
  | .mxMmat _ => []
  | .mxStacc => []
  | .mxZero => []
  | .mxChk => []
  | .admode m => [ri15 0 0x160 (0#13 ++ m) 0]
  | .adld d a i => [rri 0 0x161 i a d]
  | .adldLit d a l => withLit (rri 1 0x161 0 a d) l
  | .adst d a i => [rri 0 0x162 i a d]
  | .adstLit d a l => withLit (rri 1 0x162 0 a d) l
  | .adclr d a i => [rri 0 0x163 i a d]
  | .adclrLit d a l => withLit (rri 1 0x163 0 a d) l
  | .tmark d => [rrr 0 0x164 0 0 0 d]
  | .trew a => [rrr 0 0x165 0 0 a 0]
  | .tstat d => [rrr 0 0x166 0 0 0 d]
  | .lkset a => [rrr 0 0x167 0 0 a 0]
  | .lkget d => [rrr 0 0x168 0 0 0 d]
  | .qbind d a => [rrr 0 0x169 0 0 a d]
  | .qpush d a => [rrr 0 0x16A 0 0 a d]
  | .nxld d a n => [rrr 0 0x16B (0#2 ++ n) 0 a d]
  | .nxst d a n => [rrr 0 0x16C (0#2 ++ n) 0 a d]
  | .balloc d => [rrr 0 0x16D 0 0 0 d]
  | .bfree a => [rrr 0 0x16E 0 0 a 0]
  | .barr d a b c => [rrr 0 0x16F (0#2 ++ c) b a d]
  | .barrM d a b c => [rrr 0 0x170 (0#2 ++ c) b a d]
  | .barrMCs d a b c => [rrr 0 0x170 (1#2 ++ c) b a d]
  | .bwait d a b => [rrr 0 0x171 0 b a d]
  | .bwaitCs d a b => [rrr 0 0x171 1 b a d]
  | .bwaitGv d a b => [rrr 0 0x171 2 b a d]
  | .btest d a b => [rrr 0 0x172 0 b a d]
  | .btestCs d a b => [rrr 0 0x172 1 b a d]
  | .btestGv d a b => [rrr 0 0x172 2 b a d]
  | .barto => []
  | .barrierChangeNotice => []
  | .capxfer a b => [rrr 0 0x180 0 b a 0]
  | .capq d a => [rrr 0 0x181 0 0 a d]
  | .circ d a b => [rrr 0 0x182 0 b a d]
  | .circrel a => [rrr 0 0x183 0 0 a 0]
  | .sopen d a b => [rrr 0 0x184 0 b a d]
  | .sclose a => [rrr 0 0x185 0 0 a 0]
  | .cp d a c => [rrr 0 0x186 c 0 a d]
  | .cpt d a c => [rrr 0 0x187 c 0 a d]
  | .gath d a b c => [rrr 0 0x188 c b a d]
  | .cpwp d c => [rrr 0 0x189 c 0 0 d]
  | .cpwait c => [rrr 0 0x18A c 0 0 0]
  | .engseq d a => [rrr 0 0x18B 0 0 a d]
  | .halo d a c => [rrr 0 0x18C c 0 a d]
  | .lclock d => [rrr 0 0x18D 0 0 0 d]
  | .engineUnit _ => []
  | .pst d a i => [rri 0 0x1A0 i a d]
  | .pstLit d a l => withLit (rri 1 0x1A0 0 a d) l
  | .pstb d a i => [rri 0 0x1A1 i a d]
  | .pstbLit d a l => withLit (rri 1 0x1A1 0 a d) l
  | .redst d a i => [rri 0 0x1A2 i a d]
  | .redstLit d a l => withLit (rri 1 0x1A2 0 a d) l
  | .redq d a => [rrr 0 0x1A3 0 0 a d]
  | .wake a => [rrr 0 0x1A4 0 0 a 0]
  | .sigx a => [rrr 0 0x1A5 0 0 a 0]
  | .mark d i => [ri15 0 0x1A6 i d]
  | .packetPlacement _ _ => []
  | .unboundArrivalAnswer _ _ => []
  | .activationStart => []
  | .heldRequest _ _ => []
  | .applyNotice _ _ _ _ => []
  | .dropNotice _ _ => []
  | .commitAcknowledgement => []
  | .speculationEnd => []
  | .preempt _ => []
  | .contextSave => []
  | .contextResume _ => []
  | .partitionSwitch _ => []
  | .parkedActivationReturn _ _ => []
  | .linkPassThrough _ _ => []
  | .circuitIdleTimeout _ => []
  | .closingMarker _ => []
  | .setupFlit _ _ => []
  | .setupGrant _ => []
  | .syncPacket _ _ _ _ => []
  | .wakePlacement _ _ _ _ => []
  | .kernelInstall _ => []
  | .kernelRemoval _ => []
  | .slotRecordWrite _ _ _ => []
  | .quantumEnd => []
  | .clockChange _ => []
  | .thermalThrottle _ => []
  | .thermalPreemption => []
  | .thermalResume => []
  | .thermalTrip => []
  | .boot _ => []
  | .attestationRequest _ => []
  | .hostBarAccess _ => []
  | .hostDma _ => []
  | .sliceAccess _ => []
  | .hbmFill _ _ => []
  | .calderaRefreshStart _ => []
  | .calderaRefreshEnd _ => []
  | .tlbWalk _ _ => []
  | .firmwareInvalidation _ => []
  | .migration _ _ _ => []
  | .migrationCopyComplete _ _ => []
  | .hotnessRead _ => []
  | .uncorrectableError _ => []
  | .correctableError _ _ => []
  | .fabricRequest _ _ _ => []
  | .fabricResendTimeout _ _ => []
  | .flitCrcFailure _ => []
  | .onDieLinkCrcFailure _ _ => []
  | .leaseRecall _ => []
  | .leaseHolderFailed _ => []
  | .reduceContribution _ _ _ _ => []
  | .geyserTick _ => []
  | .counterRotate => []
  | .debugStop _ => []
  | .debugResume => []
  | .breakResume => []
  | .patch _ _ => []
  | .replayLogDrain => []
  | .frmWrite _ => []
  | .fntolWrite _ => []
  | .pmselWrite _ => []
  | .csrWrite _ _ => []
  | .nonInstruction w _ => [w]
  | .placementAcknowledgement => []
  | .atomicReply => []
  | .holdAnswer => []
  | .managementEthernetFrame _ => []

/-- The first word of an instruction, which ILLOP and ILLOPD put into TVAL (R59, R43). -/
def Instr.word (i : Instr) : BitVec 32 := (encode i).headD 0

end Sys2Proof
end

