-- ==== Sys2Proof/Config.lean ====
section
/-!
DEFINITION. Config.lean: the constants of the part and the free values the spec leaves open. A free value is an opaque
function of a plain counter or of the operands it depends on: nothing can be proved of which value it is (log entry 4).
-/

namespace Sys2Proof.Config

/-- Bytes of one core's scratchpad (R155). -/
def spSize : Nat := 262144
/-- Bytes of a cluster sync scratch (R291). -/
def csSize : Nat := 65536
/-- Lines of the write log (R93). -/
def logLines : Nat := 64
/-- Network-interface slots (R82). -/
def niSlots : Nat := 32
/-- Die cycles of one refresh window and of the whole calendar (R312). -/
def refreshWindow : Nat := 900
def refreshCalendar : Nat := 115200
/-- First local address of the caldera and of the ranges above it (R308). -/
def calBase : Nat := 0x08000000000
def sliceControlBase : Nat := 0x08100000000
/-- Home address of the first cluster sync scratch and of the first scratchpad in the model's one memory (log entry 1). -/
def csHome : Nat := 2 ^ 64
def spHome : Nat := 2 ^ 65

/-- Die cycles that a step takes beyond the first: the spec's timing sections change no result. Log entry 4 (DESIGN CHOICE). -/
opaque stepTime : Nat → Nat
/-- How many events of a kind that counts cycles a step makes (R461). Log entry 115 (DEDUCED). -/
opaque eventTime : Nat → Nat → Nat
/-- The order and the merges of contributions on their way to an element of an unordered window (R438). -/
opaque combining : Nat → Nat → Nat → Nat
/-- Whether a fetch of a word that has changed since it was cached still sees the old one (R40). Log entry 103 (DEDUCED). -/
opaque fetchOld : Nat → Nat → Bool
/-- The count from which on an access path sees a unit that another path wrote, with no `xfence` since: until then it may see
the old value (R162). Log entry 57 (DEDUCED). -/
opaque visibleFrom : Nat → Nat → Nat
/-- The set of the second-level TLB that a page number and size select, and the way that a full set or a full private TLB
replaces (R302, R319). Log entry 112 (DEDUCED). -/
opaque tlbSet : Nat → Nat → Nat
opaque tlbVictim : Nat → Nat → Nat
/-- The set of a slice's cache that a line selects, and the way that a full set replaces (R310). Log entry 37 (DEDUCED). -/
opaque sliceSet : Nat → Nat
opaque sliceVictim : Nat → Nat
/-- Where a pre-emption request that meets a running activation stops it: at once, within the next instruction, or, if that
would be too late, by an abort to the checkpoint (R407); and after how many groups of that instruction. Log entry
85 (DEDUCED). -/
opaque stopChoice : Nat → Nat
opaque stopGroups : Nat → Nat
/-- Whether a pre-emption that meets a waiting `idle` ends it (R148) or lets it run again (R407). Log entry 85 (DEDUCED). -/
opaque idleEnds : Nat → Bool
/-- What another core of the die latches at a geyser tick: PC, TAG and run state (R463). Log entry 98 (DESIGN CHOICE). -/
opaque otherLatch : Nat → Nat → Word × BitVec 16 × Nat
/-- Whether other cores have slots for the packets of a quantum at its end (R402, R403). Log entry 65 (DEDUCED). -/
opaque receiverPlaces : Nat → Bool
/-- Whether a neighbour has taken the entry that a link holds (R288). Log entry 64 (DEDUCED). -/
opaque linkTaken : Nat → Bool
/-- How many of its steps the matrix unit does on a command in a turn (R243). -/
opaque unitSteps : Nat → Nat
/-- Whether a unit that works beside the core makes a step in a turn: channels 0 to 7, the matrix unit, the network, and whether
the last core acknowledges a PATCH. Log entry 105 (DESIGN CHOICE). -/
opaque moves : Nat → Nat → Bool
/-- What a scratchpad line outside the live ranges holds when an activation resumes (R96). -/
opaque lostByte : Nat → Nat → Byte
/-- How many receiver slots another core grants to a set-up (R347). Log entry 73 (DESIGN CHOICE). -/
opaque receiverGrant : Nat → Nat
/-- Whether a stage-1 switch entry is missing for a set-up (R347). Log entry 73 (DESIGN CHOICE). -/
opaque switchFull : Nat → Bool
/-- Whether another core holds a stream for a key (R347). Log entry 73 (DESIGN CHOICE). -/
opaque streamHeld : Nat → Bool
/-- The bytes of the ML-DSA-65 signature of a message under the device key (R424). Log entry 38 (PRESUMED). -/
opaque mlDsaSign : List Byte → Nat → Byte
/-- The bytes of the certified public key, which the fused secret of the die determines (R423, R424). Log entry
38 (PRESUMED). -/
opaque devicePublicKey : Nat → Byte
/-- `vmaxabs` of S32 or Z32 elements whose largest magnitude FP32 cannot hold (R175 writes it exactly). Log entry
19 (DESIGN CHOICE). -/
opaque maxAbsUnrepresentable : Nat → BitVec 32
/-- COUNT and PHASE of the status word when a slot was freed during the wait (R298). Log entry 111 (DESIGN CHOICE). -/
opaque freedSlotCount : Nat → BitVec 16
opaque freedSlotPhase : Nat → BitVec 4
/-- The bytes that an attestation measures of the partition descriptors and of the access and pair tables in force, whose
layout no rule gives (R424). Log entry 92 (DEDUCED). -/
opaque configBytes : List (BitVec 16 × Bool × BitVec 32 × List CoreNum) → List AccessEntry → List (Word × Word) → List Byte
/-- The count of soft errors past which the firmware retires a structure (R429). Log entry 131 (DESIGN CHOICE). -/
opaque softThreshold : Nat
/-- SEQ and OP of the MXE of an error that strikes an accumulator which no queued command uses (R246, R247). Log entry
48 (DEDUCED). -/
opaque unnamedCommand : Nat → Nat × BitVec 4
/-- The line that a POISON report names for a link entry or a barrier slot, which are no memory lines (R303). Log entry
30 (DESIGN CHOICE). -/
opaque unnamedLine : Nat → Nat
/-- The SEED of another logical core at a launch, and the `sigx` records of other cores (R447, R448). Log entry
95 (DESIGN CHOICE). -/
opaque otherSeed : Nat → Word
opaque otherRecords : Nat → List (CoreNum × Nat × List Byte)

end Sys2Proof.Config
end

