-- ==== Sys2Proof/Machine/State.lean ====
section
/-!
DEFINITION. Machine/State.lean: every piece of state the spec gives the machine, as plain data, and the state after reset.
The observed core, its network interface and units, and the storage of the world around it (log entry 1).
-/

namespace Sys2Proof.Machine

/-- Why the model stops (never for ordinary data). Log entry 96 (DEDUCED). -/
inductive Fault where
  /-- Raised by `step` when the package has lost power: no rule gives it a next step (R427). Safe: nothing is claimed. -/
  | powerOff
  deriving DecidableEq, Repr

/-- Why an instruction has no meaning here. -/
inductive Refusal where
  /-- Raised by a dispatch arm whose instruction has no meaning yet. Safe: nothing is claimed of it. -/
  | notModelled (mnemonic : String)
  deriving DecidableEq, Repr

/-- Bytes by home address, sorted, with no entry that equals what an unlisted address reads as (R4; log entry 1). -/
abbrev Memory := List Host.Cell

/-- Bytes by home address with no default: what the write log holds (R93). -/
abbrev ByteMap := List Host.Cell

/-- The header of a function register (R186). -/
structure FHdr where
  alloc : Bool
  off : BitVec 10
  n : BitVec 7
  b : BitVec 32
  a : BitVec 32
  deriving DecidableEq, Repr

/-- What a stream register is bound to (R284). -/
inductive QBind where
  | unbound
  | tag (t : BitVec 16)
  | inPrev
  | inNext
  | outNext
  | outPrev
  deriving DecidableEq, Repr

/-- A stream register: its binding, the bytes consumed of what its queue holds, and how many of them a checkpoint has
released (R163, R284). -/
structure QReg where
  bind : QBind
  pos : Nat
  rel : Nat
  deriving DecidableEq, Repr

/-- The data-engine commands (R351). -/
inductive EngOp where
  | cp | cpt | gath | halo
  deriving DecidableEq, Repr

/-- The fault record of R320. -/
structure FaultRec where
  pc : Word
  ipa : Word
  va : Word
  lcore : CoreNum
  access : AccessKind
  reason : BitVec 3
  level : BitVec 2
  walk : Bool
  cause : BitVec 6
  deriving DecidableEq, Repr

/-- A fault that stopped a data-engine channel (R357, R358). -/
structure EngFault where
  cause : BitVec 6
  addr : Word
  unit : Nat
  pf : Option FaultRec
  deriving DecidableEq, Repr

/-- How far a command had come that gave way at the head of its channel (R364): WP, the formats of its pages, and the fault that
had stopped it. -/
structure CmdProg where
  wp : Nat
  fmtD : Option (BitVec 4)
  fmtA : Option (BitVec 4)
  pend : Option EngFault
  deriving DecidableEq, Repr

/-- A command image of a data engine (R98, R351): the handles as they stood at issue, the ring register it is engaged with,
the indices read at issue (R355), and what the issue fixed. `owner` is the serial number of the activation, `skip` the
slots of an engaged command that were complete when its image was recorded (R171), `prog` how far it had come when it gave way at
the head of its channel. -/
structure Cmd where
  owner : Nat
  priv : Bool
  skip : Nat
  op : EngOp
  ch : BitVec 3
  num : Nat
  hd : BitVec 256
  ha : BitVec 256
  idx : List Int
  ringD : Option (BitVec 5)
  ringA : Option (BitVec 5)
  pc : Word
  prog : Option CmdProg
  deriving DecidableEq, Repr

/-- Exactly what a checkpoint records and an abort restores (R90, R123, R163, R208, R263, R351, R401, R448). -/
structure Ctx where
  pc : Word
  s : Vector Word 64
  h : Vector (BitVec 256) 32
  f : Vector FHdr 16
  w : Vector (Option (BitVec 5)) 16
  q : Vector QReg 8
  fflags : BitVec 9
  frm : BitVec 3
  admode : BitVec 2
  seed : Word
  fntol : BitVec 32
  fnspace : Bool
  circidle : BitVec 32
  estat : Word
  priv : Bool
  ppriv : Bool
  epc : Word
  tcause : BitVec 6
  tval : Word
  tscratch : Word
  last : Word
  top : Nat
  iss : Vector Nat 8
  seq : Vector Nat 8
  units : Vector Nat 8
  lic : Nat
  sigk : Nat
  live : Option LiveRec
  reissue : List Cmd
  deriving DecidableEq, Repr

/-- The key that orders ordered activations (R100). -/
structure OrdKey where
  ts : BitVec 48
  core : CoreNum
  place : Nat
  deriving DecidableEq, Repr

/-- The running activation: what it was bound under and its place in the order (R80, R88, R100, R101). -/
structure Act where
  slot : BitVec 5
  tag : BitVec 16
  kind : BitVec 4
  seg : BitVec 8
  prio : BitVec 2
  entry : Word
  ksel : BitVec 4
  part : BitVec 16
  arg : Word
  ts : BitVec 48
  place : Nat
  arrival : Nat
  speculative : Bool
  serial : Nat
  deriving DecidableEq, Repr

/-- A logged adjoint cell (R270). -/
inductive AdjCell where
  | add (p : BitVec 32)
  | set (x : BitVec 32)
  deriving DecidableEq, Repr

/-- A matrix command: its number and the two handles of its image (R234), the format of its operand, and for an LDW the home
addresses of each element or block and of its scale, held until it retires (R238). -/
structure MxCmd where
  num : Nat
  opnd : BitVec 256
  desc : BitVec 256
  fmt : BitVec 4
  homes : List (Nat × Nat)
  deriving DecidableEq, Repr

/-- A pending matrix fault, with the number of its command (R247). Log entry 134 (DESIGN CHOICE). -/
inductive MxFault where
  | mxe (seq : Nat) (storage : Bool) (acc : BitVec 2) (op : BitVec 4)
  | mmx (seq : Nat) (va : Word)
  | capf (seq : Nat) (va : Word)
  deriving DecidableEq, Repr

/-- How far the command at the head of the matrix queue has come (R251): its depth steps or 64-byte units done, the copy W of its
accumulator (R239), and the flags and reruns of those steps. -/
structure MxProg where
  done : Nat
  w : List (BitVec 32)
  flags : BitVec 9
  reruns : Nat
  deriving DecidableEq, Repr

/-- What an activation owns of the matrix unit (R232), with the progress of its head command. -/
structure Mx where
  acc : Vector (List (BitVec 32)) 4
  pois : BitVec 4
  queue : List MxCmd
  iss : Nat
  seq : Nat
  rerun : Nat
  flags : BitVec 4
  pending : List MxFault
  prog : Option MxProg
  deriving DecidableEq, Repr

/-- What an instruction that cannot complete yet waits for (R407); each wait ends by the step the spec names. A wait on a ring
names the filled (true) or free slots that it wants, or waits until no engine is engaged (R169, R170). Log entry
66 (DESIGN CHOICE). -/
inductive Wait where
  | idle
  | ring (h : BitVec 5) (goal : Option (Bool × Nat))
  | acks
  | hold
  | speculation
  | quantum
  | deferred
  | engine (c : BitVec 3)
  | engineRoom (c : BitVec 3)
  | engines
  | matrix
  | matrixRoom
  | bwait
  | stream (q : BitVec 3)
  | link (next : Bool)
  | placement
  | migration
  | walk (va : Word) (kind : AccessKind)
  | round
  | streamOpen
  | replay
  deriving DecidableEq, Repr

/-- The answers a two-phase commit waits for (R94): requests not yet answered, and those answered with their verdict. -/
structure Commit where
  pending : List HeldReq
  answered : List (HeldReq × Bool)
  lease : Bool
  granted : Bool
  deriving DecidableEq, Repr

/-- A packet claimed by `wcnt` since the checkpoint (R97, R109). -/
structure Claim where
  slot : BitVec 5
  arrival : Nat
  prio : BitVec 2
  deriving DecidableEq, Repr

/-- Writes of a source up to a command's number and a count. -/
structure Observed where
  src : Nat
  num : Nat
  upto : Nat
  deriving DecidableEq, Repr

/-- What the core knows of completed writes of its scratchpad: those whose completion the activation has observed (R162), those
observed before it sent a packet to its own core (R386) or made its last arrival at a barrier (R299), and those that every
access since must see. Log entry 57 (DEDUCED). -/
structure PathView where
  done : List Observed
  sent : List Observed
  arrived : List Observed
  seen : List Observed
  deriving DecidableEq, Repr

/-- A contribution that waits at its source: the element, the value, whether its window has left REDUCE or changed meanwhile
(R440), and whether the quantum's end has applied it (R444). -/
structure Waiting where
  home : Nat
  val : BitVec 32
  left : Bool
  added : Bool
  deriving DecidableEq, Repr

/-- A request over the fabric whose reply may not come (R434): the address and KIND of its instruction, the count of retired
instructions since then, the reply that it is owed, and what a `sendw` has sent. Log entry 84 (DEDUCED). -/
structure Unanswered where
  pc : Word
  kind : BitVec 4
  since : Word
  reply : List (Reg × Word)
  sent : Option (CoreNum × Nat)
  deriving DecidableEq, Repr

/-- An abort from outside the instruction that waits until the replay log has room (R468): an ordering conflict, or an
uncorrectable error. -/
inductive LateAbort where
  | order
  | error (code : BitVec 8) (index : BitVec 56)
  deriving DecidableEq, Repr

/-- Everything that belongs to the running activation and that a saved context holds (R408): `sent` is what a `sendw` that waits
for placement has sent, its DEST and count (R106), `streams` the slots of each tag stream and `ended` the partly consumed
packets and link entries of bindings that ended since the checkpoint (R285), `part` the elements, segments or granules of an
instruction that a pre-emption stopped that are done (R161, R228, R328), `partIdx` the indices that such a `vgath` has read
(R180), `snapTvec` the TVEC to which an abort returns (R123), `path` the completed writes of its scratchpad that it knows of,
`redst` the contribution of a `redst` that waits at its source (R439, R440, R444), `answer` the last request whose instruction
has retired on its acceptance, and `lost` those that a LINKF has named (R434), `struck` whether the firmware retires it (R116),
`late` an abort that waits for the replay log (R468), `waited` one more than the cycles that a `bwait` has left (R298), `watch`
the barrier slot that a `bwait` waits on and `freed` whether it has been freed (R295), and `parking` the fault for which the
activation is about to park (R412). -/
structure Run where
  act : Option Act
  ctx : Ctx
  snap : Ctx
  log : ByteMap
  adj : List (Nat × AdjCell)
  readSet : List Nat
  claimed : List Claim
  store : Memory
  pins : List (Nat × Nat)
  mx : Mx
  stall : Option Wait
  waited : Nat
  served : Bool
  idleDone : Bool
  sent : Option (CoreNum × Nat)
  commit : Option Commit
  acks : Nat
  owed : Option (Reg × Word)
  retiring : Bool
  readTags : List Nat
  writeTags : List Nat
  deps : List OrdKey
  streams : Vector (List (BitVec 5)) 8
  ended : List (BitVec 3 × Option (BitVec 5))
  part : Nat
  partIdx : List Int
  watch : Option (Bool × BitVec 6)
  freed : Bool
  snapTvec : Word
  path : PathView
  redst : Option Waiting
  answer : Option Unanswered
  lost : List Unanswered
  struck : Bool
  late : Option LateAbort
  parking : Option FaultRec
  deriving DecidableEq, Repr

/-- Why an instruction does not complete now: a trap with its TVAL (R125), a translation fault (R320), a poisoned line
(R336), a wait (R407), or an internal restart of the activation (R94). -/
inductive Exc where
  | trap (cause : Nat) (val : Word)
  | page (r : FaultRec)
  | poison (line : Nat)
  | wait (w : Wait)
  | restart
  deriving DecidableEq, Repr

/-- The states of a network-interface slot (R82). -/
inductive SlotSt where
  | free | reserved | queued | held
  deriving DecidableEq, Repr

/-- A network-interface slot (R82), with what its packet was bound under (R80), the number of window bindings (R85), the circuit
that holds it (R108), by its number at the receiver, the order in which the packet joined its queue (R86, R404) and, for an
ordered packet, its placement number (R100). -/
structure Slot where
  st : SlotSt
  pkt : Packet
  bound : Option BindEntry
  bindings : Nat
  circ : Option Nat
  place : Nat
  arrival : Nat
  order : Nat
  deriving DecidableEq, Repr

/-- A queued activation that has already run: what it carries (R111, R233, R412). -/
structure Saved where
  act : Act
  snap : Ctx
  mx : Mx
  store : Memory
  pins : List (Nat × Nat)
  streams : Vector (List (BitVec 5)) 8
  deriving DecidableEq, Repr

/-- How an entry of an activation queue came there (R86). -/
inductive QKind where
  | fresh
  | yielded (v : Saved)
  | returned (v : Saved)
  deriving DecidableEq, Repr

/-- An entry of the activation queues (R86): its slot, its priority, its arrival cycle or quantum, the order in which it
joined, the index of its nz-pairs word (R85) and what it carries. -/
structure QItem where
  slot : BitVec 5
  prio : BitVec 2
  arrival : Nat
  order : Nat
  word : Option Nat
  kind : QKind
  deriving DecidableEq, Repr

/-- A circuit or stream at the receiver: granted slots and transfers left (R347, R348). -/
structure RCirc where
  src : CoreNum
  tag : BitVec 16
  id : Nat
  left : Nat
  stream : Bool
  closing : Bool
  deriving DecidableEq, Repr

/-- An open circuit or stream at the source (R344, R348). -/
structure Circ where
  key : CircKey
  left : Nat
  stream : Bool
  idle : BitVec 32
  lastUse : Nat
  deriving DecidableEq, Repr

/-- An entry of a link queue (R281, R287, R303): `owner` is the serial number of the activation that pushed it. -/
structure LinkEntry where
  data : List Byte
  owner : Nat
  committed : Bool
  poisoned : Bool
  deriving DecidableEq, Repr

/-- The part of a TLB entry (R302, R319) that serves one 64 KiB granule `va` of its page: the combined result of both stages,
tagged with its partition and address space, `psize` the size of the page (R318), `fpage` the size of the stage-1 leaf and
`frame` its FRAME, `frames` the 64 KiB blocks that hold the granule's part of that frame, the rights of R322 and the
capability grant of R325. Log entry 112 (DEDUCED). -/
structure TlbEntry where
  part : BitVec 16
  asid : BitVec 16
  va : Nat
  pa : Nat
  ipa : Nat
  psize : Nat
  fpage : Nat
  frame : Nat
  r1 : Bool
  w1 : Bool
  x1 : Bool
  u1 : Bool
  r2 : Bool
  w2 : Bool
  x2 : Bool
  u2 : Bool
  lvl1 : BitVec 2
  lvl2 : BitVec 2
  fmt : BitVec 4
  t : Bool
  g : BitVec 4
  ad : Bool
  frames : List Nat
  accR : Bool
  accW : Bool
  accA : Bool
  grant : Cap
  deriving DecidableEq, Repr

/-- A data-engine channel (R351, R359, R361). -/
structure Chan where
  queue : List Cmd
  wp : Nat
  fmtD : Option (BitVec 4)
  fmtA : Option (BitVec 4)
  pend : Option EngFault
  funit : BitVec 32
  fcause : BitVec 6
  oor : BitVec 16
  fl : BitVec 4
  deriving DecidableEq, Repr

/-- The encoder state that belongs to the core (R207). -/
structure Enc where
  dict : Memory
  n : Nat
  img : Option (BitVec 256)
  theta : BitVec 32
  phi : BitVec 32
  kmax : Nat
  deriving DecidableEq, Repr

/-- An entry of the tape (R259). -/
structure TapeEntry where
  old : Word
  mark : Bool
  size : BitVec 2
  addr : BitVec 56
  deriving DecidableEq, Repr

/-- The tape of the core (R259): `buf` holds the entries from index `base` on, those from `dirty` on are not in memory. -/
structure Tape where
  ta : Word
  cp : Nat
  lc : Nat
  lmax : Nat
  base : Nat
  dirty : Nat
  buf : List TapeEntry
  deriving DecidableEq, Repr

/-- A hardware barrier slot (R292, R294), with the kernel that allocated it (R295) and the arrivers of the current phase in
order (R300). -/
structure BarSlot where
  used : Bool
  part : BitVec 16
  ksel : BitVec 4
  obj : BitVec 128
  poisoned : Bool
  order : List CoreNum
  deriving DecidableEq, Repr

/-- The state of one granule at its home (R323, R332 to R334). -/
structure Granule where
  cap : Cap
  mig : Bool
  hot : BitVec 64
  leases : List (BitVec 22)
  recalled : List (BitVec 22)
  deriving DecidableEq, Repr

/-- A reducing window (R436, R439): its element format and its participant range. -/
structure Window where
  granule : Nat
  fmt : BitVec 4
  first : Nat
  n : Nat
  deriving DecidableEq, Repr

/-- A contribution that is accepted and not yet applied: one of an open round (R439), or one on its way to an unordered
window, into which `count` have been merged (R438). -/
structure Contribution where
  addr : Nat
  core : Nat
  round : Nat
  val : BitVec 32
  count : Nat
  deriving DecidableEq, Repr

/-- Rounds closed, per element (R443). -/
structure Rounds where
  addr : Nat
  closed : Nat
  deriving DecidableEq, Repr

/-- A tag of another speculative ordered activation on a line (R102): its key, the line, whether it wrote, the bytes it
would forward, and the activations it depends on. Log entry 117 (DEDUCED). -/
structure LineTag where
  key : OrdKey
  line : Nat
  writer : Bool
  data : ByteMap
  on : List OrdKey
  deriving DecidableEq, Repr

/-- What the core or a home reports to the management firmware or the host. Log entry 110 (DEDUCED). -/
inductive Report where
  | pageFault (r : FaultRec)
  | programFault (r : FaultRec)
  | poison (addr : Word) (pc : Word)
  | uncorrectable (code : BitVec 8) (index : BitVec 56) (pc : Word)
  | doubleTrap (cause : BitVec 6) (val pc : Word)
  | unbound (slot : BitVec 5)
  | installRefused (why : Nat)
  | slotStatus (idx : BitVec 10) (status : BitVec 2)
  | unsupportedRequest
  | hostData (data : List Byte)
  | attestation (data : List Byte)
  | ready
  | recovery
  | leftOut
  | thermal
  | hotness (granule : Nat) (word : BitVec 64)
  | softErrors (counts : List Nat)
  | linkRetired (link : Nat)
  | structureRetired (die cls : Nat)
  | patchDone (line : Nat)
  | linkDown
  | leaseFailed (pkg : BitVec 22)
  | telemetry
  | signature (data : List Byte)
  | replay (data : List (BitVec 128))
  | arrivals (order : List CoreNum)
  deriving DecidableEq, Repr

/-- One performance-counter set of eight counters (R460). -/
structure PmSet where
  cnt : Vector Word 8
  ev : Vector Word 8
  enab : Vector Word 8
  ran : Vector Word 8
  deriving DecidableEq, Repr

/-- A trace record: header and body (R457, R458). -/
structure TraceRec where
  hdr : BitVec 256
  body : List Byte
  deriving DecidableEq, Repr

/-- Why a core is halted (R407, R464, R465). -/
inductive Halt where
  | preempt | stop | brk
  deriving DecidableEq, Repr

/-- A word of the instruction cache, under its virtual address (R40, R147) and, like a translation, its partition and address
space. -/
structure CodeWord where
  part : BitVec 16
  asid : BitVec 16
  addr : Nat
  word : BitVec 32
  deriving DecidableEq, Repr

/-- A write of a byte of the core's own scratchpad by an access-path class (R72): the value before it and the classes that need
not see it yet (R162, R363, R384); the count at which it was made, the unit that becomes visible as one (eight times its number,
and the class that looks), and its source: the channel, 8 for the matrix unit, 9 for the core and the encoder, and the number of
the command. Log entry 57 (DEDUCED). -/
structure StaleByte where
  addr : Nat
  cls : Nat
  old : Byte
  late : BitVec 6
  since : Nat
  key : Nat
  src : Nat
  num : Nat
  deriving DecidableEq, Repr

/-- The state that belongs to the observed core, not to an activation. `itlb` and `dtlb` are its private TLBs and `tlb` the
second-level TLB of its cluster (R302, R319), and `pages` the translations that the instruction holds which waits for a walk
when `pagesAt` instructions have retired; `codeOld` holds, for bytes of code that have changed since the core last synchronised
its fetches, the values they had before (R40); `wbad` lists the bytes of the weight buffer that an uncorrectable error has
struck (R246); `stopAt` is where a pre-emption that lands within the next instruction stops it (R161); `pmOn` whether the
firmware has enabled counting, and `pmLeft` the die cycles to the next rotation (R460); `launched` whether a kernel has been
launched here since install (R401). -/
structure CoreSt where
  tvec : Word
  retired : Word
  icache : List CodeWord
  itlb : List TlbEntry
  dtlb : List TlbEntry
  tlb : List TlbEntry
  pages : List TlbEntry
  pagesAt : Word
  codeOld : List (Nat × Byte)
  stopAt : Option Nat
  root1 : Word
  root2 : Word
  asid : BitVec 16
  enc : Enc
  wb : Memory
  wbad : List Nat
  tape : Tape
  linkdir : BitVec 4
  chans : Vector Chan 8
  quantum : Nat
  qstart : Nat
  launched : Bool
  serial : Nat
  place : Nat
  wakes : Nat
  pm : Vector PmSet 4
  pmsel : BitVec 2
  pmActive : BitVec 2
  pmctl : BitVec 34
  pmOn : Bool
  pmLeft : Nat
  halt : Option Halt
  stopping : Bool
  inval : List Nat
  deriving DecidableEq, Repr

/-- A kernel installed on the core (R118, R394): its entry, partition, live-range records and digest, the caldera granules that
its regions map (R314), the entries of the access tables that stand for it (R322), whether its tape is placed (R394), the
granules of its `calw` regions (R314), the granules of HBM that the install gave it (R336), those of its code section (R40) and
the address where that section ends (R57). -/
structure Kernel where
  ksel : BitVec 4
  part : BitVec 16
  live : List LiveRec
  digest : List Byte
  caldera : List Nat
  access : List AccessEntry
  tape : Bool
  calw : List Nat
  granules : List Nat
  code : List Nat
  codeEnd : Nat
  deriving DecidableEq, Repr

/-- The core's network interface and its link queues. -/
structure Net where
  binds : Vector BindEntry 64
  ktab : Vector Word 16
  kernels : List Kernel
  slots : Vector Slot 32
  queue : List QItem
  order : Nat
  malformed : BitVec 16
  unboundCount : BitVec 16
  waiting : List Packet
  early : List (Option (BitVec 4) × Packet)
  seenWakes : List (CoreNum × Nat)
  flight : List Packet
  circs : List Circ
  rcircs : List RCirc
  circIds : Nat
  setups : List SetupReq
  inPrev : List LinkEntry
  inNext : List LinkEntry
  outNext : List LinkEntry
  outPrev : List LinkEntry
  deriving DecidableEq, Repr

/-- The homes: memory, what writes of the scratchpad some access path may still miss, the HBM lines that the slices hold (R310),
capabilities, barrier slots, windows, and what they hold for commits and ordered activations; `reduces` the contributions of
other cores to unordered windows that wait for the end of a quantum (R444); `frames` gives the granule that each half granule of
a frame serves, and `scales` says which of them are scale frames (R29, R256). -/
structure Die where
  mem : Memory
  stale : List StaleByte
  cached : List Nat
  poison : List Nat
  gpoison : List Nat
  grans : List (Nat × Granule)
  access : List AccessEntry
  pairs : List (Word × Word)
  clusterSlots : Vector BarSlot 32
  dieSlots : Vector BarSlot 64
  windows : List Window
  contribs : List Contribution
  rounds : List Rounds
  tags : List LineTag
  held : List HeldReq
  answers : List (HeldReq × Bool × Bool)
  deferred : List (Nat × CoreNum × BitVec 32)
  reduces : List (Nat × CoreNum × BitVec 32)
  frames : List (Nat × Nat)
  scales : List Nat
  slotTable : List (BitVec 10 × SlotRecord)
  migrating : List (Nat × List (Nat × Nat))
  mhz : Nat
  deriving DecidableEq, Repr

/-- A parked activation (R412) and the fault for which it parked. -/
structure Parked where
  saved : Saved
  fault : FaultRec
  slot : BitVec 5
  arrival : Nat
  deriving DecidableEq, Repr

/-- A context that the firmware saved (R408): what the activation owns, TVEC, the core's units as they stood, the scratchpad
bytes of its live ranges, and whether an ordering conflict has struck it meanwhile (R102). Log entry 89 (DEDUCED). -/
structure SavedCtx where
  run : Run
  tvec : Word
  enc : Enc
  wb : Memory
  wbad : List Nat
  tape : Tape
  chans : Vector Chan 8
  bytes : ByteMap
  doomed : Bool
  deriving DecidableEq, Repr

/-- The debug settings of a partition (R457, R465, R468). Log entry 88 (DESIGN CHOICE). -/
structure DebugPart where
  enables : BitVec 10
  hold : Bool
  replayFull : BitVec 2
  deriving DecidableEq, Repr

/-- A core's state as another partition left it (R410). -/
structure SwitchedCore where
  part : BitVec 16
  det : Bool
  quant : BitVec 32
  cores : List CoreNum
  me : Nat
  saved : List SavedCtx
  run : Run
  pairs : List (Word × Word)
  core : CoreSt
  net : Net
  parked : List Parked
  inPlace : Option FaultRec
  dset : DebugPart
  deriving DecidableEq, Repr

/-- The package and the fabric: partition, boot, reports, counters, signature with the launch whose wake it still awaits (R447),
the halt that a thermal stop met and whether it saved a context (R427), and in `hostWrites` the writes of the host that a
migration holds, each with its physical address (spec/18, 19, 20; R334, R421). Log entry 108 (DESIGN CHOICE). -/
structure Pkg where
  powered : Bool
  booted : Bool
  bootStep : Nat
  number : BitVec 22
  image : List Byte
  images : List (BitVec 16 × BitVec 4 × List Byte)
  stored : Option (List Byte)
  part : BitVec 16
  det : Bool
  quant : BitVec 32
  cores : List CoreNum
  me : Nat
  switched : List SwitchedCore
  barBase : Nat
  soft : Vector (Vector (BitVec 32) 6) 4
  softRetired : List (Nat × Nat)
  reports : List Report
  filter : List (CoreNum × BitVec 16 × List Byte)
  resends : List (BitVec 22 × BitVec 4 × Word × Nat)
  linkf : Option Word
  linkErrors : List (Nat × Nat)
  retiredLinks : List Nat
  failed : List (BitVec 22)
  sigDigest : List Byte
  sigInputs : List (List Byte)
  sigSeeds : List Word
  sigLaunch : Option Packet
  sigRecords : List (CoreNum × Nat × List Byte)
  throttled : Bool
  thermalHold : Bool
  thermalHalt : Option Halt
  thermalSaved : Bool
  hostWrites : List (HostAccess × Nat)
  deriving DecidableEq, Repr

/-- Debug and replay (spec/23): `gdone` counts the periods of the geyser tick that are over (R463), `patches` lists the lines
whose invalidation other cores have yet to acknowledge (R466). Log entry 108 (DESIGN CHOICE). -/
structure Dbg where
  trace : List TraceRec
  traceCap : Nat
  enables : BitVec 10
  lost : BitVec 14
  glost : BitVec 14
  gperiod : Nat
  gticks : Nat
  gdone : Nat
  patches : List Nat
  hold : Bool
  replay : List (BitVec 128)
  replayCap : Nat
  replayFull : BitVec 2
  replayOff : Bool
  replayMode : Bool
  deriving DecidableEq, Repr

/-- The whole machine. Log entry 1 (DESIGN CHOICE). -/
structure State where
  run : Run
  core : CoreSt
  net : Net
  die : Die
  pkg : Pkg
  dbg : Dbg
  saved : List SavedCtx
  parked : List Parked
  inPlace : Option FaultRec
  cycle : Word
  fresh : Nat
  inputs : List (Option Instr)
  deriving DecidableEq, Repr

/-- An unallocated function register (R87). -/
def FHdr.empty : FHdr := ⟨false, 0, 0, 0, 0⟩

/-- The context of a core that has not yet started an activation: every register zero but for the reset values of R119,
R190 and R348. Log entry 2 (DESIGN CHOICE). -/
def Ctx.reset : Ctx where
  pc := 0
  s := Vector.replicate 64 0
  h := Vector.replicate 32 0
  f := Vector.replicate 16 FHdr.empty
  w := Vector.replicate 16 none
  q := Vector.replicate 8 ⟨.unbound, 0, 0⟩
  fflags := 0
  frm := 0
  admode := 0
  seed := 0
  fntol := 0x33800000
  fnspace := false
  circidle := 4096
  estat := 0
  priv := false
  ppriv := false
  epc := 0
  tcause := 0
  tval := 0
  tscratch := 0
  last := 0
  top := 0
  iss := Vector.replicate 8 0
  seq := Vector.replicate 8 0
  units := Vector.replicate 8 0
  lic := 0
  sigk := 0
  live := none
  reissue := []

/-- The matrix unit as an activation finds it (R87, R232). -/
def Mx.reset : Mx where
  acc := Vector.replicate 4 (List.replicate 256 0)
  pois := 0
  queue := []
  iss := 0
  seq := 0
  rerun := 0
  flags := 0
  pending := []
  prog := none

/-- No activation running. Log entry 2 (DESIGN CHOICE). -/
def Run.reset : Run where
  act := none
  ctx := Ctx.reset
  snap := Ctx.reset
  log := []
  adj := []
  readSet := []
  claimed := []
  store := []
  pins := []
  mx := Mx.reset
  stall := none
  waited := 0
  served := false
  idleDone := false
  sent := none
  commit := none
  acks := 0
  owed := none
  retiring := false
  readTags := []
  writeTags := []
  deps := []
  streams := Vector.replicate 8 []
  ended := []
  part := 0
  partIdx := []
  watch := none
  freed := false
  snapTvec := 0
  path := ⟨[], [], [], []⟩
  redst := none
  answer := none
  lost := []
  struck := false
  late := none
  parking := none

/-- An engine channel with nothing issued (R351). -/
def Chan.reset : Chan := ⟨[], 0, none, none, none, 0, 0, 0, 0⟩

/-- The encoder at kernel install (R207). -/
def Enc.reset : Enc := ⟨[], 0, none, 0, 0x7F800000, 16⟩

/-- The tape at kernel install (R259), without an area. -/
def Tape.reset : Tape := ⟨0, 0, 0, 0, 0, 0, []⟩

/-- A counter set with nothing counted (R460). -/
def PmSet.reset : PmSet := ⟨Vector.replicate 8 0, Vector.replicate 8 0, Vector.replicate 8 0, Vector.replicate 8 0⟩

/-- The core-owned state after reset. Log entry 2 (DESIGN CHOICE). -/
def CoreSt.reset : CoreSt where
  tvec := 0
  retired := 0
  icache := []
  itlb := []
  dtlb := []
  tlb := []
  pages := []
  pagesAt := 0
  codeOld := []
  stopAt := none
  root1 := 0
  root2 := 0
  asid := 0
  enc := Enc.reset
  wb := []
  wbad := []
  tape := Tape.reset
  linkdir := 0
  chans := Vector.replicate 8 Chan.reset
  quantum := 0
  qstart := 0
  launched := false
  serial := 0
  place := 0
  wakes := 0
  pm := Vector.replicate 4 PmSet.reset
  pmsel := 0
  pmActive := 0
  pmctl := 0
  pmOn := false
  pmLeft := 0
  halt := none
  stopping := false
  inval := []

/-- An empty packet, for a slot that holds nothing. -/
def Packet.empty : Packet := ⟨0, 0, 0, 0, 0, 0, 0, [], false⟩

/-- A FREE slot (R82). -/
def Slot.empty : Slot := ⟨.free, Packet.empty, none, 0, none, 0, 0, 0⟩

/-- An invalid bind entry (R80). -/
def BindEntry.empty : BindEntry := ⟨0, false, 0, 0, 0, 0⟩

/-- The network interface after reset. Log entry 2 (DESIGN CHOICE). -/
def Net.reset : Net where
  binds := Vector.replicate 64 BindEntry.empty
  ktab := Vector.replicate 16 0
  kernels := []
  slots := Vector.replicate 32 Slot.empty
  queue := []
  order := 0
  malformed := 0
  unboundCount := 0
  waiting := []
  early := []
  seenWakes := []
  flight := []
  circs := []
  rcircs := []
  circIds := 0
  setups := []
  inPrev := []
  inNext := []
  outNext := []
  outPrev := []

/-- A free barrier slot (R294). -/
def BarSlot.empty : BarSlot := ⟨false, 0, 0, 0, false, []⟩

/-- The homes after reset: every byte zero (R423), nothing granted. Log entry 2 (DESIGN CHOICE). -/
def Die.reset : Die where
  mem := []
  stale := []
  cached := []
  poison := []
  gpoison := []
  grans := []
  access := []
  pairs := []
  clusterSlots := Vector.replicate 32 BarSlot.empty
  dieSlots := Vector.replicate 64 BarSlot.empty
  windows := []
  contribs := []
  rounds := []
  tags := []
  held := []
  answers := []
  deferred := []
  reduces := []
  frames := []
  scales := []
  slotTable := []
  migrating := []
  mhz := 1800

/-- The package after reset: powered, not booted, one partition of one cluster of sixteen cores whose first is the observed
core. Log entries 2 (DESIGN CHOICE), 3 (DESIGN CHOICE). -/
def Pkg.reset : Pkg where
  powered := true
  booted := false
  bootStep := 0
  number := 0
  image := []
  images := []
  stored := none
  part := 0
  det := false
  quant := 4096
  cores := [0, 1, 2, 3, 4, 5, 6, 7, 8, 9, 10, 11, 12, 13, 14, 15]
  me := 0
  switched := []
  barBase := 0
  soft := Vector.replicate 4 (Vector.replicate 6 0)
  softRetired := []
  reports := []
  filter := []
  resends := []
  linkf := none
  linkErrors := []
  retiredLinks := []
  failed := []
  sigDigest := []
  sigInputs := []
  sigSeeds := []
  sigLaunch := none
  sigRecords := []
  throttled := false
  thermalHold := false
  thermalHalt := none
  thermalSaved := false
  hostWrites := []

/-- Debug after reset: nothing enabled. Log entries 2 (DESIGN CHOICE), 108 (DESIGN CHOICE). -/
def Dbg.reset : Dbg := ⟨[], 0, 0, 0, 0, 0, 0, 0, [], false, [], 0, 0, false, false⟩

/-- The machine right after reset: nothing runs, memory lists nothing. Log entries 2 (DESIGN CHOICE), 4 (DESIGN CHOICE). -/
def State.reset : State where
  run := Run.reset
  core := CoreSt.reset
  net := Net.reset
  die := Die.reset
  pkg := Pkg.reset
  dbg := Dbg.reset
  saved := []
  parked := []
  inPlace := none
  cycle := 0
  fresh := 0
  inputs := []

end Sys2Proof.Machine
end

