-- ==== Sys2Proof/Machine/Memory.lean ====
section
/-!
DEFINITION. Machine/Memory.lean: the one memory of the model and the byte maps of the write log: reading and writing bytes,
in one canonical form, and little-endian numbers over them (spec/00 R4).
-/

namespace Sys2Proof.Machine

/-- What a byte reads as that no entry lists: boot zeroes every SRAM and HBM line (R423). Log entry 8 (DEDUCED). -/
def unlistedByte : Byte := 0

/-- The byte at a home address. Log entry 8 (DEDUCED). -/
def Memory.get : Memory → Nat → Byte
  | [], _ => unlistedByte
  | (k, v) :: m, a => if k = a then v else if a < k then unlistedByte else Memory.get m a

/-- Writes one byte and keeps the canonical form: a byte that reads as an unlisted one is not listed. -/
def Memory.set : Memory → Nat → Byte → Memory
  | [], a, v => if v = unlistedByte then [] else [(a, v)]
  | (k, w) :: m, a, v =>
    if k = a then (if v = unlistedByte then m else (a, v) :: m)
    else if a < k then (if v = unlistedByte then (k, w) :: m else (a, v) :: (k, w) :: m)
    else (k, w) :: Memory.set m a v

/-- Every listed address is above `lo`, they strictly rise, and no listed byte reads as an unlisted one. -/
def Memory.risesFrom : Nat → Memory → Bool
  | _, [] => true
  | lo, (k, v) :: m => decide (lo ≤ k) && v != unlistedByte && Memory.risesFrom (k + 1) m

/-- The canonical form of memory. -/
def Memory.wf (m : Memory) : Bool := Memory.risesFrom 0 m

/-- The `n` bytes from `a` on. -/
def Memory.bytes (m : Memory) (a : Nat) : Nat → List Byte
  | 0 => []
  | n + 1 => m.get a :: Memory.bytes m (a + 1) n

/-- Writes a list of bytes from `a` on. -/
def Memory.put (m : Memory) (a : Nat) : List Byte → Memory
  | [] => m
  | b :: bs => Memory.put (m.set a b) (a + 1) bs

/-- The number that bytes make, the first the least significant (R4). -/
def natOfBytes : List Byte → Nat
  | [] => 0
  | b :: bs => b.toNat + 256 * natOfBytes bs

/-- The `n` low bytes of a number, the least significant first (R4). -/
def bytesOf : Nat → Nat → List Byte
  | 0, _ => []
  | n + 1, v => BitVec.ofNat 8 v :: bytesOf n (v / 256)

/-- The little-endian number in the `n` bytes from `a` on. -/
def Memory.nat (m : Memory) (a n : Nat) : Nat := natOfBytes (m.bytes a n)

/-- The logged byte at an address, if one is. -/
def ByteMap.find : ByteMap → Nat → Option Byte
  | [], _ => none
  | (k, v) :: m, a => if k = a then some v else if a < k then none else ByteMap.find m a

/-- Logs one byte. -/
def ByteMap.set : ByteMap → Nat → Byte → ByteMap
  | [], a, v => [(a, v)]
  | (k, w) :: m, a, v =>
    if k = a then (a, v) :: m else if a < k then (a, v) :: (k, w) :: m else (k, w) :: ByteMap.set m a v

/-- Logs a list of bytes from `a` on. -/
def ByteMap.put (m : ByteMap) (a : Nat) : List Byte → ByteMap
  | [] => m
  | b :: bs => ByteMap.put (m.set a b) (a + 1) bs

/-- The lines of 64 bytes that a rising list of addresses touches, each once. -/
def linesOf : List Nat → List Nat
  | [] => []
  | a :: as =>
    match linesOf as with
    | [] => [a / 64]
    | l :: ls => if a / 64 = l then l :: ls else a / 64 :: l :: ls

/-- Applies every byte of a map to memory. -/
def Memory.apply (m : Memory) : ByteMap → Memory
  | [] => m
  | (k, v) :: b => Memory.apply (m.set k v) b

/-- Inserts into a rising list without repeats. -/
def insertNat : Nat → List Nat → List Nat
  | a, [] => [a]
  | a, x :: xs => if a = x then x :: xs else if a < x then a :: x :: xs else x :: insertNat a xs

/-- Union of a list into a rising list without repeats. -/
def insertAll : List Nat → List Nat → List Nat
  | [], xs => xs
  | a :: as, xs => insertAll as (insertNat a xs)

/-- The first value under a key. -/
def assoc {α β : Type} [DecidableEq α] (k : α) : List (α × β) → Option β
  | [] => none
  | (a, b) :: l => if a = k then some b else assoc k l

/-- Replaces the value under a key, or adds it at the end. -/
def assocSet {α β : Type} [DecidableEq α] (k : α) (v : β) : List (α × β) → List (α × β)
  | [] => [(k, v)]
  | (a, b) :: l => if a = k then (k, v) :: l else (a, b) :: assocSet k v l

/-- `BitVec` of a natural number's bits from `lo` on. -/
def bitsAt (v lo w : Nat) : BitVec w := BitVec.ofNat w (v / 2 ^ lo)

/-- A field of a word, zero-extended to a number (R4). -/
def fieldOf {n : Nat} (x : BitVec n) (lo w : Nat) : Nat := x.toNat / 2 ^ lo % 2 ^ w

/-- Sign extension of an immediate to 64 bits (R39). -/
def sext {n : Nat} (x : BitVec n) : Word := x.signExtend 64

/-- Zero extension to 64 bits. -/
def zext {n : Nat} (x : BitVec n) : Word := x.setWidth 64

/-- A word of a number, modulo 2^64. -/
def word (n : Nat) : Word := BitVec.ofNat 64 n

/-- A word of an integer, modulo 2^64. -/
def wordOfInt (n : Int) : Word := BitVec.ofInt 64 n

end Sys2Proof.Machine
end

