-- ==== Sys2Proof/Machine/Float.lean ====
section
/-!
DEFINITION. Machine/Float.lean: number formats and arithmetic (spec/01): exact values, one rounding with its flags, the
counter generator, and decoding of every element format.
-/

namespace Sys2Proof.Machine

/-- The value of an element or operand: a NaN (signalling or quiet), an infinity, or ±m·2^e exactly (R12, R13). -/
inductive FVal where
  | nan (sig : Bool)
  | inf (neg : Bool)
  | fin (neg : Bool) (m : Nat) (e : Int)
  deriving DecidableEq, Repr

/-- A floating-point format: width, fraction bits, bias, and whether it is E4M3, which has no infinity (R12). -/
structure Fmt where
  w : Nat
  fb : Nat
  bias : Nat
  e4m3 : Bool
  deriving DecidableEq, Repr

def fp64 : Fmt := ⟨64, 52, 1023, false⟩
def fp32 : Fmt := ⟨32, 23, 127, false⟩
def fp16 : Fmt := ⟨16, 10, 15, false⟩
def bf16 : Fmt := ⟨16, 7, 127, false⟩
def e4m3 : Fmt := ⟨8, 3, 7, true⟩
def e5m2 : Fmt := ⟨8, 2, 15, false⟩

/-- Bits of the exponent field. -/
def Fmt.eb (f : Fmt) : Nat := f.w - 1 - f.fb
/-- Exponent of the smallest normal value (R12). -/
def Fmt.emin (f : Fmt) : Int := 1 - f.bias
/-- The canonical NaN (R12). -/
def Fmt.nan (f : Fmt) : Nat :=
  if f.e4m3 then 0x7F else (2 ^ f.eb - 1) * 2 ^ f.fb + 2 ^ (f.fb - 1)
/-- The encoding of the sign. -/
def Fmt.sign (f : Fmt) (neg : Bool) : Nat := if neg then 2 ^ (f.w - 1) else 0
/-- The encoding of an infinity. -/
def Fmt.inf (f : Fmt) (neg : Bool) : Nat := f.sign neg + (2 ^ f.eb - 1) * 2 ^ f.fb
/-- The encoding of the largest finite value (R12). -/
def Fmt.largest (f : Fmt) (neg : Bool) : Nat :=
  f.sign neg + (if f.e4m3 then 0x7E else (2 ^ f.eb - 2) * 2 ^ f.fb + (2 ^ f.fb - 1))
/-- The largest finite magnitude as significand and exponent (R12). -/
def Fmt.maxSig (f : Fmt) : Nat := if f.e4m3 then 14 else 2 ^ (f.fb + 1) - 1
def Fmt.maxExp (f : Fmt) : Int := (if f.e4m3 then 15 else (2 ^ f.eb - 2 : Nat) : Nat) - (f.bias : Int) - f.fb

/-- Decodes an encoding (R12, R13). -/
def decodeF (f : Fmt) (x : Nat) : FVal :=
  let neg := x / 2 ^ (f.w - 1) % 2 == 1
  let ex := x / 2 ^ f.fb % 2 ^ f.eb
  let fr := x % 2 ^ f.fb
  if f.e4m3 && ex == 15 && fr == 7 then .nan false
  else if !f.e4m3 && ex == 2 ^ f.eb - 1 then
    if fr == 0 then .inf neg else .nan (fr / 2 ^ (f.fb - 1) == 0)
  else if ex == 0 then .fin neg fr (f.emin - f.fb)
  else .fin neg (2 ^ f.fb + fr) ((ex : Int) - f.bias - f.fb)

/-- The flags of FFLAGS (R21). -/
abbrev Flags := BitVec 9
def flNV : Flags := 0x001
def flDZ : Flags := 0x002
def flOF : Flags := 0x004
def flUF : Flags := 0x008
def flNX : Flags := 0x010
def flNF : Flags := 0x020
def flFNTRUNC : Flags := 0x040
def flDOMX : Flags := 0x080
def flOOR : Flags := 0x100

/-- A flag if a condition holds. -/
def flagIf (b : Bool) (f : Flags) : Flags := if b then f else 0

/-- A rounding mode; stochastic rounding carries the 32 random bits of the element (R14, R18). -/
inductive RMode where
  | rne | rz | rdn | rup
  | rs (u : Nat)
  deriving DecidableEq, Repr

/-- Whether a magnitude rounds away from zero, given the kept integer, the remainder and its modulus (R14, R18). -/
def roundsUp (mode : RMode) (neg : Bool) (q r modulus : Nat) : Bool :=
  match mode with
  | .rne => decide (modulus < 2 * r) || (2 * r == modulus && q % 2 == 1)
  | .rz => false
  | .rdn => neg && r != 0
  | .rup => !neg && r != 0
  | .rs u => decide (u < r * 2 ^ 32 / modulus)

/-- m·2^e as an integer multiple of 2^q, rounded, and whether it was inexact. -/
def roundAt (mode : RMode) (neg : Bool) (m : Nat) (e q : Int) : Nat × Bool :=
  let k := q - e
  if k ≤ 0 then (m * 2 ^ (-k).toNat, false)
  else
    let n := 2 ^ k.toNat
    (m / n + (if m % n != 0 && roundsUp mode neg (m / n) (m % n) n then 1 else 0), m % n != 0)

/-- a·2^i < b·2^j for natural significands. -/
def ltScaled (a : Nat) (i : Int) (b : Nat) (j : Int) : Bool :=
  let l := min i j
  decide (a * 2 ^ (i - l).toNat < b * 2 ^ (j - l).toNat)

/-- Packs n·2^q, already a value of the format, into its encoding. -/
def packF (f : Fmt) (neg : Bool) (n : Nat) (q : Int) : Nat :=
  let (n, q) := if 2 ^ (f.fb + 1) ≤ n then (n / 2, q + 1) else (n, q)
  f.sign neg + (if n < 2 ^ f.fb then n else (q + f.fb + f.bias).toNat * 2 ^ f.fb + (n - 2 ^ f.fb))

/-- The result of an overflow (R15). -/
def overflowF (f : Fmt) (mode : RMode) (sat neg : Bool) : Nat :=
  if sat then f.largest neg
  else
    let up := match mode with
      | .rne | .rs _ => true
      | .rz => false
      | .rdn => neg
      | .rup => !neg
    if f.e4m3 then (match mode with
      | .rne | .rs _ => 0x7F
      | _ => f.largest neg)
    else if up then f.inf neg else f.largest neg

/-- Rounds an exact value to a format (R13 to R16, R18): the encoding and the flags. -/
def roundF (f : Fmt) (mode : RMode) (sat : Bool) : FVal → Nat × Flags
  | .nan sig => (f.nan, flagIf sig flNV)
  | .inf neg =>
    if f.e4m3 then (if sat then f.largest neg else 0x7F, flNV)
    else if sat then (f.largest neg, flNV) else (f.inf neg, 0)
  | .fin neg m e =>
    if m = 0 then (f.sign neg, 0)
    else
      let qu := e + (Nat.log2 m : Int) - f.fb
      let q := max qu (f.emin - f.fb)
      let nu := (roundAt mode neg m e qu).1
      let r := roundAt mode neg m e q
      if ltScaled f.maxSig f.maxExp nu qu then (overflowF f mode sat neg, flOF ||| flNX)
      else
        let tiny := ltScaled nu qu 1 f.emin
        (packF f neg r.1 q, flagIf r.2 flNX ||| flagIf (r.2 && tiny) flUF)

/-- Whether a value is a NaN. -/
def FVal.isNan : FVal → Bool
  | .nan _ => true
  | _ => false

/-- Whether a value is a signalling NaN. -/
def FVal.isSig : FVal → Bool
  | .nan s => s
  | _ => false

/-- Whether a value is zero. -/
def FVal.isZero : FVal → Bool
  | .fin _ m _ => m == 0
  | _ => false

/-- The sign of a value that is not a NaN. -/
def FVal.neg? : FVal → Bool
  | .nan _ => false
  | .inf n => n
  | .fin n _ _ => n

/-- The value with its sign exchanged. -/
def FVal.negate : FVal → FVal
  | .nan s => .nan s
  | .inf n => .inf (!n)
  | .fin n m e => .fin (!n) m e

/-- The magnitude. -/
def FVal.abs : FVal → FVal
  | .nan s => .nan s
  | .inf _ => .inf false
  | .fin _ m e => .fin false m e

/-- NV for any signalling NaN among two operands (R13). -/
def nanFlags (a b : FVal) : Flags := flagIf (a.isSig || b.isSig) flNV

/-- A signed significand. -/
def signed (neg : Bool) (m : Nat) : Int := if neg then -(m : Int) else m

/-- Exact addition (R134); an exact zero sum of opposite signs is −0 under RDN (R14). -/
def addV (mode : RMode) (a b : FVal) : FVal × Flags :=
  match a, b with
  | .nan _, _ => (.nan false, nanFlags a b)
  | _, .nan _ => (.nan false, nanFlags a b)
  | .inf x, .inf y => if x == y then (.inf x, 0) else (.nan false, flNV)
  | .inf x, _ => (.inf x, 0)
  | _, .inf y => (.inf y, 0)
  | .fin x m e, .fin y n k =>
    let l := min e k
    let t := signed x (m * 2 ^ (e - l).toNat) + signed y (n * 2 ^ (k - l).toNat)
    if t = 0 then (.fin (if x == y then x else mode == .rdn) 0 l, 0)
    else (.fin (decide (t < 0)) t.natAbs l, 0)

/-- Exact multiplication (R134). -/
def mulV (a b : FVal) : FVal × Flags :=
  match a, b with
  | .nan _, _ => (.nan false, nanFlags a b)
  | _, .nan _ => (.nan false, nanFlags a b)
  | .inf x, .inf y => (.inf (x != y), 0)
  | .inf x, .fin y m _ => if m = 0 then (.nan false, flNV) else (.inf (x != y), 0)
  | .fin x m _, .inf y => if m = 0 then (.nan false, flNV) else (.inf (x != y), 0)
  | .fin x m e, .fin y n k => (.fin (x != y) (m * n) (e + k), 0)

/-- Exact a·b + c (R134): 0·∞ raises NV even when c is a quiet NaN. -/
def fmaV (mode : RMode) (a b c : FVal) : FVal × Flags :=
  let p := mulV a b
  let s := addV mode p.1 c
  (s.1, p.2 ||| s.2)

/-- A quotient of natural numbers as a significand with a sticky last bit, at least 128 bits of it exact. -/
def divSticky (m n : Nat) (e : Int) : Nat × Int :=
  let s := 192 + Nat.log2 n
  let q := m * 2 ^ s / n
  (2 * q + (if m * 2 ^ s % n = 0 then 0 else 1), e - s - 1)

/-- The quotient, exact or with a sticky last bit below every bit a rounding reads (R134). -/
def divV (a b : FVal) : FVal × Flags :=
  match a, b with
  | .nan _, _ => (.nan false, nanFlags a b)
  | _, .nan _ => (.nan false, nanFlags a b)
  | .inf _, .inf _ => (.nan false, flNV)
  | .inf x, .fin y _ _ => (.inf (x != y), 0)
  | .fin x _ _, .inf y => (.fin (x != y) 0 0, 0)
  | .fin x m e, .fin y n k =>
    if n = 0 then (if m = 0 then (.nan false, flNV) else (.inf (x != y), flDZ))
    else if m = 0 then (.fin (x != y) 0 0, 0)
    else
      let r := divSticky m n (e - k)
      (.fin (x != y) r.1 r.2, 0)

/-- The integer square root below 2^n, bit by bit from the top: the largest r with r·r ≤ x. -/
def isqrtFrom (x : Nat) : Nat → Nat → Nat
  | 0, r => r
  | i + 1, r => isqrtFrom x i (if (r + 2 ^ i) * (r + 2 ^ i) ≤ x then r + 2 ^ i else r)

/-- The integer square root. -/
def isqrt (x : Nat) : Nat := isqrtFrom x (Nat.log2 x / 2 + 1) 0

/-- The square root of m·2^e with a sticky last bit (R134). -/
def sqrtSticky (m : Nat) (e : Int) : Nat × Int :=
  let s : Nat := 320 + (if (e % 2) = 0 then 0 else 1)
  let x := m * 2 ^ s
  let r := isqrt x
  (2 * r + (if r * r = x then 0 else 1), (e - s) / 2 - 1)

/-- The square root (R134). -/
def sqrtV (a : FVal) : FVal × Flags :=
  match a with
  | .nan s => (.nan false, flagIf s flNV)
  | .inf n => if n then (.nan false, flNV) else (.inf false, 0)
  | .fin n m e =>
    if m = 0 then (.fin n 0 e, 0)
    else if n then (.nan false, flNV)
    else
      let r := sqrtSticky m e
      (.fin false r.1 r.2, 0)

/-- 1/√a with a sticky last bit (R173). -/
def rsqrtV (a : FVal) : FVal × Flags :=
  match a with
  | .nan s => (.nan false, flagIf s flNV)
  | .inf n => if n then (.nan false, flNV) else (.fin false 0 0, 0)
  | .fin n m e =>
    if m = 0 then (.inf n, flDZ)
    else if n then (.nan false, flNV)
    else
      -- 1/√(m·2^e) = √(2^N / m)·2^((−N−e)/2) with N + e even
      let N : Nat := 2 * Nat.log2 m + 384 + (if (e % 2) = 0 then 0 else 1)
      let r := isqrt (2 ^ N / m)
      (.fin false (2 * r + (if r * r * m = 2 ^ N then 0 else 1)) ((-(N : Int) - e) / 2 - 1), 0)

/-- Exact comparison of values that are not NaNs: a < b. -/
def ltV (a b : FVal) : Bool :=
  match a, b with
  | .nan _, _ => false
  | _, .nan _ => false
  | .inf x, .inf y => x && !y
  | .inf x, _ => x
  | _, .inf y => !y
  | .fin x m e, .fin y n k =>
    let l := min e k
    decide (signed x (m * 2 ^ (e - l).toNat) < signed y (n * 2 ^ (k - l).toNat))

/-- Numeric equality, −0 equal to +0; false for NaNs. -/
def eqV (a b : FVal) : Bool := !a.isNan && !b.isNan && !ltV a b && !ltV b a

/-- a ≤ b; false for NaNs. -/
def leV (a b : FVal) : Bool := !a.isNan && !b.isNan && !ltV b a

/-- The smaller operand by R135; −0 counts as smaller than +0. -/
def minV (a b : FVal) : FVal :=
  match a, b with
  | .nan _, .nan _ => .nan false
  | .nan _, _ => b
  | _, .nan _ => a
  | _, _ => if ltV a b then a else if ltV b a then b else if a.neg? then a else b

/-- The larger operand by R135. -/
def maxV (a b : FVal) : FVal :=
  match a, b with
  | .nan _, .nan _ => .nan false
  | .nan _, _ => b
  | _, .nan _ => a
  | _, _ => if ltV a b then b else if ltV b a then a else if a.neg? then b else a

/-- Multiplies by a power of two (R173, vscale). -/
def scaleV (a : FVal) (k : Int) : FVal :=
  match a with
  | .fin n m e => .fin n m (e + k)
  | v => v

/-- The exact value of an integer. -/
def ofIntV (n : Int) : FVal := .fin (decide (n < 0)) n.natAbs 0

/-- Rounds a value to an integer and saturates into lo..hi (R31): the integer and the flags. -/
def toIntV (mode : RMode) (lo hi : Int) : FVal → Int × Flags
  | .nan _ => (0, flNV)
  | .inf n => (if n then lo else hi, flNV)
  | .fin n m e =>
    let r := roundAt mode n m e 0
    let v := signed n r.1
    if v < lo then (lo, flNV) else if hi < v then (hi, flNV) else (v, flagIf r.2 flNX)

/-- The class mask of an encoding in a format (R137). -/
def classOf (f : Fmt) (v : FVal) : Nat :=
  match v with
  | .nan s => if s then 256 else 512
  | .inf n => if n then 1 else 128
  | .fin n m e =>
    if m = 0 then (if n then 8 else 16)
    else if ltScaled m e 1 f.emin then (if n then 4 else 32)
    else (if n then 2 else 64)

/-- The rounding mode a value of FRM.MODE names; RS without a tensor acts as RNE (R14, R18, R20). -/
def modeOfFrm (m : BitVec 3) : RMode :=
  if m == 1 then .rz else if m == 2 then .rdn else if m == 3 then .rup else .rne

/-- The mixing step of the counter generator (R19). -/
def mix (v : Word) : Word :=
  let v := v ^^^ (v >>> 32)
  let v := v * 0xD6E8FEB86659FD93
  let v := v ^^^ (v >>> 32)
  let v := v * 0xD6E8FEB86659FD93
  v ^^^ (v >>> 32)

/-- The counter generator (R19). -/
def counterBits (seed : Word) (tid : BitVec 32) (coord : Nat) : Word :=
  mix (mix (seed ^^^ zext tid) ^^^ word coord)

/-- The 32 bits that stochastic rounding draws for an element (R18). -/
def drawU (seed : Word) (tid : BitVec 32) (coord : Nat) : Nat := (counterBits seed tid coord).toNat / 2 ^ 32

/-- An E2M1 element (R24). -/
def e2m1Val (x : Nat) : FVal :=
  let neg := x / 8 % 2 == 1
  let e : Nat := x / 2 % 4
  let m : Nat := x % 2
  if e = 0 then .fin neg m (-1) else .fin neg (2 + m) ((e : Int) - 2)

/-- An E3M5 block scale (R25); 0xFF marks a NaN block. -/
def e3m5Val (x : Nat) : FVal :=
  let e : Nat := x / 32 % 8
  let m : Nat := x % 32
  if x % 256 = 255 then .nan false
  else if e = 0 then .fin false m (-7)
  else .fin false (32 + m) ((e : Int) - 8)

/-- The value of an E2M1 element with its block scale and band scale (R27): exact. A NaN block raises no flag; a NaN that an
invalid product or a signalling band scale makes raises NV where it is used, as a signalling one does (R13). Log entry
123 (DESIGN CHOICE). -/
def e2m1Element (x scale : Nat) (band : FVal) : FVal :=
  if scale % 256 = 255 then .nan false
  else
    let r := mulV (mulV (e2m1Val x) (e3m5Val scale)).1 band
    if r.1.isNan then .nan (r.2 != 0) else r.1

/-- Element i of a BFP24 block (R30). -/
def bfp24Element (block : Nat) (i : Nat) : FVal :=
  let e : Nat := block / 2 ^ 384 % 256
  let m : Nat := block / 2 ^ (24 * i) % 2 ^ 24
  if e = 0 then .fin false 0 0
  else if e = 255 then .nan false
  else
    let v : Int := if m < 2 ^ 23 then m else (m : Int) - 2 ^ 24
    .fin (decide (v < 0)) v.natAbs ((e : Int) - 150)

end Sys2Proof.Machine
end

