-- ==== Sys2Proof/Machine/Regs.lean ====
section
/-!
DEFINITION. Machine/Regs.lean: the one home of every register: reading and writing scalar, handle, function and window
registers, flags, numbers of cores, and the home addresses of the core's own spaces (spec/00 R6, R10; spec/05 R117).
-/

namespace Sys2Proof.Machine

/-- The running context. -/
def State.ctx (s : State) : Ctx := s.run.ctx
/-- Replaces the running context. -/
def State.withCtx (s : State) (c : Ctx) : State := { s with run := { s.run with ctx := c } }

/-- S[r]; S[0] yields zero (R10). -/
def State.rd (s : State) (r : Reg) : Word := if r = 0 then 0 else s.run.ctx.s[r.toFin]
/-- S[r] := v; a write to S[0] has no effect (R10). -/
def State.wr (s : State) (r : Reg) (v : Word) : State :=
  if r = 0 then s else s.withCtx { s.run.ctx with s := s.run.ctx.s.set r.toFin v }

/-- H[r]; a handle field holds 0 to 31 once decoded (R42). -/
def State.rdH (s : State) (r : Reg) : BitVec 256 := s.run.ctx.h[(r.setWidth 5).toFin]
/-- H[r] := v. -/
def State.wrH (s : State) (r : Reg) (v : BitVec 256) : State :=
  s.withCtx { s.run.ctx with h := s.run.ctx.h.set (r.setWidth 5).toFin v }

/-- The header of function register r (R186). -/
def State.rdF (s : State) (r : Reg) : FHdr := s.run.ctx.f[(r.setWidth 4).toFin]
/-- Replaces the header of function register r. -/
def State.wrF (s : State) (r : Reg) (v : FHdr) : State :=
  s.withCtx { s.run.ctx with f := s.run.ctx.f.set (r.setWidth 4).toFin v }

/-- The slot window r is bound to (R89). -/
def State.rdW (s : State) (r : Reg) : Option (BitVec 5) := s.run.ctx.w[(r.setWidth 4).toFin]
/-- Binds or unbinds window r. -/
def State.wrW (s : State) (r : Reg) (v : Option (BitVec 5)) : State :=
  s.withCtx { s.run.ctx with w := s.run.ctx.w.set (r.setWidth 4).toFin v }

/-- Stream register r (R284). -/
def State.rdQ (s : State) (r : BitVec 3) : QReg := s.run.ctx.q[r.toFin]
/-- Replaces stream register r. -/
def State.wrQ (s : State) (r : BitVec 3) (v : QReg) : State :=
  s.withCtx { s.run.ctx with q := s.run.ctx.q.set r.toFin v }

/-- Sets sticky flags in FFLAGS (R21). -/
def State.raise (s : State) (f : Flags) : State :=
  s.withCtx { s.run.ctx with fflags := s.run.ctx.fflags ||| f }

/-- Slot i of the network interface (R82). -/
def State.slot (s : State) (i : BitVec 5) : Slot := s.net.slots[i.toFin]
/-- Replaces slot i. -/
def State.setSlot (s : State) (i : BitVec 5) (v : Slot) : State :=
  { s with net := { s.net with slots := s.net.slots.set i.toFin v } }

/-- Engine channel c (R351). -/
def State.chan (s : State) (c : BitVec 3) : Chan := s.core.chans[c.toFin]
/-- Replaces engine channel c. -/
def State.setChan (s : State) (c : BitVec 3) (v : Chan) : State :=
  { s with core := { s.core with chans := s.core.chans.set c.toFin v } }

/-- The matrix state of the running activation. -/
def State.mx (s : State) : Mx := s.run.mx
/-- Replaces the matrix state. -/
def State.withMx (s : State) (m : Mx) : State := { s with run := { s.run with mx := m } }

/-- LCORE (R6, R119). -/
def State.lcore (s : State) : CoreNum := BitVec.ofNat 34 s.pkg.me
/-- NCORES (R391). Log entry 3 (DESIGN CHOICE). -/
def State.ncores (s : State) : Nat := s.pkg.cores.length
/-- The physical number of a logical core, if the partition has it (R392). Log entry 3 (DESIGN CHOICE). -/
def State.physOf (s : State) (l : Nat) : Option CoreNum := s.pkg.cores[l]?
/-- The physical number of the observed core. -/
def State.phys (s : State) : CoreNum := (s.pkg.cores[s.pkg.me]?).getD 0
/-- The die of a physical core: package and die together (R6). -/
def dieOf (c : CoreNum) : Nat := c.toNat / 2 ^ 10
/-- The cluster of a physical core, with its die and package (R6). -/
def clusterOf (c : CoreNum) : Nat := c.toNat / 2 ^ 4

/-- Home address of a byte of a physical core's scratchpad. Log entries 1 (DESIGN CHOICE), 138 (DESIGN CHOICE). -/
def spHomeOf (c : CoreNum) (a : Nat) : Nat := Config.spHome + c.toNat * Config.spSize + a
/-- Home address of a byte of the cluster sync scratch of a physical core's cluster. Log entry 1 (DESIGN CHOICE). -/
def csHomeOf (c : CoreNum) (a : Nat) : Nat := Config.csHome + clusterOf c * Config.csSize + a
/-- Home address of a byte of the caldera of a physical core's die (R308, R311). Log entry 1 (DESIGN CHOICE). -/
def calHomeOf (c : CoreNum) (o : Nat) : Nat :=
  (dieOf c / 4) * 2 ^ 42 + Config.calBase + (dieOf c % 4) * 2 ^ 30 + o

/-- Home address of a byte of the core's own scratchpad. Log entry 1 (DESIGN CHOICE). -/
def State.spA (s : State) (a : Nat) : Nat := spHomeOf s.phys a
/-- Home address of a byte of the core's cluster sync scratch. -/
def State.csA (s : State) (a : Nat) : Nat := csHomeOf s.phys a

/-- The enabled cores of the observed core's cluster, in ascending physical index (R280). -/
def State.ring (s : State) : List CoreNum := s.pkg.cores.filter (fun c => clusterOf c == clusterOf s.phys)

/-- The element after the first that satisfies a test, wrapping to `first`. -/
def nextAfter (p : CoreNum → Bool) (first : CoreNum) : List CoreNum → CoreNum
  | [] => first
  | [c] => if p c then first else first
  | c :: d :: l => if p c then d else nextAfter p first (d :: l)

/-- The ring neighbour next (true) or prev (false) of the observed core (R280). -/
def State.neighbour (s : State) (next : Bool) : CoreNum :=
  let l := if next then s.ring else s.ring.reverse
  nextAfter (fun c => c == s.phys) (l.headD s.phys) l

/-- Whether the partition runs in deterministic mode (R393). -/
def State.det (s : State) : Bool := s.pkg.det

/-- Whether the activation is ordered (R100). -/
def State.ordered (s : State) : Bool :=
  match s.run.act with
  | some a => a.ts != 0
  | none => false

/-- Whether the activation is speculative (R101). -/
def State.speculative (s : State) : Bool :=
  match s.run.act with
  | some a => a.ts != 0 && a.speculative
  | none => false

/-- Appends a report to the firmware. Log entry 110 (DEDUCED). -/
def State.report (s : State) (r : Report) : State := { s with pkg := { s.pkg with reports := s.pkg.reports ++ [r] } }

/-- A new value of the free-value counter. Log entry 4 (DESIGN CHOICE). -/
def State.tick (s : State) : State := { s with fresh := s.fresh + 1 }

end Sys2Proof.Machine
end

