-- ==== Sys2Proof/Machine/Trace.lean ====
section
/-!
DEFINITION. Machine/Trace.lean: trace records, counters with their samples, the passing of die cycles, and the replay log
(spec/23 R457 to R461, R467, R468).
-/

namespace Sys2Proof.Machine

/-- The kinds of record (R457). -/
def kSTART : Nat := 1
def kRETIRE : Nat := 2
def kABORT : Nat := 3
def kMARK : Nat := 4
def kSTOP : Nat := 5
def kBREAK : Nat := 6
def kNOREPLAY : Nat := 7
def kGEYSER : Nat := 8
def kSAMPLE : Nat := 9

/-- The header of a record that names the running activation, or none (R457). -/
def State.recordHeader (s : State) (kind serial : Nat) : BitVec 256 :=
  let a := s.run.act
  let entry := (a.map (·.entry.toNat)).getD 0
  let arg := (a.map (·.arg.toNat)).getD 0 % 2 ^ 32
  let seg := (a.map (·.seg.toNat)).getD 0
  let tag := (a.map (·.tag.toNat)).getD 0
  BitVec.ofNat 256 (entry * 2 ^ 192 + arg * 2 ^ 160 + seg * 2 ^ 152 + tag * 2 ^ 136 + kind * 2 ^ 128 +
    serial % 2 ^ 64 * 2 ^ 64 + s.lcore.toNat * 2 ^ 30 + s.dbg.lost.toNat * 2 ^ 16)

/-- Appends a record if its kind is enabled; a full buffer drops it and counts it (R457). -/
def State.trace (s : State) (kind serial : Nat) (body : List Byte) : State :=
  if s.dbg.enables.getLsbD kind then
    if s.dbg.trace.length < s.dbg.traceCap then
      { s with dbg := { s.dbg with trace := s.dbg.trace ++ [⟨s.recordHeader kind serial, body⟩], lost := 0 } }
    else { s with dbg := { s.dbg with lost := if s.dbg.lost = 16383 then 16383 else s.dbg.lost + 1 } }
  else s

/-- A record that names the running activation (R457). -/
def State.traceAct (s : State) (kind : Nat) (body : List Byte) : State := s.trace kind s.core.serial body

/-- Two 64-bit values as a 16-byte body (R458). -/
def body2 (a b : Nat) : List Byte := bytesOf 8 a ++ bytesOf 8 b

/-- The sample period of a selector, if it makes samples (R461). -/
def samplePeriod (ev : Word) : Option Nat :=
  if fieldOf ev 7 1 = 1 then some (2 ^ (fieldOf ev 8 5 + 8)) else none

/-- Adds events to counter `i` of the active set, once the firmware has enabled counting, with a SAMPLE record when the count
crosses its period (R460, R461). Log entry 115 (DEDUCED). -/
def State.countOne (s : State) (i : BitVec 3) (e n : Nat) : State :=
  let k := s.core.pmActive.toFin
  let set := s.core.pm[k]
  let ev := set.ev[i.toFin]
  if s.core.pmOn && e != 0 && fieldOf ev 0 7 = e && n != 0 then
    let old := set.cnt[i.toFin].toNat
    let s := { s with core := { s.core with
      pm := s.core.pm.set k { set with cnt := set.cnt.set i.toFin (word (old + n)) } } }
    match samplePeriod ev with
    | none => s
    | some p =>
      if old / p = (old + n) / p then s
      else s.traceAct kSAMPLE (body2 s.run.ctx.pc.toNat (i.toNat + (old + n) % 2 ^ 48 * 2 ^ 16))
  else s

/-- Adds `n` events `e` to every counter of the active set that counts them (R460, R461). Log entry 115 (DEDUCED). -/
def State.count (s : State) (e n : Nat) : State :=
  (((((((s.countOne 0 e n).countOne 1 e n).countOne 2 e n).countOne 3 e n).countOne 4 e n).countOne 5 e n).countOne
    6 e n).countOne 7 e n

/-- Adds die cycles to the times of a counter set (R460). -/
def PmSet.pass (p : PmSet) (active : Bool) (n : Nat) : PmSet :=
  { p with enab := p.enab.map (· + word n), ran := if active then p.ran.map (· + word n) else p.ran }

/-- Die cycles pass for the counter sets while one of them is active (R460). -/
def CoreSt.passSets (c : CoreSt) (n : Nat) : CoreSt :=
  { c with pm := #v[c.pm[0].pass (c.pmActive == 0) n, c.pm[1].pass (c.pmActive == 1) n, c.pm[2].pass (c.pmActive == 2) n,
                    c.pm[3].pass (c.pmActive == 3) n] }

/-- ROTATE of PMCTL (R460). -/
def CoreSt.rotatePeriod (c : CoreSt) : Nat := (c.pmctl.extractLsb' 0 32).toNat

/-- The next event set becomes active, wrapping after the last, for ROTATE die cycles (R460). Log entry 115 (DEDUCED). -/
def CoreSt.rotate (c : CoreSt) : CoreSt :=
  { c with
    pmActive := if c.pmActive.toNat < (c.pmctl.extractLsb' 32 2).toNat then c.pmActive + 1 else 0
    pmLeft := c.rotatePeriod }

/-- Whether the sets rotate now: counting is enabled, and the active set has had its ROTATE die cycles (R460). -/
def CoreSt.rotateDue (c : CoreSt) : Bool := c.pmOn && c.rotatePeriod != 0 && c.pmLeft == 0

/-- Die cycles pass for the counters, which rotate where it is due (R460). -/
def CoreSt.passTime : Nat → CoreSt → Nat → CoreSt
  | 0, c, _ => c
  | fuel + 1, c, n =>
    let c := if c.rotateDue then c.rotate else c
    if c.rotatePeriod = 0 then c.passSets n
    else if n ≤ c.pmLeft then { c.passSets n with pmLeft := c.pmLeft - n }
    else CoreSt.passTime fuel { c.passSets c.pmLeft with pmLeft := 0 } (n - c.pmLeft)

/-- Die cycles pass: CYCLE advances, and the counter times while counting is enabled (R119, R460). -/
def State.pass (s : State) (n : Nat) : State :=
  { s with cycle := s.cycle + word n, core := if s.core.pmOn then CoreSt.passTime (n + 1) s.core n else s.core }

/-- The sources of the replay log (R467). Their codes are the model's own. Log entry 9 (DESIGN CHOICE). -/
inductive ReplaySource where
  | cycle | calcal | retired | idle | barto | cpwp | engseq | mxseq | accpk | circ | sendw | capq | hostPacket | abort
  | start | strong | barrier
  deriving DecidableEq, Repr

/-- The code of a source. Log entry 9 (DESIGN CHOICE). -/
def ReplaySource.code : ReplaySource → Nat
  | .cycle => 1
  | .calcal => 2
  | .retired => 3
  | .idle => 4
  | .barto => 5
  | .cpwp => 6
  | .engseq => 7
  | .mxseq => 8
  | .accpk => 9
  | .circ => 10
  | .sendw => 11
  | .capq => 12
  | .hostPacket => 13
  | .abort => 14
  | .start => 15
  | .strong => 16
  | .barrier => 17

/-- Whether a source is recorded: the last three only outside deterministic mode (R467). -/
def State.replays (s : State) (k : ReplaySource) : Bool :=
  s.dbg.replayCap != 0 && (match k with
    | .start => !s.det
    | .strong => !s.det
    | .barrier => !s.det
    | _ => true)

/-- An entry of the log (R467). -/
def replayEntry (k : ReplaySource) (lic v : Nat) : BitVec 128 :=
  BitVec.ofNat 128 (v % 2 ^ 64 * 2 ^ 64 + lic % 2 ^ 56 * 2 ^ 8 + k.code)

/-- Whether an instruction that needs an entry must wait for the firmware to drain a full log (R468). -/
def State.replayStalls (s : State) (k : ReplaySource) : Bool :=
  s.replays k && !s.dbg.replayMode && !s.dbg.replayOff && s.dbg.replayFull == 1 &&
    decide (s.dbg.replayCap ≤ s.dbg.replay.length)

/-- Whether an entry of the log is of a source, at this LIC (R467). -/
def State.isEntry (s : State) (k : ReplaySource) (e : BitVec 128) : Bool :=
  fieldOf e 8 56 == s.run.ctx.lic % 2 ^ 56 && fieldOf e 0 8 == k.code

/-- Records a value; a full log makes a NOREPLAY record and stops (R468). In replay mode the entry that was fed back is used
up (R467). Log entry 130 (DEDUCED). -/
def State.record (s : State) (k : ReplaySource) (v : Nat) : State :=
  if s.dbg.replayMode then { s with dbg := { s.dbg with replay := s.dbg.replay.eraseP (s.isEntry k) } }
  else if s.replays k && !s.dbg.replayOff then
    if s.dbg.replay.length < s.dbg.replayCap then
      { s with dbg := { s.dbg with replay := s.dbg.replay ++ [replayEntry k s.run.ctx.lic v] } }
    else
      let s := s.traceAct kNOREPLAY (body2 s.core.retired.toNat s.run.ctx.lic)
      { s with dbg := { s.dbg with replayOff := true } }
  else s

/-- The value a read of a source yields: what the hardware gives, or in replay mode what the log holds next for this LIC and
source (R467). Log entry 130 (DEDUCED). -/
def State.replayed (s : State) (k : ReplaySource) (v : Word) : Word :=
  if s.dbg.replayMode then
    match s.dbg.replay.find? (s.isEntry k) with
    | some e => word (fieldOf e 64 64)
    | none => v
  else v

/-- The cause of an abort that the replay log feeds back now: its next entry for this LIC is one (R467). Log entry
130 (DEDUCED). -/
def State.abortFed (s : State) : Option Nat :=
  if s.dbg.replayMode then
    match s.dbg.replay.find? (fun e => fieldOf e 8 56 == s.run.ctx.lic % 2 ^ 56) with
    | some e => if s.isEntry .abort e then some (fieldOf e 64 64) else none
    | none => none
  else none

/-- Whether the count of a waiting `idle` may end it now: in replay mode where the log says so (R148, R467). Log entry
130 (DEDUCED). -/
def State.idleMayEnd (s : State) : Bool := !s.dbg.replayMode || s.dbg.replay.any (s.isEntry .idle)

end Sys2Proof.Machine
end

