-- ==== Sys2Proof/Machine/Translate.lean ====
section
/-!
DEFINITION. Machine/Translate.lean: the two-stage walk and the TLB (spec/14 R315 to R320), access tables (R322), format
rules of a page (R11, R26, R255), capabilities (R323 to R325), and where each space lies (R45, R308).
-/

namespace Sys2Proof.Machine

/-- Cause codes (R125). -/
def cILLOP : Nat := 0x01
def cILLOPD : Nat := 0x02
def cPAGEF : Nat := 0x03
def cPAGEF2 : Nat := 0x04
def cACCF : Nat := 0x05
def cCAPF : Nat := 0x06
def cMMX : Nat := 0x07
def cFMTF : Nat := 0x08
def cDOMF : Nat := 0x09
def cFNSP : Nat := 0x0A
def cTAPEOVF : Nat := 0x0B
def cADPF : Nat := 0x0C
def cUE : Nat := 0x0D
def cMXE : Nat := 0x0E
def cBAROVR : Nat := 0x0F
def cBARTO : Nat := 0x10
def cPREEMPT : Nat := 0x11
def cBKPT : Nat := 0x12
def cTRAP : Nat := 0x13
def cORDABORT : Nat := 0x14
def cPOISON : Nat := 0x15
def cLINKF : Nat := 0x16
def cALIGN : Nat := 0x17
def cPRIV : Nat := 0x18

/-- TVAL of ILLOPD: the first word and the lowest bit of the offending field (R43). -/
def illopdVal (w : BitVec 32) (bit : Nat) : Word := word (w.toNat + bit % 256 * 2 ^ 32)

/-- ILLOPD naming a field (R43). Log entry 23 (DEDUCED). -/
def illopd (w : BitVec 32) (bit : Nat) : Exc := .trap cILLOPD (illopdVal w bit)

/-- ILLOPD for an operand held in a handle, or named outside the first word (R43, R315). Log entry 23 (DEDUCED). -/
def illopdH (w : BitVec 32) : Exc := illopd w 255

/-- Bits 63:56 of a virtual address equal bit 55 (R315). -/
def canonical (a : Word) : Bool := a.toNat < 2 ^ 55 || 2 ^ 64 - 2 ^ 55 ≤ a.toNat

/-- Bytes of an element of a format; zero for E2M1 and BFP24, whose elements are no whole bytes or lie in blocks (R11). -/
def fmtSize (f : Nat) : Nat :=
  match f with
  | 1 => 4
  | 2 => 2
  | 3 => 2
  | 4 => 1
  | 5 => 1
  | 7 => 1
  | 8 => 2
  | 9 => 4
  | 10 => 1
  | 11 => 4
  | 12 => 4
  | 13 => 8
  | _ => 0

/-- The formats a differentiable page may have (R255). -/
def adFormat (f : Nat) : Bool := f == 1 || f == 2 || f == 3 || f == 4 || f == 5 || f == 13

/-! ### Page-table entries (R316 to R318) -/

/-- A page-table entry as the sixteen bytes of memory hold it (R317). -/
structure Pte where
  v : Bool
  leaf : Bool
  r : Bool
  w : Bool
  x : Bool
  u : Bool
  ad : Bool
  g : Nat
  t : Bool
  fmt : Nat
  out : Nat
  frame : Nat
  reserved : Bool
  deriving DecidableEq, Repr

/-- Reads the fields of R317 out of a 128-bit number. -/
def Pte.of (n : Nat) : Pte where
  v := n % 2 == 1
  leaf := n / 2 % 2 == 1
  r := n / 4 % 2 == 1
  w := n / 8 % 2 == 1
  x := n / 16 % 2 == 1
  u := n / 32 % 2 == 1
  ad := n / 2 ^ 14 % 2 == 1
  g := n / 2 ^ 15 % 16
  t := n / 2 ^ 19 % 2 == 1
  fmt := n / 2 ^ 20 % 16
  out := n / 2 ^ 40 % 2 ^ 48 * 2 ^ 16
  frame := n / 2 ^ 88 * 2 ^ 16
  reserved := n / 2 ^ 24 % 2 ^ 16 != 0 || n / 2 ^ 6 % 2 ^ 8 != 0

/-- Whether the attributes of a pointer or of a stage-2 entry are zero (R317). -/
def Pte.plain (e : Pte) : Bool := e.frame == 0 && e.fmt == 0 && !e.t && e.g == 0 && !e.ad

/-- The levels of a walk: the lowest index bit, the index width and whether a leaf is allowed (R316). -/
def levels : List (Nat × Nat × Nat × Bool) := [(0, 42, 14, false), (1, 30, 12, true), (2, 21, 9, true), (3, 16, 5, true)]

/-- Whether an entry is malformed at a level (R318). A stage-1 leaf that is neither E2M1 nor differentiable has a zero
FRAME (R317). -/
def Pte.malformed (e : Pte) (stage1 : Bool) (level lo : Nat) (leafOk : Bool) : Bool :=
  e.reserved || (stage1 && 2 ^ 56 ≤ e.out) ||
  (if e.leaf then
    !leafOk || e.out % 2 ^ lo != 0 ||
    (if stage1 then e.frame != 0 && e.fmt != 6 && !e.ad else !e.plain)
  else level == 3 || !e.plain || e.u || e.x || e.w || e.r)

/-- Why a walk fails: which stage and level, the reason of R320, the intermediate address, whether it struck while a stage-1
entry was fetched, and the poisoned line of a table that it read, if that is why (R336). -/
structure WalkFault where
  stage2 : Bool
  level : Nat
  reason : Nat
  ipa : Nat
  walk : Bool
  poison : Option Nat
  deriving DecidableEq, Repr

/-- A leaf that a walk found: the entry, its level and its page size. -/
structure Leaf where
  pte : Pte
  level : Nat
  psize : Nat
  deriving DecidableEq, Repr

/-- One walk from a table on: the entry of each level is fetched by `fetch` (R316, R318). -/
def walkFrom (fetch : Nat → Except WalkFault Nat) (stage1 : Bool) (fail : Nat → Nat → WalkFault) (a : Nat) :
    List (Nat × Nat × Nat × Bool) → Nat → Except WalkFault Leaf
  | [], _ => .error (fail 3 2)
  | (level, lo, w, leafOk) :: ls, table =>
    match fetch (table + 16 * (a / 2 ^ lo % 2 ^ w)) with
    | .error f => .error f
    | .ok n =>
      let e := Pte.of n
      if !e.v then .error (fail level 0)
      else if e.malformed stage1 level lo leafOk then .error (fail level 2)
      else if e.leaf then .ok ⟨e, level, 2 ^ lo⟩
      else walkFrom fetch stage1 fail a ls e.out

/-- Whether an access to a home line reads poison. Log entry 31 (DEDUCED). -/
def State.poisoned (s : State) (line : Nat) : Bool := s.die.poison.contains line || s.die.gpoison.contains (line / 1024)

/-- The sixteen bytes of a table entry at a physical address; a poisoned line ends the walk (R336). -/
def State.tableEntry (s : State) (pa : Nat) : Except WalkFault Nat :=
  if s.poisoned (pa / 64) then .error ⟨false, 0, 0, 0, false, some (pa / 64)⟩ else .ok (s.die.mem.nat pa 16)

/-- The stage-2 walk of an intermediate address (R316). -/
def State.walk2 (s : State) (walk : Bool) (ipa : Nat) : Except WalkFault (Leaf × Nat) :=
  match walkFrom s.tableEntry false (fun l r => ⟨true, l, r, ipa, walk, none⟩) ipa levels s.core.root2.toNat with
  | .error f => .error f
  | .ok l => .ok (l, l.pte.out + ipa % l.psize)

/-- The blocks of 64 KiB that hold a granule's part of its page's frame, as intermediate offsets from FRAME (R26, R256). -/
def frameBlocks (l : Leaf) (va : Nat) : List Nat :=
  let gi := va % l.psize / 65536
  if l.pte.fmt = 6 then (if l.pte.ad then [] else [0])
  else if l.pte.ad && adFormat l.pte.fmt then
    let z := fmtSize l.pte.fmt
    let start := gi * 65536 * 4 / z
    let last := start + 65536 * 4 / z - 1
    (List.range (last / 65536 - start / 65536 + 1)).map (fun k => (start / 65536 + k) * 65536)
  else []

/-- Translates each block of a frame by stage 2, which happens during the walk (R316). -/
def State.walkFrames (s : State) (frame : Nat) : List Nat → Except WalkFault (List Nat)
  | [] => .ok []
  | b :: bs =>
    match s.walk2 false (frame + b) with
    | .error f => .error f
    | .ok (_, pa) => match State.walkFrames s frame bs with
      | .error f => .error f
      | .ok l => .ok (pa :: l)

/-! ### Access tables (R322) -/

/-- The installed kernels with the cores of their partitions: those of the present partition, and those of the partitions that
have left the core (R314, R424). -/
def State.installed (s : State) : List (Kernel × List CoreNum) :=
  s.net.kernels.map (fun k => (k, s.pkg.cores)) ++ s.pkg.switched.flatMap (fun v => v.net.kernels.map (fun k => (k, v.cores)))

/-- Whether a caldera's access table grants W to a core: a kernel of its partition has the granule in a `calw` region, and no
other installed kernel maps the granule (R314). -/
def State.calderaW (s : State) (master granule : Nat) : Bool :=
  s.installed.any (fun p => p.1.calw.contains granule && p.2.any (fun c => c.toNat == master)) &&
    decide ((s.installed.filter (fun p => p.1.caldera.contains granule)).length ≤ 1)

/-- The rights a master has at a physical address: those that some entry grants; the caldera's table gives R to every core,
W as R314 says and A to none (R311); nothing is granted to a core beyond the caldera (R308). -/
def State.accessRights (s : State) (master : Nat) (pa : Nat) : Bool × Bool × Bool :=
  let l := pa % 2 ^ 42
  let es := s.die.access.filter (fun e => decide (e.masterLo ≤ master) && decide (master ≤ e.masterHi) &&
    decide (e.addrLo ≤ pa) && decide (pa ≤ e.addrHi))
  if Config.sliceControlBase ≤ l then (false, false, false)
  else if Config.calBase ≤ l then (true, s.calderaW master (pa / 65536), false)
  else (es.any (·.r), es.any (·.w), es.any (·.a))

/-- Whether a physical address lies in a caldera (R308). -/
def isCaldera (pa : Nat) : Bool := decide (Config.calBase ≤ pa % 2 ^ 42) && decide (pa % 2 ^ 42 < Config.sliceControlBase)

/-- Whether a physical address lies in HBM (R308). -/
def isHbm (pa : Nat) : Bool := decide (pa % 2 ^ 42 < Config.calBase)

/-- A granule that no install has given a state. Log entry 5 (DESIGN CHOICE). -/
def Granule.default : Granule := ⟨.excl 0, false, 0, [], []⟩

/-- The state of the granule that holds a physical address, at its home. Log entry 5 (DESIGN CHOICE). -/
def State.granule (s : State) (pa : Nat) : Granule := (assoc (pa / 65536) s.die.grans).getD Granule.default

/-! ### The TLB (R318, R319) -/

/-- The grant that a fill fetches for a granule from its home: its capability, SHARED for a caldera's (R311, R325). -/
def State.grantOf (s : State) (pa : Nat) : Cap := if isCaldera pa then .shared else (s.granule pa).cap

/-- The entry that a walk of both stages makes for the granule of `va` (R318): the page is the smaller of the two leaves. -/
def State.walkEntry (s : State) (va : Word) : Except WalkFault TlbEntry :=
  let a := va.toNat % 2 ^ 56
  let fetch1 := fun t => match s.walk2 true t with
    | .error f => .error f
    | .ok (_, pa) => s.tableEntry pa
  match walkFrom fetch1 true (fun l r => ⟨false, l, r, 0, false, none⟩) a levels s.core.root1.toNat with
  | .error f => .error f
  | .ok l1 =>
    let ipa := l1.pte.out + a % l1.psize
    match s.walk2 false ipa with
    | .error f => .error f
    | .ok (l2, pa) =>
      match s.walkFrames l1.pte.frame (frameBlocks l1 a) with
      | .error f => .error f
      | .ok frames =>
        let (r, w, am) := s.accessRights s.phys.toNat pa
        .ok {
          part := s.pkg.part, asid := s.core.asid, va := a / 65536
          pa := pa / 65536 * 65536, ipa := ipa / 65536 * 65536
          psize := min l1.psize l2.psize, fpage := l1.psize, frame := l1.pte.frame
          r1 := l1.pte.r, w1 := l1.pte.w, x1 := l1.pte.x, u1 := l1.pte.u
          r2 := l2.pte.r, w2 := l2.pte.w, x2 := l2.pte.x, u2 := l2.pte.u
          lvl1 := BitVec.ofNat 2 l1.level, lvl2 := BitVec.ofNat 2 l2.level
          fmt := BitVec.ofNat 4 l1.pte.fmt, t := l1.pte.t, g := BitVec.ofNat 4 l1.pte.g, ad := l1.pte.ad
          frames := frames, accR := r, accW := w, accA := am, grant := s.grantOf pa }

/-- Whether an entry serves the granule of a virtual address under the core's partition and address space (R319). -/
def State.serves (s : State) (va : Word) (e : TlbEntry) : Bool :=
  e.va == va.toNat % 2 ^ 56 / 65536 && e.part == s.pkg.part && e.asid == s.core.asid

/-- The entry of a private TLB: the instruction TLB for a fetch, else the data TLB (R319), or a translation that the instruction
holds whose checks have waited for walks (R126, R160). Log entry 112 (DEDUCED). -/
def State.tlbFind (s : State) (va : Word) (kind : AccessKind) : Option TlbEntry :=
  match kind with
  | .fetch => s.core.itlb.find? (s.serves va)
  | _ => (s.core.dtlb ++ if s.core.pagesAt = s.core.retired then s.core.pages else []).find? (s.serves va)

/-- The record of a translation fault (R320). Log entries 33 (DEDUCED), 139 (DESIGN CHOICE). -/
def State.faultRec (s : State) (pc va : Word) (kind : AccessKind) (f : WalkFault) : FaultRec where
  pc := pc
  ipa := if f.stage2 then word f.ipa else 0
  va := va
  lcore := s.lcore
  access := kind
  reason := BitVec.ofNat 3 f.reason
  level := BitVec.ofNat 2 f.level
  walk := f.walk
  cause := BitVec.ofNat 6 (if f.stage2 then cPAGEF2 else cPAGEF)

/-- What a translation must permit. -/
structure Need where
  r : Bool
  w : Bool
  x : Bool
  deriving DecidableEq, Repr

/-- What a load, a store, a fetch and an atomic need of a leaf. -/
def needR : Need := ⟨true, false, false⟩
def needW : Need := ⟨false, true, false⟩
def needX : Need := ⟨false, false, true⟩
def needRW : Need := ⟨true, true, false⟩

/-- Whether rights suffice at a privilege level (R317): supervisor level may always access. -/
def Need.ok (n : Need) (priv r w x u : Bool) : Bool := (!n.r || r) && (!n.w || w) && (!n.x || x) && (priv || u)

/-- Row 3 of R126: a cached translation with the rights needed, or a walk, or a permission fault (R318, R320). Log entries
33 (DEDUCED), 113 (DEDUCED). -/
def State.translate (s : State) (va : Word) (kind : AccessKind) (need : Need) : Except Exc TlbEntry :=
  match s.tlbFind va kind with
  | none => .error (.wait (.walk va kind))
  | some e =>
    let priv := s.ctx.priv
    if !need.ok priv e.r1 e.w1 e.x1 e.u1 then
      .error (.page (s.faultRec s.ctx.pc va kind ⟨false, e.lvl1.toNat, 1, 0, false, none⟩))
    else if !need.ok priv e.r2 e.w2 e.x2 e.u2 then
      .error (.page (s.faultRec s.ctx.pc va kind ⟨true, e.lvl2.toNat, 1, e.ipa + va.toNat % 65536, false, none⟩))
    else .ok e

/-- The physical address of a virtual one through an entry. -/
def TlbEntry.physical (e : TlbEntry) (va : Word) : Nat := e.pa + va.toNat % 65536

/-- The format rules that hold for any access through a page (R11, R26, R255). Log entry 102 (DEDUCED). -/
def TlbEntry.formatOk (e : TlbEntry) : Bool :=
  e.fmt != 15 && (!e.ad || adFormat e.fmt.toNat) && (e.fmt != 6 || (e.psize == 65536 && e.g != 15))

/-! ### Capabilities (R323 to R325) -/

/-- The classes of R324. -/
inductive CapClass where
  | load | store | strong | reduce
  deriving DecidableEq, Repr

/-- Replaces the state of a granule. -/
def State.setGranule (s : State) (pa : Nat) (g : Granule) : State :=
  { s with die := { s.die with grans := assocSet (pa / 65536) g s.die.grans } }

/-- The address whose granule gives a byte its capability: a byte of a frame takes the state of the page it serves, but an
adjoint frame inside a reducing window keeps its own (R29, R256, R272, R323). -/
def State.capAddr (s : State) (pa : Nat) : Nat :=
  match assoc (pa / 32768) s.die.frames with
  | none => pa
  | some g => match (s.granule pa).cap with
    | .reduce _ => if s.die.scales.contains (pa / 32768) then g * 65536 else pa
    | _ => g * 65536

/-- The capability that the table of R324 checks: a caldera granule counts as SHARED (R311). Log entry 72 (DEDUCED). -/
def State.capAt (s : State) (pa : Nat) : Cap :=
  if isCaldera (s.capAddr pa) then .shared else (s.granule (s.capAddr pa)).cap

/-- The table of R324 for core `c`: the cause of a refusal, if it is one. -/
def capRefusal (cap : Cap) (c : CoreNum) : CapClass → Option Nat
  | .load => match cap with
    | .excl o => if o = c then none else some cMMX
    | .shared => none
    | .sync => some cCAPF
    | .reduce _ => some cCAPF
  | .store => match cap with
    | .excl o => if o = c then none else some cCAPF
    | .shared => some cCAPF
    | .sync => some cCAPF
    | .reduce _ => some cCAPF
  | .strong => match cap with
    | .sync => none
    | _ => some cCAPF
  | .reduce => match cap with
    | .reduce _ => none
    | _ => some cCAPF

/-- The state that row 6 checks for an access through an entry: a load's at its home, as it arrives; another's as the entry
holds it, but for a byte of a frame, which takes the state of the page it serves (R29, R256, R325). -/
def State.capFor (s : State) (e : TlbEntry) (pa : Nat) (cls : CapClass) : Cap :=
  if cls == .load || (assoc (pa / 32768) s.die.frames).isSome then s.capAt pa else e.grant

/-- Whether row 6 lets a store pass because a caldera's access table grants it (R311, R314): row 4 has asked the table for an
address of the caldera itself; for a byte of a frame that serves a caldera page the page is asked. -/
def State.calderaStore (s : State) (pa : Nat) : Bool :=
  isCaldera (s.capAddr pa) && (s.capAddr pa == pa || s.calderaW s.phys.toNat (s.capAddr pa / 65536))

/-- Row 6 of R126 for the core at a state. A store that a caldera's access table grants passes (R311, R314). -/
def State.capCheck (s : State) (cap : Cap) (pa : Nat) (cls : CapClass) (va : Word) : Except Exc Unit :=
  if cls == .store && s.calderaStore pa then .ok ()
  else match capRefusal cap s.lcore cls with
    | none => .ok ()
    | some c => .error (.trap c va)

/-! ### Spaces (R45) -/

/-- Row 1 of R126: address bits outside the space (R45, R315). -/
def inSpace (space : Nat) (a : Word) : Bool :=
  match space with
  | 0 => canonical a
  | 1 => a.toNat < 2 ^ 18
  | 2 => a.toNat < 2 ^ 16
  | _ => a.toNat < 2 ^ 30

/-- The swizzle of R47. -/
def swizzle (m : Nat) (a : Nat) : Nat :=
  if m = 0 then a else a ^^^ (a / 2 ^ (7 + m) % 32 * 8)

/-- The home address of a byte of space 1, 2 or 3 (R45). Log entry 1 (DESIGN CHOICE). -/
def State.homeOf (s : State) (space : Nat) (a : Nat) : Nat :=
  match space with
  | 1 => s.spA a
  | 2 => s.csA a
  | _ => calHomeOf s.phys a

/-! ### Poison (R336) -/

/-- The check after all others: POISON of the first poisoned line among those of `n` bytes at a home address (R126). Log
entry 10 (DEDUCED). -/
def State.poisonCheck (s : State) (home n : Nat) : Except Exc Unit :=
  match (List.range ((home + (n - 1)) / 64 - home / 64 + 1)).find? (fun k => s.poisoned (home / 64 + k)) with
  | some k => .error (.poison (home / 64 + k))
  | none => .ok ()

/-- Whether a store meets a granule poisoned as a whole: every access to it raises POISON (R336). Log entry 10 (DEDUCED). -/
def State.granulePoisonCheck (s : State) (home : Nat) : Except Exc Unit :=
  if s.die.gpoison.contains (home / 65536) then .error (.poison (home / 64)) else .ok ()

/-! ### Frames (R26, R256) -/

/-- The home address of byte `o` of the granule's part of its frame; `o` counts from the first byte of the page's frame. -/
def TlbEntry.frameByte (e : TlbEntry) (o : Nat) : Nat :=
  let z := fmtSize e.fmt.toNat
  let start := if e.fmt = 6 then 0 else e.va * 65536 % e.fpage * 4 / (if z = 0 then 1 else z)
  (e.frames[o / 65536 - start / 65536]?).getD 0 + o % 65536

/-- The home address of the adjoint cell of the element at `va` (R256); where the leaves of the two stages differ, P is the size
of the stage-1 leaf, which names the frame. Log entry 132 (DEDUCED). -/
def TlbEntry.cell (e : TlbEntry) (va : Word) : Nat :=
  e.frameByte (4 * (va.toNat % e.fpage / fmtSize e.fmt.toNat))

end Sys2Proof.Machine
end

