-- ==== Sys2Proof/Machine/Window.lean ====
section
/-!
DEFINITION. Machine/Window.lean: reducing windows at their home (spec/20 R436 to R440): the adds of the three formats,
rounds of an ordered window, and what closing a window applies.
-/

namespace Sys2Proof.Machine

/-- RoundFP32(a + b), RNE, without flags (R17, R270, R437). -/
def addFp32 (a b : BitVec 32) : BitVec 32 :=
  BitVec.ofNat 32 (roundF fp32 .rne false (addV .rne (decodeF fp32 a.toNat) (decodeF fp32 b.toNat)).1).1

/-- Add32 of R439 in a window format: the exact sum modulo 2^32 for S32, RoundFP32 otherwise. -/
def add32 (fmt : Nat) (a b : BitVec 32) : BitVec 32 := if fmt = 9 then a + b else addFp32 a b

/-- RoundRNE(m·2^k) as an integer. -/
def rneScaled (neg : Bool) (m : Nat) (k : Int) : Int := signed neg (roundAt .rne neg m k 0).1

/-- The integer magnitude limit of a BFP24 mantissa (R437). -/
def bfpLimit : Nat := 8388607

/-- q(e, y) of R437. -/
def bfpQ (e : Nat) (neg : Bool) (m : Nat) (x : Int) : Int := rneScaled neg m (x + 150 - e)

/-- The smallest exponent of a list that holds a value (R437). -/
def bfpExponent (neg : Bool) (m : Nat) (x : Int) : List Nat → Option Nat
  | [] => none
  | e :: es => if (bfpQ e neg m x).natAbs ≤ bfpLimit then some e else bfpExponent neg m x es

/-- The smallest growth that makes a sum fit (R437). -/
def bfpGrowth (mi : Int) (e : Nat) (neg : Bool) (m : Nat) (x : Int) : Nat → Nat → Nat
  | 0, s => s
  | fuel + 1, s =>
    if (rneScaled (decide (mi < 0)) mi.natAbs (-(s : Int)) + bfpQ (e + s) neg m x).natAbs ≤ bfpLimit then s
    else bfpGrowth mi e neg m x fuel (s + 1)

/-- Mantissa i of a block as an integer (R30). -/
def bfpMantissa (block i : Nat) : Int :=
  let m : Nat := block / 2 ^ (24 * i) % 2 ^ 24
  if m < 2 ^ 23 then m else (m : Int) - 2 ^ 24

/-- A block of an exponent and sixteen mantissas, its reserved bits zero (R30). -/
def bfpBlock (e : Nat) (ms : List Int) : Nat :=
  e * 2 ^ 384 + natOfBytes (ms.flatMap (fun m => bytesOf 3 (m % 2 ^ 24).toNat))

/-- Add of R437 on a BFP24 block: `x` is an FP32 value. -/
def bfpAdd (block i : Nat) (x : FVal) : Nat :=
  let e : Nat := block / 2 ^ 384 % 256
  let ms := (List.range 16).map (bfpMantissa block)
  let nan := bfpBlock 255 ms
  if e = 255 then block
  else match x with
    | .nan _ => nan
    | .inf _ => nan
    | .fin neg m k =>
      if e = 0 && m = 0 then block
      else
        match (if e = 0 then bfpExponent neg m k ((List.range 254).map (· + 1)) else some e) with
        | none => nan
        | some e0 =>
          let ms0 := if e = 0 then List.replicate 16 (0 : Int) else ms
          let s := bfpGrowth (ms0.getD i 0) e0 neg m k 320 0
          if 254 < e0 + s then bfpBlock 255 ms0
          else
            let ms1 := if s = 0 then ms0 else ms0.map (fun v => rneScaled (decide (v < 0)) v.natAbs (-(s : Int)))
            bfpBlock (e0 + s) (ms1.set i (ms1.getD i 0 + bfpQ (e0 + s) neg m k))

/-- Applies Add(v, x) to the element at a home address (R437). -/
def windowAdd (fmt : Nat) (m : Memory) (a : Nat) (x : BitVec 32) : Memory :=
  if fmt = 14 then
    let line := a / 64 * 64
    m.put line (bytesOf 64 (bfpAdd (m.nat line 64) (a % 64 / 3) (decodeF fp32 x.toNat)))
  else m.put a (bytesOf 4 (add32 fmt (BitVec.ofNat 32 (m.nat a 4)) x).toNat)

/-- The window record of a granule: its range, or the whole partition, and its format, FP32 unless recorded (R439). -/
def State.window (s : State) (pa : Nat) : Window :=
  match s.die.windows.find? (fun w => w.granule == pa / 65536) with
  | some w => w
  | none => ⟨pa / 65536, 1, 0, s.ncores⟩

/-- Replaces the window record of a granule. -/
def State.setWindow (s : State) (w : Window) : State :=
  { s with die := { s.die with windows := w :: s.die.windows.filter (fun v => v.granule != w.granule) } }

/-- Rounds closed of an element (R443). -/
def State.closedRounds (s : State) (a : Nat) : Nat :=
  match s.die.rounds.find? (fun r => r.addr == a) with
  | some r => r.closed
  | none => 0

/-- Records the number of closed rounds of an element. -/
def State.setClosed (s : State) (a k : Nat) : State :=
  { s with die := { s.die with rounds := ⟨a, k⟩ :: s.die.rounds.filter (fun r => r.addr != a) } }

/-- The round that the next contribution of a core to an element belongs to (R439). -/
def State.nextRound (s : State) (a core : Nat) : Nat :=
  s.closedRounds a + (s.die.contribs.filter (fun c => c.addr == a && c.core == core)).length

/-- Whether a contribution would open a third round (R439). -/
def State.thirdRound (s : State) (a core : Nat) : Bool := decide (s.closedRounds a + 2 ≤ s.nextRound a core)

/-- Whether a window is ordered (R439). -/
def State.orderedWindow (s : State) (a : Nat) : Bool :=
  match (s.granule a).cap with
  | .reduce o => o
  | _ => false

/-- Whether a core may contribute to an element: any to an unordered window, a participant to an ordered one (R441). -/
def State.participates (s : State) (a core : Nat) : Bool :=
  let w := s.window a
  !s.orderedWindow a || (decide (w.first ≤ core) && decide (core < w.first + w.n))

/-- Whether a contribution waits at its source for a round to close (R439). -/
def State.roundFull (s : State) (a core : Nat) : Bool := s.orderedWindow a && s.thirdRound a core

/-- Contributions in ascending core order, stable. -/
def insertContribution (c : Contribution) : List Contribution → List Contribution
  | [] => [c]
  | d :: ds => if c.core ≤ d.core then c :: d :: ds else d :: insertContribution c ds

/-- Sorts contributions by core. -/
def sortContributions : List Contribution → List Contribution
  | [] => []
  | c :: cs => insertContribution c (sortContributions cs)

/-- The sum R of a round in ascending participant order (R439). -/
def roundSum (fmt : Nat) : List Contribution → Option (BitVec 32)
  | [] => none
  | c :: cs => some (cs.foldl (fun r d => add32 fmt r d.val) c.val)

/-- Applies one round of an element, whatever has contributed to it, and closes it. -/
def State.applyRound (s : State) (fmt a k : Nat) : State :=
  let mine := sortContributions (s.die.contribs.filter (fun c => c.addr == a && c.round == k))
  let mem := match roundSum fmt mine with
    | none => s.die.mem
    | some r => windowAdd fmt s.die.mem a r
  let rest := s.die.contribs.filter (fun c => !(c.addr == a && c.round == k))
  State.setClosed { s with die := { s.die with mem := mem, contribs := rest } } a (k + 1)

/-- Closes the lowest open round of an element when every participant has contributed (R439). -/
def State.closeRound (s : State) (w : Window) (a : Nat) : State :=
  let k := s.closedRounds a
  let n := (s.die.contribs.filter (fun c => c.addr == a && c.round == k)).length
  if w.n ≤ n then s.applyRound w.fmt.toNat a k else s

/-- Adds one after another to an element (R437). -/
def applyAdds (fmt : Nat) (m : Memory) (a : Nat) (cs : List Contribution) : Memory :=
  cs.foldl (fun m c => windowAdd fmt m a c.val) m

/-- Merges contribution `j` of a list into contribution `i`, if there are two such (R438). Log entry 107 (DEDUCED). -/
def mergePair (fmt : Nat) (cs : List Contribution) (i j : Nat) : List Contribution :=
  match cs[i]?, cs[j]? with
  | some c, some d =>
    if i = j then cs else (cs.set i { c with val := add32 fmt c.val d.val, count := c.count + d.count }).eraseIdx j
  | _, _ => cs

/-- A contribution to an unordered window is accepted (R438): those to the element arrive in some order, some are merged,
and some of the first are applied; which is free. In deterministic mode each is applied at once, unmerged (R444). Log entry
107 (DEDUCED). -/
def State.combine (s : State) (fmt a core : Nat) (x : BitVec 32) : State :=
  let rest := s.die.contribs.filter (fun c => c.addr != a)
  let mine := s.die.contribs.filter (fun c => c.addr == a)
  let c : Contribution := ⟨a, core, 0, x, 1⟩
  let pick := Config.combining s.fresh a
  let p := pick 0 % (mine.length + 1)
  let all := if s.det then mine ++ [c]
    else (List.range (mine.length + 1)).foldl (fun l k => mergePair fmt l (pick (2 * k + 2)) (pick (2 * k + 3)))
      (mine.take p ++ c :: mine.drop p)
  let n := if s.det then all.length else pick 1
  State.tick { s with die := { s.die with mem := applyAdds fmt s.die.mem a (all.take n), contribs := rest ++ all.drop n } }

/-- A home accepts a contribution (R436 to R439): an ordered window holds it for its round. -/
def State.contribute (s : State) (a : Nat) (core : Nat) (x : BitVec 32) : State :=
  let w := s.window a
  match (s.granule a).cap with
  | .reduce true =>
    let c : Contribution := ⟨a, core, s.nextRound a core, x, 1⟩
    let s := { s with die := { s.die with contribs := s.die.contribs ++ [c] } }
    (s.closeRound w a).closeRound w a
  | _ => s.combine w.fmt.toNat a core x

/-- The elements of a granule with contributions not yet applied, each once. -/
def State.openElements (s : State) (granule : Nat) : List Nat :=
  insertAll ((s.die.contribs.filter (fun c => c.addr / 65536 == granule)).map (·.addr)) []

/-- Applies every accepted contribution of an element, in ascending round order where the window is ordered (R440). Log entry
107 (DEDUCED). -/
def State.drainElement (s : State) (fmt a : Nat) : State :=
  let k := s.closedRounds a
  if s.orderedWindow a then (s.applyRound fmt a k).applyRound fmt a (k + 1)
  else { s with die := { s.die with
    mem := applyAdds fmt s.die.mem a (s.die.contribs.filter (fun c => c.addr == a))
    contribs := s.die.contribs.filter (fun c => c.addr != a) } }

/-- Applies every accepted contribution of a granule, those that wait for a quantum's end among them (R444), and forgets its
rounds, as a transfer out of REDUCE does (R440). -/
def State.drainWindow (s : State) (pa : Nat) : State :=
  let g := pa / 65536
  let fmt := (s.window pa).fmt.toNat
  let s := (s.openElements g).foldl (fun s a => s.drainElement fmt a) s
  let adds := (s.die.deferred.filter (fun d => d.1 / 65536 == g)).map (fun d => ((d.1, d.2.1.toNat, d.2.2) : Nat × Nat × BitVec 32))
  { s with die := { s.die with
      mem := adds.foldl (fun m d => windowAdd fmt m d.1 d.2.2) s.die.mem
      deferred := s.die.deferred.filter (fun d => d.1 / 65536 != g)
      rounds := s.die.rounds.filter (fun r => r.addr / 65536 != g)
      windows := s.die.windows.filter (fun w => w.granule != g) } }

/-- What still waits at its source for a window that closes is not accepted (R440, R442). -/
def State.leaveWindow (s : State) (pa : Nat) : State :=
  { s with
    die := { s.die with reduces := s.die.reduces.filter (fun d => d.1 / 65536 != pa / 65536) }
    run := { s.run with redst := s.run.redst.map (fun r => { r with left := r.left || r.home / 65536 == pa / 65536 }) } }

end Sys2Proof.Machine
end

