-- ==== Sys2Proof/Machine/Queue.lean ====
section
/-!
DEFINITION. Machine/Queue.lean: slots, bindings and the activation queues of the network interface (spec/04 R80 to R86,
R108, R109; spec/12 R285; spec/18 R404).
-/

namespace Sys2Proof.Machine

/-- Whether a circuit or stream at the receiver will deliver more packets (R108, R348); one of the core to itself that is closing
delivers those on their way. -/
def RCirc.open (c : RCirc) : Bool := c.left != 0 || (c.stream && !c.closing)

/-- The circuit at the receiver that delivers the next packet of a key. -/
def State.rcirc (s : State) (src : CoreNum) (tag : BitVec 16) : Option RCirc :=
  s.net.rcircs.find? (fun c => c.src == src && c.tag == tag && c.open)

/-- Releases a slot: RESERVED again while the circuit that delivered its packet has transfers left, else FREE (R108). -/
def State.releaseSlot (s : State) (i : BitVec 5) : State :=
  match (s.slot i).circ with
  | some id =>
    if s.net.rcircs.any (fun c => c.id == id && c.open) then
      s.setSlot i { Slot.empty with st := .reserved, circ := some id }
    else s.setSlot i Slot.empty
  | none => s.setSlot i Slot.empty

/-- Drops one binding of a slot; the last one releases it (R85, R108). -/
def State.dropBinding (s : State) (i : BitVec 5) : State :=
  let v := s.slot i
  if v.bindings ≤ 1 then s.releaseSlot i else s.setSlot i { v with bindings := v.bindings - 1 }

/-- Lexicographic comparison of number lists. -/
def lexLt : List Nat → List Nat → Bool
  | [], [] => false
  | [], _ :: _ => true
  | _ :: _, [] => false
  | a :: as, b :: bs => decide (a < b) || (a == b && lexLt as bs)

/-- Whether an entry was returned after a fault (R86). -/
def QItem.isReturned (q : QItem) : Bool :=
  match q.kind with
  | .returned _ => true
  | _ => false

/-- Whether an entry gave way by `yield` (R86). -/
def QItem.isYield (q : QItem) : Bool :=
  match q.kind with
  | .yielded _ => true
  | _ => false

/-- The key that orders the queues (R86, R404): priority, returned entries first, arrival, packets before yields, then the
slot number, or the order of placement in deterministic mode and among yields. -/
def QItem.key (det : Bool) (q : QItem) : List Nat :=
  [q.prio.toNat, if q.isReturned then 0 else 1, q.arrival, if q.isYield then 1 else 0,
   if !q.isReturned && (det || q.isYield) then q.order else q.slot.toNat, q.slot.toNat, q.word.getD 0]

/-- The first entry of the queues in start order. -/
def firstItem (det : Bool) : List QItem → Option QItem
  | [] => none
  | q :: qs =>
    match firstItem det qs with
    | none => some q
    | some r => if lexLt (r.key det) (q.key det) then some r else some q

/-- The next activation to start (R86). -/
def State.nextItem (s : State) : Option QItem := firstItem s.det s.net.queue

/-- Adds an entry to the queues. -/
def State.enqueue (s : State) (q : QItem) : State :=
  { s with net := { s.net with queue := s.net.queue ++ [{ q with order := s.net.order }], order := s.net.order + 1 } }

/-- Adds an entry to the queues at the order it had. -/
def State.requeue (s : State) (q : QItem) : State := { s with net := { s.net with queue := s.net.queue ++ [q] } }

/-- Removes an entry from the queues. -/
def State.dequeue (s : State) (q : QItem) : State :=
  { s with net := { s.net with queue := s.net.queue.erase q } }

/-- The arrival that a placement or a yield has now: the cycle, or the quantum in deterministic mode (R404). -/
def State.arrivalNow (s : State) : Nat := if s.det then s.core.quantum else s.cycle.toNat

/-- The word index of a nz-pairs entry, and its word. -/
def pairWord (p : Packet) (i : Nat) : BitVec 32 := p.payload.getD i 0

/-- ACTARG of a packet (R88): payload bytes 7:0, or its nz-pairs word. -/
def actArg (p : Packet) (w : Option Nat) : Word :=
  match w with
  | some i => zext (pairWord p i)
  | none => word ((if 0 < p.len.toNat then (p.payload.getD 0 0).toNat else 0) +
      (if 1 < p.len.toNat then (p.payload.getD 1 0).toNat * 2 ^ 32 else 0))

/-- Queues the activations of a bound packet: one per word for nz-pairs, else one (R85, R86). -/
def State.queuePacket (s : State) (i : BitVec 5) (prio : BitVec 2) (arrival : Nat) : State :=
  let p := (s.slot i).pkt
  let s := s.setSlot i { s.slot i with order := s.net.order }
  if p.kind = 5 then
    (List.range p.len.toNat).foldl (fun s k => s.enqueue ⟨i, prio, arrival, 0, some k, .fresh⟩) s
  else s.enqueue ⟨i, prio, arrival, 0, none, .fresh⟩

/-- The stream registers in ascending number. -/
def qregs : List (BitVec 3) := [0, 1, 2, 3, 4, 5, 6, 7]

/-- The stream register bound to a tag, if one is (R285). -/
def State.streamOf (s : State) (t : BitVec 16) : Option (BitVec 3) :=
  qregs.find? (fun r => (s.rdQ r).bind == .tag t)

/-- The first queued packet that a tag binding takes: a fresh entry of KIND 0 (R285). -/
def State.streamItem (s : State) (t : BitVec 16) : Option QItem :=
  firstItem s.det (s.net.queue.filter (fun q => q.kind == .fresh && q.word == none &&
    (s.slot q.slot).pkt.tag == t && (s.slot q.slot).pkt.kind == 0))

/-- Appends a slot to the stream of a register. -/
def State.appendStream (s : State) (r : BitVec 3) (i : BitVec 5) : State :=
  { s with run := { s.run with streams := s.run.streams.set r.toFin (s.run.streams[r.toFin] ++ [i]) } }

/-- Moves the queued packets of a tag into the stream of a register, in start order; the slots number 32 (R285). -/
def State.fillStream (s : State) (r : BitVec 3) (t : BitVec 16) : Nat → State
  | 0 => s
  | n + 1 =>
    match s.streamItem t with
    | none => s
    | some q => State.fillStream ((s.dequeue q).appendStream r q.slot) r t n

/-- Lets every tag binding of the running activation take what waits (R285). Log entry 56 (DEDUCED). -/
def State.joinStreams (s : State) : State :=
  qregs.foldl (fun s r => match (s.rdQ r).bind with
    | .tag t => if s.run.act.isSome then s.fillStream r t 32 else s
    | _ => s) s

/-- Drops the first bytes of the entry at the head of a link queue. -/
def trimHead (n : Nat) : List LinkEntry → List LinkEntry
  | [] => []
  | e :: es => { e with data := e.data.drop n } :: es

/-- Ends the stream of a register: untouched packets return to their queues at their old order; a partly consumed one loses its
slot at the next checkpoint, until which an abort brings it back (R97, R285); of a link entry the released bytes are gone. -/
def State.endStream (s : State) (r : BitVec 3) : State :=
  let slots := s.run.streams[r.toFin]
  let pos := (s.rdQ r).rel
  let s := match (s.rdQ r).bind with
    | .inPrev => { s with net := { s.net with inPrev := trimHead pos s.net.inPrev } }
    | .inNext => { s with net := { s.net with inNext := trimHead pos s.net.inNext } }
    | _ => s
  let ended := match (s.rdQ r).bind with
    | .tag _ => (slots.take (if pos = 0 then 0 else 1)).map (fun i => (r, some i))
    | _ => if pos = 0 then [] else [(r, none)]
  let s := { s with run := { s.run with
    streams := s.run.streams.set r.toFin [], ended := s.run.ended ++ ended } }
  (slots.drop (if pos = 0 then 0 else 1)).foldl (fun s i =>
    let v := s.slot i
    s.requeue ⟨i, (v.bound.getD BindEntry.empty).prio, v.arrival, v.order, none, .fresh⟩) s

/-- A checkpoint releases the slots of streams that have ended (R285). -/
def State.releaseEnded (s : State) : State :=
  let s := (s.run.ended.filterMap Prod.snd).foldl (fun s i => s.releaseSlot i) s
  { s with run := { s.run with ended := [] } }

/-- An abort takes a partly consumed packet back into its stream; the bytes of a link entry that were released stay gone. -/
def State.restoreEnded (s : State) : State :=
  let back := fun (s : State) (e : BitVec 3 × Option (BitVec 5)) => match e.2 with
    | some i => { s with run := { s.run with streams := s.run.streams.set e.1.toFin (i :: s.run.streams[e.1.toFin]) } }
    | none =>
      let cut := fun (c : Ctx) => { c with q := c.q.set e.1.toFin { c.q[e.1.toFin] with pos := 0, rel := 0 } }
      { s with run := { s.run with ctx := cut s.run.ctx, snap := cut s.run.snap } }
  let s := s.run.ended.foldl back s
  { s with run := { s.run with ended := [] } }

/-- The bytes a source binding can supply from its position on, and whether a link entry among them is poisoned. -/
def linkBytes : List LinkEntry → List Byte
  | [] => []
  | e :: es => e.data ++ linkBytes es

/-- The bytes of a packet: 4·LEN of them (R83). -/
def packetBytes (p : Packet) : List Byte :=
  (List.range p.len.toNat).flatMap (fun i => bytesOf 4 (p.payload.getD i 0).toNat)

/-- The bytes of the packets of a tag stream (R285). -/
def State.streamBytes (s : State) : List (BitVec 5) → List Byte
  | [] => []
  | i :: is => packetBytes (s.slot i).pkt ++ State.streamBytes s is

/-- Drops the link entries that `n` consumed bytes cover; the bytes they take of the next one. -/
def dropConsumed : List LinkEntry → Nat → List LinkEntry × Nat
  | [], n => ([], n)
  | e :: es, n => if e.data.length ≤ n then dropConsumed es (n - e.data.length) else (e :: es, n)

/-- The link entries that hold some of `n` bytes from `pos` on. -/
def touchedEntries : List LinkEntry → Nat → Nat → List LinkEntry
  | [], _, _ => []
  | e :: es, pos, n =>
    if n = 0 then []
    else if e.data.length ≤ pos then touchedEntries es (pos - e.data.length) n
    else e :: touchedEntries es 0 (n - (e.data.length - pos))

/-- Releases the consumed bytes of one register: whole packets return their slots, whole link entries leave (R163, R285). -/
def State.releaseConsumed (s : State) (r : BitVec 3) : State :=
  let q := s.rdQ r
  match q.bind with
  | .inPrev =>
    let c := dropConsumed s.net.inPrev q.pos
    ({ s with net := { s.net with inPrev := c.1 } }).wrQ r { q with pos := c.2, rel := c.2 }
  | .inNext =>
    let c := dropConsumed s.net.inNext q.pos
    ({ s with net := { s.net with inNext := c.1 } }).wrQ r { q with pos := c.2, rel := c.2 }
  | .tag _ =>
    let res := (s.run.streams[r.toFin]).foldl (fun (acc : State × Nat × List (BitVec 5)) i =>
      let bytes := 4 * (acc.1.slot i).pkt.len.toNat
      if acc.2.2.isEmpty && bytes ≤ acc.2.1 then (acc.1.releaseSlot i, acc.2.1 - bytes, [])
      else (acc.1, acc.2.1, acc.2.2 ++ [i])) (s, q.pos, [])
    ({ res.1 with run := { res.1.run with streams := res.1.run.streams.set r.toFin res.2.2 } }).wrQ r
      { q with pos := res.2.1, rel := res.2.1 }
  | _ => s

/-- Marks every entry that an activation pushed committed (R287, R408). -/
def commitEntries (owner : Nat) (l : List LinkEntry) : List LinkEntry :=
  l.map (fun e => if e.owner = owner then { e with committed := true } else e)

/-- Withdraws every uncommitted entry that an activation pushed (R287). -/
def withdrawEntries (owner : Nat) (l : List LinkEntry) : List LinkEntry := l.filter (fun e => e.committed || e.owner != owner)

/-- Moves committed entries of an out-link to the in-link of the same core when it is its own neighbour (R280). -/
def State.selfLink (s : State) : State :=
  if s.ring.length ≤ 1 then
    let n := s.net
    let a := n.outNext.takeWhile (·.committed)
    let b := n.outPrev.takeWhile (·.committed)
    { s with net := { n with inPrev := n.inPrev ++ a, outNext := n.outNext.drop a.length
                             inNext := n.inNext ++ b, outPrev := n.outPrev.drop b.length } }
  else s

end Sys2Proof.Machine
end

