-- ==== Sys2Proof/Machine/Checkpoint.lean ====
section
/-!
DEFINITION. Machine/Checkpoint.lean: the write log, the read set, commits in one or two phases, checkpoints and aborts
(spec/04 R90 to R103; spec/11 R263, R270 to R272; spec/18 R401).
-/

namespace Sys2Proof.Machine

/-! ### Ordered activations (R100 to R103) -/

/-- Whether a key is older than another (R100). -/
def OrdKey.lt (a b : OrdKey) : Bool := lexLt [a.ts.toNat, a.core.toNat, a.place] [b.ts.toNat, b.core.toNat, b.place]

/-- The key of the running activation. -/
def State.ownKey (s : State) : OrdKey :=
  match s.run.act with
  | some a => ⟨a.ts, s.lcore, a.place⟩
  | none => ⟨0, s.lcore, 0⟩

/-- The listed activations with every activation that depends on one of them, directly or through others (R102). -/
def dependents (tags : List LineTag) : Nat → List OrdKey → List OrdKey
  | 0, ks => ks
  | n + 1, ks =>
    match (tags.filter (fun t => t.on.any ks.contains && !ks.contains t.key)).map (·.key) with
    | [] => ks
    | more => dependents tags n (ks ++ more)

/-- Everything that aborts with the listed activations. -/
def State.withDependents (s : State) (keys : List OrdKey) : List OrdKey := dependents s.die.tags s.die.tags.length keys

/-- The key of a saved context's activation. -/
def SavedCtx.key (s : State) (v : SavedCtx) : OrdKey :=
  match v.run.act with
  | some a => ⟨a.ts, s.lcore, a.place⟩
  | none => ⟨0, s.lcore, 0⟩

/-- The activations whose keys are listed abort, and so do their dependents (R102): their tags go, and one whose context is
saved is marked. Log entry 117 (DEDUCED). -/
def State.abortOthers (s : State) (keys : List OrdKey) : State :=
  let ks := s.withDependents keys
  { s with
    die := { s.die with tags := s.die.tags.filter (fun t => !ks.contains t.key) }
    saved := s.saved.map (fun v => { v with doomed := v.doomed || ks.contains (v.key s) }) }

/-- Other speculative activations that read one of the lines; those younger than `k`, if it is given (R102, R103). -/
def State.readersOf (s : State) (lines : List Nat) (k : Option OrdKey) : List OrdKey :=
  (s.die.tags.filter (fun t => !t.writer && lines.contains t.line && (match k with
    | some key => key.lt t.key
    | none => true))).map (·.key)

/-- The youngest writer tag older than a key on the line of a byte that holds the byte (R102). -/
def youngestWriter (k : OrdKey) (a : Nat) : List LineTag → Option LineTag
  | [] => none
  | t :: ts =>
    let best := youngestWriter k a ts
    if t.writer && t.line == a / 64 && t.key.lt k && (t.data.find a).isSome then
      match best with
      | some b => if b.key.lt t.key then some t else some b
      | none => some t
    else best

/-- The youngest writer tag older than a key on a line (R102). -/
def youngestOn (k : OrdKey) (line : Nat) : List LineTag → Option LineTag
  | [] => none
  | t :: ts =>
    let best := youngestOn k line ts
    if t.writer && t.line == line && t.key.lt k then
      match best with
      | some b => if b.key.lt t.key then some t else some b
      | none => some t
    else best

/-- Whether a home address lies in the core's own scratchpad. -/
def State.ownSp (s : State) (a : Nat) : Bool := decide (s.spA 0 ≤ a) && decide (a < s.spA Config.spSize)

/-- Whether a list of observed writes covers one. -/
def covers (l : List Observed) (b : StaleByte) : Bool :=
  l.any (fun o => o.src == b.src && decide (b.num ≤ o.num) && decide (b.since ≤ o.upto))

/-- Whether the core's path still misses a write of another path: none has ordered the two, and when the write becomes visible is
free (R162, R363). Log entry 57 (DEDUCED). -/
def State.missed (s : State) (b : StaleByte) : Bool :=
  b.late.getLsbD 0 && !covers s.run.path.seen b && decide (s.fresh < Config.visibleFrom b.since b.key)

/-- What a byte holds for a path that misses some of its writes, if it misses the last: the value before the first that it
misses since the last one that it sees (R372). -/
def oldByte (missed : StaleByte → Bool) (a : Nat) : List StaleByte → Option Byte → Option Byte
  | [], acc => acc
  | b :: l, acc => oldByte missed a l (if b.addr = a then (if missed b then some (acc.getD b.old) else none) else acc)

/-- A byte of memory as the core's path reads it: a unit of eight bytes of its own scratchpad that another path wrote, with no
`xfence` between them, holds an old or its new value, never again an old one once the new one has been seen (R162, R363, R372).
Log entry 57 (DEDUCED). -/
def State.memByte (s : State) (a : Nat) : Byte := (oldByte s.missed a s.die.stale none).getD (s.die.mem.get a)

/-- A byte as the activation sees it: its own log first, then an older speculative writer's log, then memory
(R93, R102, R103). Log entry 117 (DEDUCED). -/
def State.seen (s : State) (a : Nat) : Byte :=
  match s.run.log.find a with
  | some b => b
  | none =>
    if s.speculative then
      match youngestWriter s.ownKey a s.die.tags with
      | some t => (t.data.find a).getD (s.memByte a)
      | none => s.memByte a
    else s.memByte a

/-- The `n` bytes at a home address as the activation sees them. -/
def State.seenBytes (s : State) (a : Nat) : Nat → List Byte
  | 0 => []
  | n + 1 => s.seen a :: State.seenBytes s (a + 1) n

/-- The little-endian number of them. -/
def State.seenNat (s : State) (a n : Nat) : Nat := natOfBytes (s.seenBytes a n)

/-- Tags the lines of a read and records the dependences on the writers read from (R102). Log entry 117 (DEDUCED). -/
def State.tagRead (s : State) (a n : Nat) : State :=
  if s.speculative && a < Config.csHome then
    let ks := (List.range n).flatMap (fun i => if (s.run.log.find (a + i)).isSome then []
      else ((youngestWriter s.ownKey (a + i) s.die.tags).toList ++
        (youngestOn s.ownKey ((a + i) / 64) s.die.tags).toList).map (·.key))
    { s with run := { s.run with
        readTags := insertAll [a / 64, (a + (n - 1)) / 64] s.run.readTags
        deps := ks.foldl (fun d k => if d.contains k then d else k :: d) s.run.deps } }
  else s

/-- Tags the line of a store by an ordered activation; younger readers of it abort (R102). -/
def State.tagWrite (s : State) (a n : Nat) : State :=
  if s.ordered && a < Config.csHome then
    let ls := insertAll [a / 64, (a + (n - 1)) / 64] []
    let s := s.abortOthers (s.readersOf ls (some s.ownKey))
    { s with run := { s.run with writeTags := insertAll ls s.run.writeTags } }
  else s

/-! ### The read set and the log -/

/-- Sets the read-set bit of every line that `n` bytes at scratchpad address `a` touch (R95). -/
def State.markRead (s : State) (a n : Nat) : State :=
  if n = 0 then s
  else { s with run := { s.run with
    readSet := insertAll ((List.range ((a + (n - 1)) / 64 - a / 64 + 1)).map (fun i => a / 64 + i)) s.run.readSet } }

/-- The lines the log holds: those of stores and those of adjoint cells (R93, R270). -/
def State.logLines (s : State) : List Nat := linesOf (s.run.log.map (·.1))
def State.adjLines (s : State) : List Nat := linesOf (s.run.adj.map (·.1))

/-- Whether the log can take stores to the lines of some addresses and adjoint cells at others (R93, R270). -/
def State.logRoom (s : State) (stores cells : List Nat) : Bool :=
  decide ((insertAll (stores.map (· / 64)) s.logLines).length + (insertAll (cells.map (· / 64)) s.adjLines).length
    ≤ Config.logLines)

/-- Enters bytes in the log (R93). -/
def State.logStore (s : State) (a : Nat) (bs : List Byte) : State :=
  let s := s.tagWrite a bs.length
  { s with run := { s.run with log := s.run.log.put a bs } }

/-- The logged adjoint cell at an address. -/
def State.adjAt (s : State) (a : Nat) : Option AdjCell := assoc a s.run.adj

/-- Inserts an adjoint cell in address order. -/
def insertCell (a : Nat) (c : AdjCell) : List (Nat × AdjCell) → List (Nat × AdjCell)
  | [] => [(a, c)]
  | (b, d) :: l => if a = b then (a, c) :: l else if a < b then (a, c) :: (b, d) :: l else (b, d) :: insertCell a c l

/-- Replaces a logged adjoint cell. -/
def State.setAdj (s : State) (a : Nat) (c : AdjCell) : State :=
  let s := s.tagWrite a 4
  { s with run := { s.run with adj := insertCell a c s.run.adj } }

/-- AdjRead (R270): a cell's value at home is an older speculative writer's where there is one (R102). -/
def State.adjRead (s : State) (a : Nat) : BitVec 32 :=
  let home := BitVec.ofNat 32 (s.seenNat a 4)
  match s.adjAt a with
  | some (.set x) => x
  | some (.add p) => addFp32 home p
  | none => home

/-- AdjAdd (R270). -/
def State.adjAdd (s : State) (a : Nat) (t : BitVec 32) : State :=
  match s.adjAt a with
  | some (.set x) => s.setAdj a (.set (addFp32 x t))
  | some (.add p) => s.setAdj a (.add (addFp32 p t))
  | none => s.setAdj a (.add t)

/-- AdjSet (R270). -/
def State.adjSet (s : State) (a : Nat) (x : BitVec 32) : State := s.setAdj a (.set x)

/-! ### Commits (R93, R94) -/

/-- Whether a home address lies in another package (R430). -/
def State.remote (s : State) (a : Nat) : Bool := decide (a < Config.csHome) && a / 2 ^ 42 != s.phys.toNat / 2 ^ 12

/-- Whether a cell lies in a reducing window (R272). -/
def State.inWindow (s : State) (a : Nat) : Bool :=
  match (s.granule a).cap with
  | .reduce _ => true
  | _ => false

/-- Whether a cell holds an add (R270). -/
def AdjCell.isAdd : AdjCell → Bool
  | .add _ => true
  | .set _ => false

/-- What the requests of the running activation carry: its place in the order, if it is ordered (R102). -/
def State.orderTag (s : State) : Option OrderTag :=
  match s.run.act with
  | some a => if a.ts = 0 then none else some ⟨a.ts, a.place, a.speculative⟩
  | none => none

/-- The held requests of the log: every adjoint cell and every line homed in another package (R94). -/
def State.heldRequests (s : State) : List HeldReq :=
  s.run.adj.map (fun (p : Nat × AdjCell) =>
    (⟨s.lcore, p.1, if s.inWindow p.1 then .window else if p.2.isAdd then .add else .set, s.orderTag⟩ : HeldReq)) ++
  (s.logLines.filter (fun l => s.remote (l * 64))).map (fun l => ⟨s.lcore, l * 64, .line, s.orderTag⟩)

/-- Whether a core's package holds a lease that no recall has ended (R333), for a home in another package than it. -/
def State.leaseOk (s : State) (core : CoreNum) (a : Nat) : Bool :=
  let pkg := BitVec.ofNat 22 (((s.physOf core.toNat).getD 0).toNat / 2 ^ 12)
  a / 2 ^ 42 == pkg.toNat || ((s.granule a).leases.contains pkg && !(s.granule a).recalled.contains pkg)

/-- A home's verdict on a held request: accepted, and whether a refusal is by the lease (R94). -/
def State.heldVerdict (s : State) (r : HeldReq) : Bool × Bool :=
  let lease := s.leaseOk r.core r.addr
  let cap := match r.kind with
    | .add => (capRefusal (s.capAt r.addr) r.core .load).isNone
    | .set => (capRefusal (s.capAt r.addr) r.core .store).isNone
    | .window => (capRefusal (s.capAt r.addr) r.core .reduce).isNone && s.participates r.addr r.core.toNat
    | .line => true
  (lease && cap, !lease)

/-- Whether some granule that the log writes is being migrated: its commit waits (R334). -/
def State.logMigrating (s : State) : Bool :=
  (s.logLines.map (· * 64) ++ s.run.adj.map Prod.fst).any (fun a => decide (a < Config.csHome) && (s.granule a).mig)

/-- Whether some add of the log would open a third round of its window: its commit waits (R272, R439). Log entry
82 (DEDUCED). -/
def State.logRoundFull (s : State) : Bool :=
  s.run.adj.any (fun (p : Nat × AdjCell) => p.2.isAdd && s.inWindow p.1 && s.roundFull p.1 s.lcore.toNat)

/-- The bytes that the set cells of a log write at their homes (R270). -/
def cellBytes (adj : List (Nat × AdjCell)) (log : ByteMap) : ByteMap :=
  adj.foldl (fun m p => match p.2 with
    | .set x => m.put p.1 (bytesOf 4 x.toNat)
    | .add _ => m) log

/-- Clears the poison of lines that a map covers whole (R336). Log entry 31 (DEDUCED). -/
def clearPoison (log : ByteMap) (poison : List Nat) : List Nat :=
  poison.filter (fun l => !(List.range 64).all (fun i => (log.find (64 * l + i)).isSome))

/-- Whether an add cell is held until the quantum ends, in deterministic mode: one that cores share (R271), or one of an unordered
window (R444). -/
def State.deferredAdd (s : State) (a : Nat) : Bool :=
  s.det && (if s.inWindow a then !s.orderedWindow a else s.capAt a == .shared)

/-- A home applies one adjoint cell of core `c` (R270 to R272). Log entry 82 (DEDUCED). -/
def State.applyCell (s : State) (c : CoreNum) (a : Nat) (v : AdjCell) : State :=
  match v with
  | .set x => { s with die := { s.die with mem := s.die.mem.put a (bytesOf 4 x.toNat) } }
  | .add p =>
    if s.deferredAdd a then { s with die := { s.die with deferred := s.die.deferred ++ [(a, c, p)] } }
    else if s.inWindow a then s.contribute a c.toNat p
    else
      let v := addFp32 (BitVec.ofNat 32 (s.die.mem.nat a 4)) p
      { s with die := { s.die with mem := s.die.mem.put a (bytesOf 4 v.toNat) } }

/-- Whether core `c`'s deferred adds still wait for the quantum end (R271). -/
def State.deferredOf (s : State) (c : CoreNum) : Bool := s.die.deferred.any (fun d => d.2.1 == c)

/-- The end of a bank's refresh window after the present cycle: an access that meets the window waits (R312). Log entry
97 (DEDUCED). -/
def State.refreshWait (s : State) (home : Nat) : Nat :=
  let pos := s.cycle.toNat % Config.refreshCalendar
  if isCaldera home && pos / Config.refreshWindow = home / 64 % 128 then
    Config.refreshWindow - pos % Config.refreshWindow
  else 0

/-- Time that an access to a caldera line waits (R312): only time changes. Log entry 97 (DEDUCED). -/
def State.awaitRefresh (s : State) (home : Nat) : State :=
  match s.refreshWait home with
  | 0 => s
  | n => s.pass n

/-- The time that writes of lines wait for refreshing banks (R312, R314). Log entry 97 (DEDUCED). -/
def State.awaitLines (s : State) : List Nat → State
  | [] => s
  | l :: ls => State.awaitLines (s.awaitRefresh (64 * l)) ls

/-- The time that accesses to some home addresses wait for refreshing banks (R312). Log entry 97 (DEDUCED). -/
def State.awaitHomes (s : State) (as : List Nat) : State := s.awaitLines (linesOf (insertAll (as.filter isCaldera) []))

/-- Whether an activation of the core may be executing code of the granule of a home address: a kernel's code section lies in
it, or a TLB holds it as code (R40). Log entry 103 (DEDUCED). -/
def State.fetchesFrom (s : State) (a : Nat) : Bool :=
  s.net.kernels.any (fun k => k.code.contains (a / 65536)) ||
    (s.core.itlb ++ s.core.tlb).any (fun e => e.x1 && e.x2 && e.pa / 65536 == a / 65536)

/-- A store changes bytes of code that the core may be fetching: each word fetched is the old or the new one (R40). Log entry
103 (DEDUCED). -/
def State.keepCode (s : State) (as : List Nat) : State :=
  match as.filter s.fetchesFrom with
  | [] => s
  | bs => { s with core := { s.core with
      codeOld := s.core.codeOld ++ (bs.filter (fun a => (assoc a s.core.codeOld).isNone)).map (fun a => (a, s.die.mem.get a)) } }

/-- The old words of lines of code are no longer seen (R147, R465, R466). Log entry 103 (DEDUCED). -/
def State.seeCode (s : State) (lines : List Nat) : State :=
  let homes := lines.flatMap (fun l => match s.walkEntry (word (64 * l)) with
    | .ok e => [e.physical (word (64 * l)) / 64]
    | .error _ => [])
  { s with core := { s.core with codeOld := s.core.codeOld.filter (fun p => !homes.contains (p.1 / 64)) } }

/-- The classes that need not see a write of a class: all others and, of a data engine's, that of its other channels; the core's
path and the encoder see one another's (R162, R229, R351, R363). Log entry 57 (DEDUCED). -/
def lateFor (c : Nat) : BitVec 6 := if c = 0 || c = 4 then 0b101110#6 else if c = 3 then 0b110111#6 else 0b111111#6

/-- The last write listed of a byte, if one is. -/
def lastWrite (a : Nat) (l : List StaleByte) : Option StaleByte := l.reverse.find? (fun b => b.addr == a)

/-- What a write of a byte leaves that other paths may still see; writes that every path sees are forgotten. Log entry
57 (DEDUCED). -/
def noteByte (mem : Memory) (w : StaleByte) (key : Nat → Nat) (l : List StaleByte) (a : Nat) : List StaleByte :=
  let l := match lastWrite a l with
    | some b => if b.late = 0 then l.filter (fun b => b.addr != a) else l
    | none => l
  l ++ [{ w with addr := a, old := mem.get a, key := 8 * key a }]

/-- A path writes bytes: those of the core's own scratchpad other paths may see late; bytes of one `key` become visible as one
(R152, R162, R363). Log entry 57 (DEDUCED). -/
def State.noteFrom (s : State) (c src num : Nat) (key : Nat → Nat) (as : List Nat) : State :=
  match as.filter s.ownSp with
  | [] => s
  | bs => { s with die := { s.die with
      stale := bs.foldl (noteByte s.die.mem ⟨0, c, 0, lateFor c, s.fresh, 0, src, num⟩ key) s.die.stale } }

/-- The source of the writes of a class that has no channels: the matrix unit with its command's number, or the core. -/
def State.source (s : State) (c : Nat) : Nat × Nat := if c = 3 then (8, s.run.mx.seq + 1) else (9, 0)

/-- A path without channels writes bytes. Log entry 57 (DEDUCED). -/
def State.noteWrite (s : State) (c : Nat) (key : Nat → Nat) (as : List Nat) : State :=
  s.noteFrom c (s.source c).1 (s.source c).2 key as

/-- The writes of some classes become visible to these classes (R384). Log entry 57 (DEDUCED). -/
def fenced (m : BitVec 6) (l : List StaleByte) : List StaleByte :=
  l.map (fun b => if m.getLsbD b.cls then { b with late := b.late &&& ~~~m } else b)

/-- The state as the reads of a class meet it, for a data engine those of a channel, which sees its own writes (R351): what that
path may miss stands for what the core's may. Log entry 57 (DEDUCED). -/
def State.viewPath (s : State) (c : Nat) (src : Nat := 8) : State :=
  { s with die := { s.die with stale := s.die.stale.map (fun b =>
      { b with late := if b.late.getLsbD c && b.src != src then 1 else 0, key := b.key + c }) } }

/-- What an activation has observed goes with it; what has been sent, or has arrived, and must be seen stays (R299, R372, R386).
-/
def PathView.leave (p : PathView) : PathView := { p with done := [] }

/-- The activation observes the completion of a source's writes up to a command's number, as far as they have been made (R162). -/
def State.observe (s : State) (src num : Nat) : State :=
  { s with run := { s.run with path := { s.run.path with done := ⟨src, num, s.fresh⟩ :: s.run.path.done } } }

/-- A packet to the core itself carries what the activation has observed (R386). -/
def State.publish (s : State) : State :=
  { s with run := { s.run with path := { s.run.path with sent := s.run.path.done ++ s.run.path.sent } } }

/-- An activation that the core's own packet starts, or that claims or consumes one, sees what the packet carried (R386). Log
entry 57 (DEDUCED). -/
def State.receive (s : State) : State :=
  { s with run := { s.run with path := { s.run.path with seen := s.run.path.sent ++ s.run.path.seen, sent := [] } } }

/-- An arrival at a barrier carries what the activation has observed and the core's own writes (R299). -/
def State.arriveView (s : State) : State :=
  { s with run := { s.run with path := { s.run.path with arrived := ⟨9, 0, s.fresh⟩ :: s.run.path.done } } }

/-- A wait at a barrier that returns, or an arrival that completes a phase, sees what the core's arrival carried (R299). Log
entry 57 (DEDUCED). -/
def State.acquireView (s : State) : State :=
  { s with run := { s.run with path := { s.run.path with seen := s.run.path.arrived ++ s.run.path.seen } } }

/-- The first poisoned line that an add cell of the log reads at its home (R278, R336). -/
def State.commitPoison (s : State) : Option Nat :=
  ((s.run.adj.filter (fun (p : Nat × AdjCell) => p.2.isAdd)).map (fun p => p.1 / 64)).find? s.poisoned

/-- Applies every line of the log at its home and empties it (R93, R94): readers of the lines abort (R103; an ordered
activation's stores have met theirs already, R102), whole lines lose their poison, and each committed line is owed an
acknowledgement. Log entry 116 (DEDUCED). -/
def State.commitLog (s : State) : State :=
  let lines := s.logLines
  let al := linesOf ((s.run.adj.filter (fun p => !(p.2.isAdd && s.deferredAdd p.1))).map (·.1))
  let s := if s.ordered then s else s.abortOthers (s.readersOf (lines ++ s.adjLines) none)
  let s := (s.awaitLines (lines.filter (fun l => isCaldera (64 * l)))).keepCode (s.run.log.map Prod.fst)
  let s := { s with die := { s.die with
    mem := s.die.mem.apply s.run.log
    poison := clearPoison (cellBytes s.run.adj s.run.log) s.die.poison
    held := s.die.held.filter (fun r => r.core != s.lcore) } }
  let s := s.run.adj.foldl (fun s p => s.applyCell s.lcore p.1 p.2) s
  { s with run := { s.run with log := [], adj := [], commit := none, acks := s.run.acks + lines.length + al.length } }

/-! ### Checkpoints (R90, R91) -/

/-- The kernel of the running activation on this core. -/
def State.kernel (s : State) : Option Kernel :=
  match s.run.act with
  | some a => s.net.kernels.find? (fun k => k.ksel == a.ksel && k.part == a.part)
  | none => none

/-- A range of a live-range record: FIRST and COUNT of its word, within the scratchpad; a COUNT of 0 names no line, and lines
past the scratchpad are none (R57). Log entry 133 (DESIGN CHOICE). -/
def liveRange (w : BitVec 32) : Nat × Nat :=
  let first := fieldOf w 0 12
  (first, min (fieldOf w 16 13) (4096 - first))

/-- A live-range record of its words, at most eight; further words name nothing (R57). Log entry 133 (DESIGN CHOICE). -/
def liveRec (addr : Word) (ws : List (BitVec 32)) : LiveRec := ⟨addr, (ws.take 8).map liveRange⟩

/-- The record of a list with the highest address at or below one (R57). -/
def liveFor (pc : Nat) : List LiveRec → Option LiveRec
  | [] => none
  | r :: rs =>
    match liveFor pc rs with
    | some b => if r.addr.toNat ≤ pc && b.addr.toNat < r.addr.toNat then some r else some b
    | none => if r.addr.toNat ≤ pc then some r else none

/-- The live-range record in force at a code address: the last one ends with the code section (R57, R90). -/
def State.liveAt (s : State) (pc : Word) : Option LiveRec :=
  match s.kernel with
  | some k => if pc.toNat < k.codeEnd then liveFor pc.toNat k.live else none
  | none => none

/-- The images of the commands of the running activation that have not completed (R98, R171). -/
def State.incomplete (s : State) : List Cmd :=
  let own := (s.run.act.map (·.serial)).getD 0
  (s.core.chans.toList.flatMap (·.queue)).filter (fun c => c.owner == own)

/-- The image of a command of which `wp` units are done: an engaged one covers only the slots not yet completed (R171). -/
def Cmd.imageAt (d : Cmd) (wp : Nat) : Cmd :=
  { d with prog := none, skip := if d.ringD.isSome || d.ringA.isSome then d.skip + wp else d.skip }

/-- The images of the commands of a channel: WP belongs to its head. -/
def Chan.images (c : Chan) : List Cmd :=
  match c.queue with
  | [] => []
  | d :: ds => d.imageAt c.wp :: ds.map (fun e => e.imageAt ((e.prog.map (·.wp)).getD 0))

/-- The channel with another queue: its new head starts, or goes on where it gave way (R364). -/
def Chan.withQueue (c : Chan) (q : List Cmd) : Chan :=
  match q with
  | [] => { c with queue := [], wp := 0, fmtD := none, fmtA := none, pend := none }
  | d :: ds =>
    let p := d.prog.getD ⟨0, none, none, none⟩
    { c with queue := { d with prog := none } :: ds, wp := p.wp, fmtD := p.fmtD, fmtA := p.fmtA, pend := p.pend }

/-- The commands of a channel, the head with how far it has come. -/
def Chan.halted (c : Chan) : List Cmd :=
  match c.queue with
  | [] => []
  | d :: ds => { d with prog := some ⟨c.wp, c.fmtD, c.fmtA, c.pend⟩ } :: ds

/-- The reissue list that a checkpoint records (R98, R171). -/
def State.images (s : State) : List Cmd :=
  let own := (s.run.act.map (·.serial)).getD 0
  (s.core.chans.toList.flatMap Chan.images).filter (fun c => c.owner == own)

/-- The words of the coefficient store that the allocated function registers hold (R90, R189). -/
def Ctx.words (c : Ctx) : List (Nat × Nat) :=
  c.f.toList.filterMap (fun h => if h.alloc then some (h.off.toNat, h.n.toNat) else none)

/-- The serial number of the running activation. -/
def State.serial (s : State) : Nat := (s.run.act.map (·.serial)).getD 0

/-- Records the snapshot: the restart point, the tape's commit point, an empty read set, the live ranges (R90, R263). Log
entry 68 (DEDUCED). -/
def State.snapshot (s : State) (restart : Word) : State :=
  let s := (qregs.foldl (fun s r => s.releaseConsumed r) s).releaseEnded
  let own := s.serial
  let s := { s with net := { s.net with outNext := commitEntries own s.net.outNext, outPrev := commitEntries own s.net.outPrev } }
  let s := (s.selfLink).count 4 1
  let c := { s.run.ctx with pc := restart, live := s.liveAt restart, reissue := s.images }
  { s with
    core := { s.core with tape := { s.core.tape with cp := c.top } }
    run := { s.run with
      snap := c
      snapTvec := s.core.tvec
      ctx := { s.run.ctx with live := c.live, reissue := c.reissue }
      readSet := []
      claimed := []
      pins := c.words
      readTags := []
      writeTags := []
      deps := [] } }

/-- Commits the log and records the snapshot, with nothing to wait for. -/
def State.checkpointNow (s : State) (restart : Word) : State := s.commitLog.snapshot restart

/-- Takes a checkpoint (R90, R91): a speculative activation waits (R101), a commit of two phases waits for its answers
(R94), lines of a migrating granule wait (R334), and an add for a full window waits for a round (R439). Log entries
68 (DEDUCED), 82 (DEDUCED). -/
def State.checkpoint (s : State) (restart : Word) : Except (State × Exc) State :=
  if s.speculative then .error (s, .wait .speculation)
  else if s.commitPoison.isSome then .error (s, .poison (s.commitPoison.getD 0))
  else if s.logMigrating then .error (s, .wait .migration)
  else if s.logRoundFull then .error (s, .wait .round)
  else
    match s.run.commit with
    | some c => if c.granted then .ok (s.checkpointNow restart) else .error (s, .wait .hold)
    | none =>
      match s.heldRequests with
      | [] => .ok (s.checkpointNow restart)
      | r :: rs => .error ({ s with run := { s.run with commit := some ⟨r :: rs, [], false, false⟩ } }, .wait .hold)

/-- The checkpoint before an irrevocable instruction: it completes when every committed line is acknowledged (R93), a
deferred add at the quantum end (R271). Log entry 69 (DEDUCED). -/
def State.checkpointAck (s : State) : Except (State × Exc) State :=
  match s.checkpoint s.run.ctx.pc with
  | .error e => .error e
  | .ok s =>
    if s.run.acks != 0 then .error (s, .wait .acks)
    else if s.deferredOf s.lcore then .error (s, .wait .deferred)
    else .ok s

/-- The checkpoint before a store that the log or the read set has no room for, with that store as restart point (R91). -/
def State.checkpointHere (s : State) : Except (State × Exc) State := s.checkpoint s.run.ctx.pc

/-! ### Aborts (R97, R98) -/

/-- Cancels the commands of an activation on every channel and clears their pending faults (R358, R364). -/
def State.cancelCommands (s : State) (owner : Nat) : State :=
  { s with core := { s.core with chans := s.core.chans.map (fun c =>
      let q := c.queue.filter (fun d => d.owner != owner)
      if c.queue.head?.map (·.owner) = some owner then
        c.withQueue q
      else { c with queue := q }) } }

/-- Reissues command images in list order; each keeps its number (R98). -/
def State.reissue (s : State) : List Cmd → State
  | [] => s
  | c :: cs => State.reissue (let v := s.chan c.ch
      s.setChan c.ch { v with queue := v.queue ++ [c] }) cs

/-- Returns a packet that `wcnt` claimed to its queue (R97, R109). -/
def State.returnClaim (s : State) (c : Claim) : State :=
  (s.setSlot c.slot { s.slot c.slot with st := .queued, bindings := 0 }).requeue
    ⟨c.slot, c.prio, c.arrival, (s.slot c.slot).order, none, .fresh⟩

/-- The slots bound to windows of a context. -/
def Ctx.slots (c : Ctx) : List (BitVec 5) := c.w.toList.filterMap id

/-- A commit that waits for its answers is given up: its held requests and their answers go (R94). -/
def State.dropCommit (s : State) : State :=
  { s with
    die := { s.die with
      held := s.die.held.filter (fun q => q.core != s.lcore)
      answers := s.die.answers.filter (fun a => a.1.core != s.lcore) }
    run := { s.run with commit := none } }

/-- An abort to the last checkpoint (R97) but for its commands: the log, the read set and the waits go, the snapshot
and TVEC (R123) return, claimed packets queue again, every other slot bound since is released, and pushes are withdrawn. Log
entry 32 (DEDUCED). -/
def State.abortBase (s : State) : State :=
  let r := s.run
  let snap := r.snap
  let claimedSlots := r.claimed.map (·.slot)
  let s := s.count 3 1
  let s := if s.ordered then s.abortOthers [s.ownKey] else s
  let s := qregs.foldl (fun s q =>
    if (s.rdQ q).bind != (snap.q[q.toFin]).bind then s.endStream q else s) s
  let s := r.claimed.foldl (fun s c => s.returnClaim c) s
  let s := (r.ctx.slots.filter (fun i => !snap.slots.contains i && !claimedSlots.contains i)).foldl
    (fun s i => s.dropBinding i) s
  let s := s.dropCommit
  let s := { s with
    net := { s.net with
      outNext := withdrawEntries s.serial s.net.outNext, outPrev := withdrawEntries s.serial s.net.outPrev }
    core := { s.core with tvec := r.snapTvec }
    run := { s.run with
      ctx := snap, log := [], adj := [], readSet := [], claimed := [], stall := none, waited := 0, served := false
      idleDone := false, sent := none, retiring := false, readTags := [], writeTags := [], deps := []
      part := 0, partIdx := [], watch := none, freed := false, redst := none, answer := none, lost := [], late := none } }
  s.restoreEnded.joinStreams

/-- An abort before anything is reissued: the commands of the activation are cancelled (R97, R364). -/
def State.abortCore (s : State) : State := s.abortBase.cancelCommands ((s.run.act.map (·.serial)).getD 0)

/-- An abort that resumes at once: the reissue list runs again (R97, R98). -/
def State.abort (s : State) : State := s.abortCore.reissue s.run.snap.reissue

end Sys2Proof.Machine
end

