-- ==== Sys2Proof/Machine/Ops.lean ====
section
/-!
DEFINITION. Machine/Ops.lean: how an instruction ends: retiring, taking a trap (spec/05 R124, R125) and returning from it
(R145), faults that go to the firmware (spec/04 R116, spec/18 R411, R412), waits (R407); and the memory accesses that
instructions share, with the checks of R126.
-/

namespace Sys2Proof.Machine

/-- How the body of an instruction ends. `ok` retires and goes to the next instruction; `okCk` takes the checkpoint after
it too (R91); `jump` retires and goes to a target; `gone` has settled what follows itself; `exc` does not complete, and
the state it carries is the one the exception meets. -/
inductive Res where
  | ok (s : State)
  | okCk (s : State)
  | jump (s : State) (target : Word)
  | gone (s : State)
  | exc (s : State) (e : Exc)

/-- Continues with the result of a check, or ends with its exception. -/
def withE {α : Type} (s : State) (e : Except Exc α) (k : α → Res) : Res :=
  match e with
  | .error x => .exc s x
  | .ok a => k a

/-- Continues with a new state, or ends with the state and exception that a checkpoint left. -/
def withS (e : Except (State × Exc) State) (k : State → Res) : Res :=
  match e with
  | .error x => .exc x.1 x.2
  | .ok s => k s

/-- Continues with what a checked operation gives, or ends with the state and exception that it left. -/
def withT {α : Type} (e : Except (State × Exc) α) (k : α → Res) : Res :=
  match e with
  | .error x => .exc x.1 x.2
  | .ok a => k a

/-- A check that must hold. -/
def need (b : Bool) (e : Exc) : Except Exc Unit := if b then .ok () else .error e

/-- The first failing check of a list. -/
def checks : List (Except Exc Unit) → Except Exc Unit
  | [] => .ok ()
  | c :: cs => match c with
    | .error e => .error e
    | .ok _ => checks cs

/-! ### Retiring an instruction -/

/-- Clears what a waiting instruction kept. -/
def State.clearWait (s : State) : State :=
  { s with run := { s.run with
      stall := none, waited := 0, served := false, idleDone := false, sent := none, part := 0, partIdx := [], watch := none, freed := false
      redst := none } }

/-- Counts a retired instruction and moves on (R119, R401). Log entry 67 (DEDUCED). -/
def State.retireTo (s : State) (pc : Word) : State :=
  let s := s.count 2 1
  let c := s.run.ctx
  { s with
    core := { s.core with retired := s.core.retired + 1 }
    run := { s.run with
      ctx := { c with pc := pc, lic := c.lic + 1 }
      stall := none, waited := 0, served := false, idleDone := false, sent := none, part := 0, partIdx := [], watch := none, freed := false
      redst := none } }

/-! ### Leaving the core -/

/-- Releases every window still bound and unbinds every stream (R115, R284). -/
def State.releaseAll (s : State) : State :=
  let slots := s.run.ctx.slots
  let s := qregs.foldl (fun s q => (s.endStream q).wrQ q ⟨.unbound, 0, 0⟩) s
  let s := slots.foldl (fun s i => s.dropBinding i) s
  (s.withCtx { s.run.ctx with w := Vector.replicate 16 none }).releaseEnded

/-- No activation runs any longer; the logical clock and the signature count go on from it (R79, R401, R448). -/
def State.clearRun (s : State) : State :=
  { s with run := { Run.reset with ctx := s.run.ctx, snap := s.run.ctx, acks := s.run.acks, owed := s.run.owed, path := s.run.path.leave } }

/-- Retires the activation (R115, R457). Log entry 52 (DEDUCED). -/
def State.retireAct (s : State) : State :=
  let s := s.traceAct kRETIRE (body2 s.run.ctx.lic s.core.retired.toNat)
  s.releaseAll.clearRun

/-- An ABORT record, and its entry of the replay log (R458, R467). Log entry 53 (DEDUCED). -/
def State.traceAbort (s : State) (cause : Nat) : State :=
  let s := s.traceAct kABORT (body2 cause s.run.snap.pc.toNat)
  s.record .abort cause

/-- An instruction that needs an entry of a full log waits for the firmware to drain it, and runs again then (R468). -/
def State.waitReplay (s : State) : State := { s with run := { s.run with stall := some .replay } }

/-- The running activation loses an ordering conflict: it restarts with its key unchanged (R102, R116), once the replay log can
take the abort (R468). -/
def State.ordAbort (s : State) : State :=
  if s.replayStalls .abort then State.waitReplay { s with run := { s.run with late := some .order } }
  else (s.traceAbort cORDABORT).abort

/-- Another activation aborts the listed readers and their dependents, among them perhaps the running one: `mine` says
whether it read what changed (R102, R103). -/
def State.conflict (s : State) (keys : List OrdKey) (mine : Bool) : State :=
  let ks := s.withDependents keys
  let own := s.speculative && (mine || s.run.deps.any ks.contains)
  let s := s.abortOthers keys
  if own then s.ordAbort else s

/-- The lines of a store whose readers it meets: an ordered activation's store has met those of a line when it went into the log
and tagged the line, and who has read since then depends on it (R102). Log entry 117 (DEDUCED). -/
def State.unannounced (s : State) (key : Option OrdKey) (lines : List Nat) : List Nat :=
  match key with
  | some k => lines.filter (fun l => !s.die.tags.any (fun t => t.writer && t.key == k && t.line == l))
  | none => lines

/-- A store to some lines by another activation meets their readers: all of them, or, for an ordered activation, those
younger than its key (R102, R103). Log entry 58 (DEDUCED). -/
def State.otherStore (s : State) (lines : List Nat) (key : Option OrdKey) : State :=
  let lines := s.unannounced key lines
  s.conflict (s.readersOf lines key) (lines.any s.run.readTags.contains && (match key with
    | some k => k.lt s.ownKey
    | none => true))

/-- Aborts to the last checkpoint and retires without restart: a double trap, UE, POISON (R116, R124). Matrix commands stand
(R233): while some are queued, the activation is held in its retiring state. -/
def State.abortRetire (s : State) (cause : Nat) : State :=
  let s := (s.traceAbort cause).abortCore
  if s.run.mx.queue.isEmpty then s.retireAct else { s with run := { s.run with retiring := true, struck := true } }

/-- What an activation takes with it when it leaves the core to return later (R233, R412). Log entry 56 (DEDUCED). -/
def State.savedAct (s : State) (a : Act) : Saved := ⟨a, s.run.snap, s.run.mx, s.run.store, s.run.pins, s.run.streams⟩

/-- Parks the aborted activation for a fault, or keeps it in place when eight are parked (R412). -/
def State.park (s : State) (r : FaultRec) : State :=
  match s.run.act with
  | none => s
  | some a =>
    if s.parked.length < 8 then
      State.clearRun { s with parked := s.parked ++ [⟨s.savedAct a, r, a.slot, a.arrival⟩] }
    else { s with inPlace := some r, run := { s.run with parking := none } }

/-- The aborted activation parks as soon as the matrix queue is empty (R412). -/
def State.tryPark (s : State) (r : FaultRec) : State :=
  if s.run.mx.queue.isEmpty then s.park r
  else { s with run := { s.run with parking := some r, stall := some .matrix } }

/-- A translation fault: the activation aborts, once the replay log can take the abort (R468), the record goes to the firmware,
and the activation parks (R320, R321, R411). -/
def State.pageFault (s : State) (r : FaultRec) : State :=
  if s.replayStalls .abort then s.waitReplay
  else (((s.traceAbort r.cause.toNat).abortCore).report (.pageFault r)).tryPark r

/-- A poisoned line, reported by its physical address, a line of the own scratchpad, which has none, by that of its home in the
model: the firmware retires the activation without restart (R116, R336, R411). Log entries 30 (DESIGN CHOICE), 45 (DEDUCED),
138 (DESIGN CHOICE). -/
def State.poisonFault (s : State) (line : Nat) : State :=
  if s.replayStalls .abort then s.waitReplay
  else (s.report (.poison (word (64 * line)) s.run.ctx.pc)).abortRetire cPOISON

/-- An uncorrectable error in a structure: likewise (R337). -/
def State.ueFault (s : State) (code : BitVec 8) (index : BitVec 56) : State :=
  if s.replayStalls .abort then State.waitReplay { s with run := { s.run with late := some (.error code index) } }
  else (s.report (.uncorrectable code index s.run.ctx.pc)).abortRetire cUE

/-- An abort that waited for the replay log is taken once the log has room (R468). -/
def State.takeLate (s : State) (a : LateAbort) : State :=
  let s := { s with run := { s.run with late := none } }
  match a with
  | .order => s.ordAbort
  | .error code index => s.ueFault code index

/-! ### Traps (R124, R125) -/

/-- Takes a trap to TVEC, or the double trap: `ret` is the address for EPC. Log entries 67 (DEDUCED), 137 (DESIGN CHOICE). -/
def State.takeTrap (s : State) (code : Nat) (val ret : Word) : State :=
  let c := s.run.ctx
  if c.priv || s.core.tvec == 0 then
    if s.replayStalls .abort then s.waitReplay
    else (s.report (.doubleTrap (BitVec.ofNat 6 code) val c.pc)).abortRetire code
  else
    (s.withCtx { c with
      epc := ret &&& ~~~3#64
      tcause := BitVec.ofNat 6 code
      tval := val
      ppriv := c.priv
      priv := true
      pc := s.core.tvec }).clearWait

/-- Returns from a trap handler: the address and the state (R145). -/
def State.returnTrap (s : State) : State :=
  let c := s.run.ctx
  s.withCtx { c with priv := c.ppriv, ppriv := false }

/-- What an exception does to the state it meets; `next` is the address of the next instruction, where `trap` returns. Log
entry 67 (DEDUCED). -/
def State.raiseExc (s : State) (next : Word) : Exc → State
  | .trap c v => s.takeTrap c v (if c = cTRAP then next else s.run.ctx.pc)
  | .page r => s.pageFault r
  | .poison l => s.poisonFault l
  | .wait w => { s with run := { s.run with stall := some w } }
  | .restart => if s.replayStalls .abort then s.waitReplay else (s.traceAbort cCAPF).abort

/-- Ends an instruction of `len` bytes. -/
def finish (len : Nat) (pc : Word) : Res → Host.Outcome State Fault Refusal
  | .ok s => .next (s.retireTo (pc + word len))
  | .okCk s => .next ((s.retireTo (pc + word len)).checkpointNow (pc + word len))
  | .jump s t => .next (s.retireTo t)
  | .gone s => .next s
  | .exc s e => .next (s.raiseExc (pc + word len) e)

/-- Runs the body of an instruction of `len` bytes at a state. -/
def runBody (len : Nat) (s : State) (body : State → Res) : Host.Outcome State Fault Refusal :=
  finish len s.run.ctx.pc (body s)

/-- The checkpoint of an instruction that restarts after it: its LIC counts the instruction (R91, R401). Log entry
68 (DEDUCED). -/
def State.checkpointNext (s : State) (next : Word) : Except (State × Exc) State :=
  match s.checkpoint next with
  | .error e => .error e
  | .ok s => .ok { s with run := { s.run with snap := { s.run.snap with lic := s.run.snap.lic + 1 } } }

/-- Continues once every committed line has been acknowledged, deferred adds included (R93, R271). Log entry 69 (DEDUCED). -/
def withAcks (s : State) (k : State → Res) : Res :=
  if s.run.acks != 0 then .exc s (.wait .acks)
  else if s.deferredOf s.lcore then .exc s (.wait .deferred)
  else k s

/-- The request of the instruction is accepted, and its reply may yet fail to come (R434). Log entry 84 (DEDUCED). -/
def State.asked (s : State) (kind : BitVec 4) (reply : List (Reg × Word)) : State :=
  { s with run := { s.run with answer := some ⟨s.run.ctx.pc, kind, s.core.retired + 1, reply, none⟩ } }

/-- An instruction that a LINKF has named runs again: its request is sent again under its old number, has its effect no second
time, and the reply comes (R433, R434). Log entry 84 (DEDUCED). -/
def withResent (s : State) (k : State → Res) : Res :=
  match s.run.lost.find? (fun u => u.pc == s.run.ctx.pc && u.sent.isNone) with
  | some u => .okCk (u.reply.foldl (fun s r => s.wr r.1 r.2) { s with run := { s.run with lost := s.run.lost.erase u } })
  | none => k s

/-- The number under which the filter of R433 keeps the requests of a core: its physical one. Log entry 83 (DEDUCED). -/
def State.requester (s : State) (c : CoreNum) : CoreNum := (s.physOf c.toNat).getD c

/-- Whether the filter holds the number of a request from another package (R433). Log entry 83 (DEDUCED). -/
def State.seenRequest (s : State) (src : CoreNum) (num : Option (BitVec 16)) : Bool :=
  match num with
  | some n => s.pkg.filter.any (fun f => f.1 == src && f.2.1 == n)
  | none => false

/-- A numbered request has been served: the filter keeps the last 64 of its source with their replies (R433). Log entry
83 (DEDUCED). -/
def State.noteRequest (s : State) (src : CoreNum) (num : Option (BitVec 16)) (reply : List Byte) : State :=
  match num with
  | some n =>
    let mine := (s.pkg.filter.filter (fun f => f.1 == src)).take 63
    let rest := s.pkg.filter.filter (fun f => f.1 != src)
    { s with pkg := { s.pkg with filter := (src, n, reply) :: mine ++ rest } }
  | none => s

/-- A request with a number is served once, whatever its reply (R433). Log entry 83 (DEDUCED). -/
def State.once (s : State) (core : CoreNum) (num : Option (BitVec 16)) (f : State → State) : State :=
  if s.seenRequest (s.requester core) num then s else (f s).noteRequest (s.requester core) num []

/-- A shared request of deterministic mode waits for the end of the quantum (R385, R402). -/
def withService (s : State) (k : State → Res) : Res :=
  if s.det && !s.run.served then .exc s (.wait .quantum) else k s

/-- Stores, strong and reduce accesses to a migrating granule wait (R334). -/
def withMigration (s : State) (home : Nat) (k : State → Res) : Res :=
  if decide (home < Config.csHome) && (s.granule home).mig then .exc s (.wait .migration) else k s

/-- An access whose result the replay log must record waits while the log is full and stalls (R468). -/
def withReplay (s : State) (r : ReplaySource) (k : State → Res) : Res :=
  if s.replayStalls r then .exc s (.wait .replay) else k s

/-! ### Instructions that a pre-emption may divide (R161, R228, R328) -/

/-- Where a pre-emption that has arrived stops an instruction which works in groups of `g` on `n` things, if before its end: after
the groups that the request leaves it (R161). Log entry 11 (DEDUCED). -/
def State.stopPoint (s : State) (g n : Nat) : Option Nat :=
  match s.core.stopAt with
  | none => none
  | some k => let e := (s.run.part / g + 1 + k) * g
    if e < n then some e else none

/-- The things that the instruction works on now: from the first one not yet done to where it stops. Log entry 11 (DEDUCED). -/
def State.span (s : State) (g n : Nat) : List Nat :=
  (List.range ((s.stopPoint g n).getD n)).drop s.run.part

/-- The instruction has stopped: the next thing to do is kept, and it goes on from there on resume. -/
def State.stopAfter (s : State) (e : Nat) : State := { s with run := { s.run with part := e } }

/-- Ends such an instruction: stopped at a point, or as `done` says. Log entry 11 (DEDUCED). -/
def endPart (stop : Option Nat) (done : State → Res) (s : State) : Res :=
  match stop with
  | some e => .gone (s.stopAfter e)
  | none => done s

/-! ### Access checks (R126) -/

/-- A place that has passed its checks: its home address, its space and the entry that translated it. -/
structure Loc where
  home : Nat
  space : Nat
  va : Word
  entry : Option TlbEntry
  deriving DecidableEq, Repr

/-- What an access asks of the rows of R126. -/
structure Ask where
  kind : AccessKind
  need : Need
  cls : CapClass
  /-- rights R, W and A of the access table -/
  accR : Bool
  accW : Bool
  accA : Bool
  deriving DecidableEq, Repr

/-- An ordinary load, an ordinary store, and the strong and reduce accesses (R324, R375). Log entry 34 (DEDUCED). -/
def askLoad : Ask := ⟨.read, needR, .load, true, false, false⟩
def askStore : Ask := ⟨.write, needW, .store, false, true, false⟩
def askAmo : Ask := ⟨.write, needRW, .strong, false, false, true⟩
def askStrongStore : Ask := ⟨.write, needW, .strong, false, true, false⟩
def askStrongLoad : Ask := ⟨.read, needRW, .strong, true, false, false⟩
def askReduce : Ask := ⟨.write, needW, .reduce, false, false, true⟩

/-- Row 4: the rights cached with the translation (R322). Log entry 102 (DEDUCED). -/
def Ask.rights (q : Ask) (e : TlbEntry) : Bool := (!q.accR || e.accR) && (!q.accW || e.accW) && (!q.accA || e.accA)

/-- The fault record of an access that its home refuses under a recalled lease (R333). Log entry 139 (DESIGN CHOICE). -/
def State.leaseFault (s : State) (va : Word) (kind : AccessKind) : Exc :=
  .page (s.faultRec s.run.ctx.pc va kind ⟨false, 0, 3, 0, false, none⟩)

/-- Whether the home serves an access: not under a recalled lease (R333). A store meets this at its commit (R94). Log entry
79 (DEDUCED). -/
def State.leaseCheck (s : State) (home : Nat) (va : Word) (q : Ask) : Except Exc Unit :=
  need (q.cls == .store || !s.remote home || s.leaseOk s.lcore home) (s.leaseFault va q.kind)

/-- Rows 3 to 6 for a global address (R126): translation, a late alignment, the access table, the format rules and the
capability. -/
def State.globalRows (s : State) (a : Word) (q : Ask) (late : TlbEntry → Except Exc Unit)
    (fmt : TlbEntry → Except Exc Unit) : Except Exc Loc :=
  match s.translate a q.kind q.need with
  | .error e => .error e
  | .ok e =>
    match checks [late e, need (q.rights e) (.trap cACCF a), need e.formatOk (.trap cFMTF a), fmt e,
        s.leaseCheck (e.physical a) a q, s.capCheck (s.capFor e (e.physical a) q.cls) (e.physical a) q.cls a,
        s.granulePoisonCheck (e.physical a)] with
    | .error x => .error x
    | .ok _ => .ok ⟨e.physical a, 0, a, some e⟩

/-- No further check of an entry. -/
def noCheck : TlbEntry → Except Exc Unit := fun _ => .ok ()

/-- Rows 1 to 6 of an access to a space (R126): `bad` is what address bits outside the space raise, `align` the size that
row 2 requires. -/
def State.access (s : State) (space : Nat) (a : Word) (bad : Exc) (align : Nat) (q : Ask)
    (late fmt : TlbEntry → Except Exc Unit) : Except Exc Loc :=
  match checks [need (inSpace space a) bad, need (a.toNat % align == 0) (.trap cALIGN a)] with
  | .error x => .error x
  | .ok _ =>
    match space with
    | 0 => s.globalRows a q late fmt
    | 3 =>
      if q.cls == .store then .error (.trap cACCF a)
      else match s.granulePoisonCheck (s.homeOf 3 a.toNat) with
        | .error x => .error x
        | .ok _ => .ok ⟨s.homeOf 3 a.toNat, 3, a, none⟩
    | n => .ok ⟨s.homeOf n a.toNat, n, a, none⟩

/-- Whether the log holds every byte of an access. -/
def State.allLogged (s : State) (a n : Nat) : Bool := (List.range n).all (fun i => (s.run.log.find (a + i)).isSome)

/-- The check for poison of the units that a load reads (R126, R303, R336, R428): a unit served whole by the log reaches no
line. -/
def State.loadPoison (s : State) (us : List (Nat × Nat)) : Except Exc Unit :=
  checks (us.map (fun u => if s.allLogged u.1 u.2 then .ok () else s.poisonCheck u.1 u.2))

/-- What a load of `n` bytes leaves: read-set bits of its own scratchpad (R95), tags of an ordered activation (R102), the
wait for a refreshing bank (R312). -/
def State.afterLoad (s : State) (l : Loc) (addr n : Nat) : State :=
  match l.space with
  | 1 => s.markRead addr n
  | 2 => s
  | _ => (s.tagRead l.home n).awaitRefresh l.home

/-- The checkpoint that some stores need first: to a line whose read-set bit is set, or beyond the log (R91, R93). -/
def State.storeRoom (s : State) (homes cells : List Nat) : Except (State × Exc) State :=
  let own := homes.filter s.ownSp
  let out := homes.filter (fun a => !s.ownSp a)
  if own.any (fun a => s.run.readSet.contains ((a - s.spA 0) / 64)) || !s.logRoom out cells then s.checkpointHere
  else .ok s

/-- A class of access path stores bytes at a home address: at once in the core's own scratchpad, else in the log (R93, R151);
those of one `key` become visible to other paths as one (R152). -/
def State.putAs (s : State) (c : Nat) (a : Nat) (bs : List Byte) (key : Nat → Nat := (· / 8)) : State :=
  if s.ownSp a then
    let s := s.noteWrite c key ((List.range bs.length).map (fun i => a + i))
    { s with die := { s.die with mem := s.die.mem.put a bs } }
  else s.logStore a bs

/-- Stores bytes by the core's own path. -/
def State.putBytes (s : State) (a : Nat) (bs : List Byte) : State := s.putAs 0 a bs

/-- Stores bytes at their homes directly, past the log: readers of the lines abort (R103), whole lines lose their poison
(R336), and code may be fetched old or new (R40). -/
def State.putMap (s : State) (m : ByteMap) : State :=
  let s := (s.abortOthers (s.readersOf (linesOf (m.map Prod.fst)) none)).keepCode (m.map Prod.fst)
  { s with die := { s.die with mem := s.die.mem.apply m, poison := clearPoison m s.die.poison } }

/-- A store of another agent is served at its homes: readers of the lines abort, the running activation among them (R102, R103),
whole lines lose their poison (R336), and code may be fetched old or new (R40); every path of the core sees it from then on
(R299, R372). -/
def State.storeHome (s : State) (m : ByteMap) (key : Option OrdKey) : State :=
  let s := (s.otherStore (linesOf (m.map Prod.fst)) key).keepCode (m.map Prod.fst)
  { s with die := { s.die with
      mem := s.die.mem.apply m, poison := clearPoison m s.die.poison
      stale := s.die.stale.filter (fun b => (m.find b.addr).isNone) } }

/-- Stores bytes at a home directly, past the log. -/
def State.putHome (s : State) (a : Nat) (bs : List Byte) : State := s.putMap (ByteMap.put [] a bs)

end Sys2Proof.Machine
end

