-- ==== Sys2Proof/Machine/Flags.lean ====
section
/-!
DEFINITION. Machine/Flags.lean: rounding modes of instruction fields (spec/03 R62, spec/01 R14, R18, R20), operations on
encodings with the flags they raise (R13, R16, R21), and the conversions between formats (R15, R31, R140).
-/

namespace Sys2Proof.Machine

/-- The mode code that a rounding field selects: its own, or FRM.MODE (R62). -/
def State.modeCode (s : State) (fn : BitVec 3) : BitVec 3 := if fn = 7 then s.run.ctx.frm else fn

/-- The mode of an operation whose destination is no element of a tensor: RS acts as RNE (R18). -/
def State.scalarMode (s : State) (fn : BitVec 3) : RMode := modeOfFrm (s.modeCode fn)

/-- The mode of element `coord` of a tensor with identifier `tid` (R18). -/
def State.elemMode (s : State) (fn : BitVec 3) (tid : BitVec 32) (coord : Nat) : RMode :=
  if s.modeCode fn = 4 then .rs (drawU s.run.ctx.seed tid coord) else s.scalarMode fn

/-- A binary operation on encodings of a format, rounded once (R134). -/
def binF (f : Fmt) (mode : RMode) (op : FVal → FVal → FVal × Flags) (a b : Nat) : Nat × Flags :=
  let r := op (decodeF f a) (decodeF f b)
  let v := roundF f mode false r.1
  (v.1, r.2 ||| v.2)

/-- The operations of R134 in a mode. -/
def opAdd (mode : RMode) (a b : FVal) : FVal × Flags := addV mode a b
def opSub (mode : RMode) (a b : FVal) : FVal × Flags := addV mode a b.negate

/-- `fmin` and `fmax`: exact, a signalling NaN raises NV (R135). -/
def minmaxF (f : Fmt) (pick : FVal → FVal → FVal) (a b : Nat) : Nat × Flags :=
  let x := decodeF f a
  let y := decodeF f b
  ((roundF f .rne false (pick x y)).1, nanFlags x y)

/-- A predicate of R64 on encodings: its truth and its flags (R136). -/
def compareF (f : Fmt) (p : BitVec 2) (a b : Nat) : Bool × Flags :=
  let x := decodeF f a
  let y := decodeF f b
  let anyNan := x.isNan || y.isNan
  if p = 0 then (eqV x y, nanFlags x y)
  else if p = 1 then (ltV x y, flagIf anyNan flNV)
  else if p = 2 then (leV x y, flagIf anyNan flNV)
  else (anyNan, nanFlags x y)

/-- `fsgn`: the magnitude of a with a new sign; a NaN gives the canonical NaN (R138). -/
def signF (f : Fmt) (j : BitVec 2) (a b : Nat) : Nat × Flags :=
  let x := decodeF f a
  let sa := a / 2 ^ (f.w - 1) % 2 == 1
  let sb := b / 2 ^ (f.w - 1) % 2 == 1
  let sign := if j = 0 then sb else if j = 1 then !sb else sa != sb
  if x.isNan then (f.nan, flagIf x.isSig flNV) else (a % 2 ^ (f.w - 1) + f.sign sign, 0)

/-- The floating-point format that a conversion code names; 8 is the other width (R139). -/
def cvtFmt (t : Nat) (other : Fmt) : Fmt :=
  match t with
  | 4 => fp16
  | 5 => bf16
  | 6 => e4m3
  | 7 => e5m2
  | _ => other

/-- The range of an integer conversion code (R31, R139). -/
def cvtRange (t : Nat) : Int × Int :=
  match t with
  | 0 => (-(2 ^ 31), 2 ^ 31 - 1)
  | 1 => (0, 2 ^ 32 - 1)
  | 2 => (-(2 ^ 63), 2 ^ 63 - 1)
  | _ => (0, 2 ^ 64 - 1)

/-- The integer source that a conversion code reads (R140). -/
def cvtInt (t : Nat) (a : Word) : Int :=
  match t with
  | 0 => (a.setWidth 32).toInt
  | 1 => (a.setWidth 32).toNat
  | 2 => a.toInt
  | _ => a.toNat

/-- `fcvt` from or to the form's format with a 6-bit code (R139, R140): the register result and the flags. -/
def convertF (form other : Fmt) (mode : RMode) (code : BitVec 6) (a : Word) : Word × Flags :=
  let t := fieldOf code 0 4
  let sat := code.getLsbD 5
  if code.getLsbD 4 then
    let v := if t < 4 then ofIntV (cvtInt t a) else decodeF (cvtFmt t other) (a.toNat % 2 ^ (cvtFmt t other).w)
    let r := roundF form mode false v
    (word r.1, r.2)
  else
    let v := decodeF form (a.toNat % 2 ^ form.w)
    if t < 4 then
      let r := toIntV mode (cvtRange t).1 (cvtRange t).2 v
      (wordOfInt r.1, r.2)
    else
      let r := roundF (cvtFmt t other) mode sat v
      (word r.1, r.2)

/-- The floating-point format of a code of R11, if it is one. -/
def fmtOf (c : Nat) : Option Fmt :=
  match c with
  | 1 => some fp32
  | 2 => some bf16
  | 3 => some fp16
  | 4 => some e4m3
  | 5 => some e5m2
  | 13 => some fp64
  | _ => none

/-- Whether a format code is an integer format (R11, R31). -/
def fmtIsInt (c : Nat) : Bool := c == 7 || c == 8 || c == 9 || c == 10 || c == 11

/-- Whether an integer format is signed (R31). -/
def fmtSigned (c : Nat) : Bool := c == 7 || c == 8 || c == 9

/-- The integer that an element of an integer format holds (R31). -/
def intOf (c : Nat) (n : Nat) : Int :=
  let w := 8 * fmtSize c
  if fmtSigned c && n / 2 ^ (w - 1) % 2 == 1 then (n : Int) - 2 ^ w else n

/-- The range of an integer format (R31). -/
def intRange (c : Nat) : Int × Int :=
  let w := 8 * fmtSize c
  if fmtSigned c then (-(2 ^ (w - 1)), 2 ^ (w - 1) - 1) else (0, 2 ^ w - 1)

/-- The exact value of an element of a whole-byte format (R13, R31, R34). -/
def elemVal (c : Nat) (n : Nat) : FVal :=
  match fmtOf c with
  | some f => decodeF f n
  | none => ofIntV (intOf c n)

/-- Encodes a value in a format (R15, R31, R34): the element and the flags. -/
def encodeVal (c : Nat) (mode : RMode) (sat : Bool) (v : FVal) : Nat × Flags :=
  match fmtOf c with
  | some f => roundF f mode sat v
  | none =>
    let r := toIntV mode (intRange c).1 (intRange c).2 v
    ((r.1 % 2 ^ (8 * fmtSize c)).toNat, r.2)

end Sys2Proof.Machine
end

