-- ==== Sys2Proof/Machine/Integer.lean ====
section
/-!
DEFINITION. Machine/Integer.lean: rows 0 and 1: integer register-register, immediates and compares (spec/05 R127 to R132).
-/

namespace Sys2Proof.Machine

/-- Writes t to S[D] and retires an instruction of `len` bytes (R127). -/
def writeInt (len : Nat) (d : Reg) (t : State → Word) (s : State) : Host.Outcome State Fault Refusal :=
  runBody len s (fun s => .ok (s.wr d (t s)))

/-- The high 64 bits of the exact product of signed operands (R127). -/
def mulHighS (a b : Word) : Word := wordOfInt (a.toInt * b.toInt / 2 ^ 64)
/-- The high 64 bits of the exact product of unsigned operands (R127). -/
def mulHighZ (a b : Word) : Word := word (a.toNat * b.toNat / 2 ^ 64)

/-- `div.s` (R128). -/
def quotS (a b : Word) : Word := if b = 0 then wordOfInt (-1) else wordOfInt (a.toInt.tdiv b.toInt)
/-- `div.z` (R128). -/
def quotZ (a b : Word) : Word := if b = 0 then wordOfInt (-1) else word (a.toNat / b.toNat)
/-- `rem.s` (R128). -/
def remainS (a b : Word) : Word := if b = 0 then a else wordOfInt (a.toInt.tmod b.toInt)
/-- `rem.z` (R128). -/
def remainZ (a b : Word) : Word := if b = 0 then a else word (a.toNat % b.toNat)

/-- The shift amount b[5:0] (R127). -/
def amount (b : Word) : Nat := b.toNat % 64

/-- Signed comparison of words. -/
def ltS (a b : Word) : Bool := a.toInt < b.toInt
/-- Unsigned comparison of words. -/
def ltZ (a b : Word) : Bool := a.toNat < b.toNat

/-- A truth value as a word (R131). -/
def ofBool (b : Bool) : Word := if b then 1 else 0

/-- The number of leading zero bits among the low `n` (R127). -/
def leadingZeros (a : Word) : Nat → Nat
  | 0 => 0
  | n + 1 => if a.getLsbD n then 0 else leadingZeros a n + 1

/-- The number of one bits among the low `n` (R127). -/
def onesBelow (a : Word) : Nat → Nat
  | 0 => 0
  | n + 1 => (if a.getLsbD n then 1 else 0) + onesBelow a n

/-- The low bit of the field that S[B] describes (R129). -/
def fieldLo (b : Word) : Nat := fieldOf b 0 6
/-- The width of the field: h − lo + 1 (R129). -/
def fieldWidth (b : Word) : Nat := min (fieldLo b + (fieldOf b 8 6 + 1)) 64 - fieldLo b

/-- `ext.z` (R129). -/
def extractZ (a b : Word) : Word := word (fieldOf a (fieldLo b) (fieldWidth b))
/-- `ext.s` (R129). -/
def extractS (a b : Word) : Word :=
  let v := fieldOf a (fieldLo b) (fieldWidth b)
  if v / 2 ^ (fieldWidth b - 1) % 2 = 1 then wordOfInt ((v : Int) - 2 ^ fieldWidth b) else word v
/-- `ins` (R129): the old value with the field replaced by the low bits of a. -/
def insertField (old a b : Word) : Word :=
  let mask := word ((2 ^ fieldWidth b - 1) * 2 ^ fieldLo b)
  (old &&& ~~~mask) ||| ((a <<< fieldLo b) &&& mask)

/-- The bytes of a word in reverse order (R127). -/
def byteSwap (a : Word) : Word := word (natOfBytes (bytesOf 8 a.toNat).reverse)

/-- `add` (R127). -/
def execAdd (d a b : Reg) (s : State) : Host.Outcome State Fault Refusal :=
  writeInt 4 d (fun s => (s.rd a) + (s.rd b)) s

/-- `sub` (R127). -/
def execSub (d a b : Reg) (s : State) : Host.Outcome State Fault Refusal :=
  writeInt 4 d (fun s => (s.rd a) - (s.rd b)) s

/-- `mul` (R127). -/
def execMul (d a b : Reg) (s : State) : Host.Outcome State Fault Refusal :=
  writeInt 4 d (fun s => (s.rd a) * (s.rd b)) s

/-- `mulhS` (R127). -/
def execMulhS (d a b : Reg) (s : State) : Host.Outcome State Fault Refusal :=
  writeInt 4 d (fun s => mulHighS (s.rd a) (s.rd b)) s

/-- `mulhZ` (R127). -/
def execMulhZ (d a b : Reg) (s : State) : Host.Outcome State Fault Refusal :=
  writeInt 4 d (fun s => mulHighZ (s.rd a) (s.rd b)) s

/-- `divS` (R127). -/
def execDivS (d a b : Reg) (s : State) : Host.Outcome State Fault Refusal :=
  writeInt 4 d (fun s => quotS (s.rd a) (s.rd b)) s

/-- `divZ` (R127). -/
def execDivZ (d a b : Reg) (s : State) : Host.Outcome State Fault Refusal :=
  writeInt 4 d (fun s => quotZ (s.rd a) (s.rd b)) s

/-- `remS` (R127). -/
def execRemS (d a b : Reg) (s : State) : Host.Outcome State Fault Refusal :=
  writeInt 4 d (fun s => remainS (s.rd a) (s.rd b)) s

/-- `remZ` (R127). -/
def execRemZ (d a b : Reg) (s : State) : Host.Outcome State Fault Refusal :=
  writeInt 4 d (fun s => remainZ (s.rd a) (s.rd b)) s

/-- `and` (R127). -/
def execAnd (d a b : Reg) (s : State) : Host.Outcome State Fault Refusal :=
  writeInt 4 d (fun s => (s.rd a) &&& (s.rd b)) s

/-- `or` (R127). -/
def execOr (d a b : Reg) (s : State) : Host.Outcome State Fault Refusal :=
  writeInt 4 d (fun s => (s.rd a) ||| (s.rd b)) s

/-- `xor` (R127). -/
def execXor (d a b : Reg) (s : State) : Host.Outcome State Fault Refusal :=
  writeInt 4 d (fun s => (s.rd a) ^^^ (s.rd b)) s

/-- `andn` (R127). -/
def execAndn (d a b : Reg) (s : State) : Host.Outcome State Fault Refusal :=
  writeInt 4 d (fun s => (s.rd a) &&& ~~~(s.rd b)) s

/-- `shl` (R127). -/
def execShl (d a b : Reg) (s : State) : Host.Outcome State Fault Refusal :=
  writeInt 4 d (fun s => (s.rd a) <<< amount (s.rd b)) s

/-- `shr` (R127). -/
def execShr (d a b : Reg) (s : State) : Host.Outcome State Fault Refusal :=
  writeInt 4 d (fun s => (s.rd a) >>> amount (s.rd b)) s

/-- `sha` (R127). -/
def execSha (d a b : Reg) (s : State) : Host.Outcome State Fault Refusal :=
  writeInt 4 d (fun s => (s.rd a).sshiftRight (amount (s.rd b))) s

/-- `minS` (R127). -/
def execMinS (d a b : Reg) (s : State) : Host.Outcome State Fault Refusal :=
  writeInt 4 d (fun s => if ltS (s.rd b) (s.rd a) then (s.rd b) else (s.rd a)) s

/-- `minZ` (R127). -/
def execMinZ (d a b : Reg) (s : State) : Host.Outcome State Fault Refusal :=
  writeInt 4 d (fun s => if ltZ (s.rd b) (s.rd a) then (s.rd b) else (s.rd a)) s

/-- `maxS` (R127). -/
def execMaxS (d a b : Reg) (s : State) : Host.Outcome State Fault Refusal :=
  writeInt 4 d (fun s => if ltS (s.rd a) (s.rd b) then (s.rd b) else (s.rd a)) s

/-- `maxZ` (R127). -/
def execMaxZ (d a b : Reg) (s : State) : Host.Outcome State Fault Refusal :=
  writeInt 4 d (fun s => if ltZ (s.rd a) (s.rd b) then (s.rd b) else (s.rd a)) s

/-- `extS` (R127). -/
def execExtS (d a b : Reg) (s : State) : Host.Outcome State Fault Refusal :=
  writeInt 4 d (fun s => extractS (s.rd a) (s.rd b)) s

/-- `extZ` (R127). -/
def execExtZ (d a b : Reg) (s : State) : Host.Outcome State Fault Refusal :=
  writeInt 4 d (fun s => extractZ (s.rd a) (s.rd b)) s

/-- `rot` (R127). -/
def execRot (d a b : Reg) (s : State) : Host.Outcome State Fault Refusal :=
  writeInt 4 d (fun s => (s.rd a).rotateLeft (amount (s.rd b))) s

/-- `sel` reads S[D] as its condition (R127). -/
def execSel (d a b : Reg) (s : State) : Host.Outcome State Fault Refusal :=
  writeInt 4 d (fun s => if s.rd d ≠ 0 then s.rd a else s.rd b) s

/-- `ins` (R129). -/
def execIns (d a b : Reg) (s : State) : Host.Outcome State Fault Refusal :=
  writeInt 4 d (fun s => insertField (s.rd d) (s.rd a) (s.rd b)) s

/-- `clz` (R127). -/
def execClz (d a : Reg) (s : State) : Host.Outcome State Fault Refusal :=
  writeInt 4 d (fun s => word (leadingZeros (s.rd a) 64)) s

/-- `popc` (R127). -/
def execPopc (d a : Reg) (s : State) : Host.Outcome State Fault Refusal :=
  writeInt 4 d (fun s => word (onesBelow (s.rd a) 64)) s

/-- `lea.x1` to `.x8`: a + (b << FN) (R127). -/
def execLea (d a b : Reg) (k : BitVec 2) (s : State) : Host.Outcome State Fault Refusal :=
  writeInt 4 d (fun s => s.rd a + (s.rd b <<< k.toNat)) s

/-- `bswap` (R127). -/
def execBswap (d a : Reg) (s : State) : Host.Outcome State Fault Refusal :=
  writeInt 4 d (fun s => byteSwap (s.rd a)) s

/-- `addi` with IMM9 (R130). -/
def execAddi (d a : Reg) (i : BitVec 9) (s : State) : Host.Outcome State Fault Refusal :=
  writeInt 4 d (fun s => s.rd a + sext i) s

/-- `addi` with a literal (R39, R130). -/
def execAddiLit (d a : Reg) (l : Word) (s : State) : Host.Outcome State Fault Refusal :=
  writeInt 12 d (fun s => s.rd a + l) s

/-- `andi` with IMM9 (R130). -/
def execAndi (d a : Reg) (i : BitVec 9) (s : State) : Host.Outcome State Fault Refusal :=
  writeInt 4 d (fun s => s.rd a &&& sext i) s

/-- `andi` with a literal (R39, R130). -/
def execAndiLit (d a : Reg) (l : Word) (s : State) : Host.Outcome State Fault Refusal :=
  writeInt 12 d (fun s => s.rd a &&& l) s

/-- `ori` with IMM9 (R130). -/
def execOri (d a : Reg) (i : BitVec 9) (s : State) : Host.Outcome State Fault Refusal :=
  writeInt 4 d (fun s => s.rd a ||| sext i) s

/-- `ori` with a literal (R39, R130). -/
def execOriLit (d a : Reg) (l : Word) (s : State) : Host.Outcome State Fault Refusal :=
  writeInt 12 d (fun s => s.rd a ||| l) s

/-- `xori` with IMM9 (R130). -/
def execXori (d a : Reg) (i : BitVec 9) (s : State) : Host.Outcome State Fault Refusal :=
  writeInt 4 d (fun s => s.rd a ^^^ sext i) s

/-- `xori` with a literal (R39, R130). -/
def execXoriLit (d a : Reg) (l : Word) (s : State) : Host.Outcome State Fault Refusal :=
  writeInt 12 d (fun s => s.rd a ^^^ l) s

/-- `shli` with IMM9, which decode has limited to 0 to 63 (R130). -/
def execShli (d a : Reg) (i : BitVec 9) (s : State) : Host.Outcome State Fault Refusal :=
  writeInt 4 d (fun s => s.rd a <<< i.toNat) s

/-- `shli` with a literal (R39, R130). -/
def execShliLit (d a : Reg) (l : Word) (s : State) : Host.Outcome State Fault Refusal :=
  writeInt 12 d (fun s => s.rd a <<< l.toNat) s

/-- `shri` with IMM9, which decode has limited to 0 to 63 (R130). -/
def execShri (d a : Reg) (i : BitVec 9) (s : State) : Host.Outcome State Fault Refusal :=
  writeInt 4 d (fun s => s.rd a >>> i.toNat) s

/-- `shri` with a literal (R39, R130). -/
def execShriLit (d a : Reg) (l : Word) (s : State) : Host.Outcome State Fault Refusal :=
  writeInt 12 d (fun s => s.rd a >>> l.toNat) s

/-- `shai` with IMM9, which decode has limited to 0 to 63 (R130). -/
def execShai (d a : Reg) (i : BitVec 9) (s : State) : Host.Outcome State Fault Refusal :=
  writeInt 4 d (fun s => (s.rd a).sshiftRight i.toNat) s

/-- `shai` with a literal (R39, R130). -/
def execShaiLit (d a : Reg) (l : Word) (s : State) : Host.Outcome State Fault Refusal :=
  writeInt 12 d (fun s => (s.rd a).sshiftRight l.toNat) s

/-- `li` with IMM15 (R130). -/
def execLi (d : Reg) (i : BitVec 15) (s : State) : Host.Outcome State Fault Refusal := writeInt 4 d (fun _ => sext i) s

/-- `li` with a literal (R39, R130). -/
def execLiLit (d : Reg) (l : Word) (s : State) : Host.Outcome State Fault Refusal := writeInt 12 d (fun _ => l) s

/-- `leasw` (R47, R132). -/
def execLeasw (d a : Reg) (m : BitVec 3) (s : State) : Host.Outcome State Fault Refusal :=
  writeInt 4 d (fun s => word (swizzle m.toNat (s.rd a).toNat)) s

/-- `nop` (R130). -/
def execNop (s : State) : Host.Outcome State Fault Refusal := runBody 4 s (fun s => .ok s)

/-- `cmp` Eq (R131). -/
def execCmpEq (d a b : Reg) (s : State) : Host.Outcome State Fault Refusal :=
  writeInt 4 d (fun s => ofBool ((s.rd a) == (s.rd b))) s

/-- `cmpi` Eq with IMM9 (R131). -/
def execCmpiEq (d a : Reg) (i : BitVec 9) (s : State) : Host.Outcome State Fault Refusal :=
  writeInt 4 d (fun s => ofBool ((s.rd a) == (sext i))) s

/-- `cmpi` Eq with a literal (R39, R131). -/
def execCmpiEqLit (d a : Reg) (l : Word) (s : State) : Host.Outcome State Fault Refusal :=
  writeInt 12 d (fun s => ofBool ((s.rd a) == l)) s

/-- `cmp` Ne (R131). -/
def execCmpNe (d a b : Reg) (s : State) : Host.Outcome State Fault Refusal :=
  writeInt 4 d (fun s => ofBool ((s.rd a) != (s.rd b))) s

/-- `cmpi` Ne with IMM9 (R131). -/
def execCmpiNe (d a : Reg) (i : BitVec 9) (s : State) : Host.Outcome State Fault Refusal :=
  writeInt 4 d (fun s => ofBool ((s.rd a) != (sext i))) s

/-- `cmpi` Ne with a literal (R39, R131). -/
def execCmpiNeLit (d a : Reg) (l : Word) (s : State) : Host.Outcome State Fault Refusal :=
  writeInt 12 d (fun s => ofBool ((s.rd a) != l)) s

/-- `cmp` LtS (R131). -/
def execCmpLtS (d a b : Reg) (s : State) : Host.Outcome State Fault Refusal :=
  writeInt 4 d (fun s => ofBool (ltS (s.rd a) (s.rd b))) s

/-- `cmpi` LtS with IMM9 (R131). -/
def execCmpiLtS (d a : Reg) (i : BitVec 9) (s : State) : Host.Outcome State Fault Refusal :=
  writeInt 4 d (fun s => ofBool (ltS (s.rd a) (sext i))) s

/-- `cmpi` LtS with a literal (R39, R131). -/
def execCmpiLtSLit (d a : Reg) (l : Word) (s : State) : Host.Outcome State Fault Refusal :=
  writeInt 12 d (fun s => ofBool (ltS (s.rd a) l)) s

/-- `cmp` LtZ (R131). -/
def execCmpLtZ (d a b : Reg) (s : State) : Host.Outcome State Fault Refusal :=
  writeInt 4 d (fun s => ofBool (ltZ (s.rd a) (s.rd b))) s

/-- `cmpi` LtZ with IMM9 (R131). -/
def execCmpiLtZ (d a : Reg) (i : BitVec 9) (s : State) : Host.Outcome State Fault Refusal :=
  writeInt 4 d (fun s => ofBool (ltZ (s.rd a) (sext i))) s

/-- `cmpi` LtZ with a literal (R39, R131). -/
def execCmpiLtZLit (d a : Reg) (l : Word) (s : State) : Host.Outcome State Fault Refusal :=
  writeInt 12 d (fun s => ofBool (ltZ (s.rd a) l)) s

/-- `cmp` LeS (R131). -/
def execCmpLeS (d a b : Reg) (s : State) : Host.Outcome State Fault Refusal :=
  writeInt 4 d (fun s => ofBool (!ltS (s.rd b) (s.rd a))) s

/-- `cmpi` LeS with IMM9 (R131). -/
def execCmpiLeS (d a : Reg) (i : BitVec 9) (s : State) : Host.Outcome State Fault Refusal :=
  writeInt 4 d (fun s => ofBool (!ltS (sext i) (s.rd a))) s

/-- `cmpi` LeS with a literal (R39, R131). -/
def execCmpiLeSLit (d a : Reg) (l : Word) (s : State) : Host.Outcome State Fault Refusal :=
  writeInt 12 d (fun s => ofBool (!ltS l (s.rd a))) s

/-- `cmp` LeZ (R131). -/
def execCmpLeZ (d a b : Reg) (s : State) : Host.Outcome State Fault Refusal :=
  writeInt 4 d (fun s => ofBool (!ltZ (s.rd b) (s.rd a))) s

/-- `cmpi` LeZ with IMM9 (R131). -/
def execCmpiLeZ (d a : Reg) (i : BitVec 9) (s : State) : Host.Outcome State Fault Refusal :=
  writeInt 4 d (fun s => ofBool (!ltZ (sext i) (s.rd a))) s

/-- `cmpi` LeZ with a literal (R39, R131). -/
def execCmpiLeZLit (d a : Reg) (l : Word) (s : State) : Host.Outcome State Fault Refusal :=
  writeInt 12 d (fun s => ofBool (!ltZ l (s.rd a))) s

end Sys2Proof.Machine
end

