-- ==== Sys2Proof/Machine/Control.lean ====
section
/-!
DEFINITION. Machine/Control.lean: row 3 without `end`: branches, jumps, loops, traps, CSRs, `synci` and `idle` (spec/05
R119 to R122, R141 to R148; spec/23 R460 to R462, R465).
-/

namespace Sys2Proof.Machine

/-! ### Branches (R141 to R143) -/

/-- A branch of an instruction of `len` bytes to `off` words from its own first word, if the condition holds (R141). -/
def branchIf (len : Nat) (cond : State → Bool) (off : Word) (s : State) : Host.Outcome State Fault Refusal :=
  runBody len s (fun s => if cond s then .jump s (s.run.ctx.pc + 4 * off) else .ok s)

/-- The conditions of R141: S[A] as a signed number against zero. -/
def condEq (a : Reg) (s : State) : Bool := s.rd a == 0
def condNe (a : Reg) (s : State) : Bool := s.rd a != 0
def condLt (a : Reg) (s : State) : Bool := decide ((s.rd a).toInt < 0)
def condGe (a : Reg) (s : State) : Bool := decide (0 ≤ (s.rd a).toInt)
def condLe (a : Reg) (s : State) : Bool := decide ((s.rd a).toInt ≤ 0)
def condGt (a : Reg) (s : State) : Bool := decide (0 < (s.rd a).toInt)

/-- A jump to a target, which must be a multiple of 4 (R142). -/
def jumpTo (s : State) (target : Word) : Res :=
  if target.toNat % 4 = 0 then .jump s target else .exc s (.trap cALIGN target)

/-- `call`: the link, then the branch (R142). -/
def callBody (len : Nat) (a : Reg) (off : Word) (s : State) : Res :=
  .jump (s.wr a (s.run.ctx.pc + word len)) (s.run.ctx.pc + 4 * off)

/-- `loop`: the register after its decrement is tested (R143). Log entry 40 (DEDUCED). -/
def loopBody (a : Reg) (off : Word) (s : State) : Res :=
  let t := s.wr a (s.rd a - 1)
  if t.rd a ≠ 0 then .jump t (s.run.ctx.pc + 4 * off) else .ok t

/-! ### Control and status registers (R119 to R122, R460 to R462) -/

/-- ACTTAG (R88). -/
def State.actTag (s : State) : Word :=
  match s.run.act with
  | some a => word (a.prio.toNat * 2 ^ 20 + a.kind.toNat * 2 ^ 16 + a.tag.toNat)
  | none => 0

/-- CALCAL (R312). -/
def State.calcal (s : State) : Word :=
  let pos := s.cycle.toNat % Config.refreshCalendar
  word (pos / Config.refreshWindow * 2 ^ 17 + pos)

/-- QUANT (R393). -/
def State.quantCsr (s : State) : Word := word ((if s.pkg.det then 2 ^ 63 else 0) + s.pkg.quant.toNat)

/-- The number of activations queued at a priority (R462). -/
def State.depth (s : State) (p : BitVec 2) : Nat := (s.net.queue.filter (fun q => q.prio == p)).length % 256

/-- IFSTAT (R462). -/
def State.ifstat (s : State) : Word :=
  word (s.net.malformed.toNat * 2 ^ 48 + s.net.unboundCount.toNat * 2 ^ 32 + s.depth 3 * 2 ^ 24 + s.depth 2 * 2 ^ 16 +
    s.depth 1 * 2 ^ 8 + s.depth 0)

/-- The counter set that PMSEL names (R460). -/
def State.pmView (s : State) : PmSet := s.core.pm[s.core.pmsel.toFin]

/-- The value of a CSR (R119); the replay log supplies the time-dependent ones in replay mode (R467). -/
def State.csrRead (s : State) (c : BitVec 12) : Word :=
  let x := s.run.ctx
  let n := c.toNat
  let k : BitVec 3 := c.setWidth 3
  if n = 0x000 then zext x.fflags
  else if n = 0x001 then zext x.frm
  else if n = 0x002 then x.seed
  else if n = 0x003 then word ((if x.fnspace then 2 ^ 32 else 0) + x.fntol.toNat)
  else if n = 0x004 then zext x.admode
  else if n = 0x005 then x.estat
  else if n = 0x006 then zext x.circidle
  else if n = 0x010 then zext s.lcore
  else if n = 0x011 then word s.ncores
  else if n = 0x012 then s.actTag
  else if n = 0x013 then (s.run.act.map (·.entry)).getD 0
  else if n = 0x014 then zext ((s.run.act.map (·.seg)).getD 0)
  else if n = 0x015 then (s.run.act.map (·.arg)).getD 0
  else if n = 0x020 then s.replayed .cycle s.cycle
  else if n = 0x021 then s.replayed .retired s.core.retired
  else if n = 0x022 then s.replayed .calcal s.calcal
  else if n = 0x023 then s.quantCsr
  else if n = 0x100 then word ((if x.priv then 1 else 0) + (if x.ppriv then 2 else 0))
  else if n = 0x101 then s.core.tvec
  else if n = 0x102 then x.epc
  else if n = 0x103 then zext x.tcause
  else if n = 0x104 then x.tval
  else if n = 0x105 then x.tscratch
  else if 0x200 ≤ n ∧ n < 0x208 then s.pmView.cnt[k.toFin]
  else if 0x208 ≤ n ∧ n < 0x210 then s.pmView.ev[k.toFin]
  else if 0x210 ≤ n ∧ n < 0x218 then s.pmView.enab[k.toFin]
  else if 0x218 ≤ n ∧ n < 0x220 then s.pmView.ran[k.toFin]
  else if n = 0x220 then zext s.core.pmsel
  else if n = 0x221 then zext s.core.pmctl
  else if n = 0x222 then s.ifstat
  else 0

/-- Whether a CSR value is one the replay log records, and its source (R404, R467). -/
def csrSource (c : BitVec 12) : Option ReplaySource :=
  if c = 0x020 then some .cycle else if c = 0x021 then some .retired else if c = 0x022 then some .calcal else none

/-- TOL after a write: a negative, infinite or NaN value leaves it unchanged, and −0 counts as 0 (R190). Log entry
35 (DEDUCED). -/
def tolWrite (old : BitVec 32) (v : Word) : BitVec 32 :=
  let t : BitVec 32 := v.setWidth 32
  if t = 0x80000000 then 0 else if t.toNat < 0x7F800000 then t else old

/-- FRM.MODE after a write: a reserved value leaves it unchanged (R20). -/
def frmWrite (old : BitVec 3) (v : Word) : BitVec 3 :=
  let m : BitVec 3 := v.setWidth 3
  if m.toNat < 5 then m else old

/-- Replaces the counter set that PMSEL names. -/
def State.withPmView (s : State) (p : PmSet) : State :=
  { s with core := { s.core with pm := s.core.pm.set s.core.pmsel.toFin p } }

/-- A write to a CSR: reserved bits ignore it, a field with its own rule follows it, and a CSR whose Write column says
Ignored does not change (R120). -/
def State.csrWrite (s : State) (c : BitVec 12) (v : Word) : State :=
  let x := s.run.ctx
  let n := c.toNat
  let k : BitVec 3 := c.setWidth 3
  if n = 0x000 then s.withCtx { x with fflags := v.setWidth 9 }
  else if n = 0x001 then s.withCtx { x with frm := frmWrite x.frm v }
  else if n = 0x002 then s.withCtx { x with seed := v }
  else if n = 0x003 then s.withCtx { x with fntol := tolWrite x.fntol v, fnspace := v.getLsbD 32 }
  else if n = 0x005 then s.withCtx { x with estat := v }
  else if n = 0x006 then s.withCtx { x with circidle := v.setWidth 32 }
  else if n = 0x100 then s.withCtx { x with ppriv := v.getLsbD 1 }
  else if n = 0x101 then { s with core := { s.core with tvec := v &&& ~~~3#64 } }
  else if n = 0x102 then s.withCtx { x with epc := v &&& ~~~3#64 }
  else if n = 0x103 then s.withCtx { x with tcause := v.setWidth 6 }
  else if n = 0x104 then s.withCtx { x with tval := v }
  else if n = 0x105 then s.withCtx { x with tscratch := v }
  else if 0x200 ≤ n ∧ n < 0x208 then s.withPmView { s.pmView with cnt := s.pmView.cnt.set k.toFin v }
  else if 0x208 ≤ n ∧ n < 0x210 then s.withPmView { s.pmView with ev := s.pmView.ev.set k.toFin (v &&& 0x1FFF) }
  else if n = 0x220 then { s with core := { s.core with pmsel := v.setWidth 2 } }
  else s

/-- Whether a read of a CSR needs supervisor level (R119). -/
def csrReadPriv (c : BitVec 12) : Bool := decide (0x100 ≤ c.toNat) && decide (c.toNat ≤ 0x105)
/-- Whether a write of a CSR needs supervisor level (R119, R460). -/
def csrWritePriv (c : BitVec 12) : Bool :=
  csrReadPriv c || (decide (0x200 ≤ c.toNat) && decide (c.toNat < 0x210))

/-- PRIV at user level, with the first word in TVAL (R120). -/
def State.privCheck (s : State) (needs : Bool) (w : BitVec 32) : Except Exc Unit :=
  need (!needs || s.run.ctx.priv) (.trap cPRIV (zext w))

/-- `csrr` (R146). -/
def csrrBody (w : BitVec 32) (d : Reg) (c : BitVec 12) (s : State) : Res :=
  withE s (s.privCheck (csrReadPriv c) w) (fun _ =>
    match csrSource c with
    | none => .ok (s.wr d (s.csrRead c))
    | some k =>
      if s.replayStalls k then .exc s (.wait .replay)
      else .ok ((s.record k (s.csrRead c).toNat).wr d (s.csrRead c)))

/-- `csrw`, `csrs` and `csrc`: `f` makes the new value of the old one and S[D] (R146). -/
def csrUpdateBody (w : BitVec 32) (f : Word → Word → Word) (d : Reg) (c : BitVec 12) (s : State) : Res :=
  withE s (s.privCheck (csrWritePriv c) w) (fun _ => .ok (s.csrWrite c (f (s.csrRead c) (s.rd d))))

/-! ### Instructions -/

/-- `br` (R141). -/
def execBr (off : BitVec 15) (s : State) : Host.Outcome State Fault Refusal := branchIf 4 (fun _ => true) (sext off) s

/-- `br` with a literal (R141). -/
def execBrLit (l : Word) (s : State) : Host.Outcome State Fault Refusal := branchIf 12 (fun _ => true) l s

/-- `bc.eq` (R141). -/
def execBcEq (a : Reg) (off : BitVec 15) (s : State) : Host.Outcome State Fault Refusal :=
  branchIf 4 (condEq a) (sext off) s

/-- `bc.eq` with a literal (R141). -/
def execBcEqLit (a : Reg) (l : Word) (s : State) : Host.Outcome State Fault Refusal := branchIf 12 (condEq a) l s

/-- `bc.ne` (R141). -/
def execBcNe (a : Reg) (off : BitVec 15) (s : State) : Host.Outcome State Fault Refusal :=
  branchIf 4 (condNe a) (sext off) s

/-- `bc.ne` with a literal (R141). -/
def execBcNeLit (a : Reg) (l : Word) (s : State) : Host.Outcome State Fault Refusal := branchIf 12 (condNe a) l s

/-- `bc.lt` (R141). -/
def execBcLt (a : Reg) (off : BitVec 15) (s : State) : Host.Outcome State Fault Refusal :=
  branchIf 4 (condLt a) (sext off) s

/-- `bc.lt` with a literal (R141). -/
def execBcLtLit (a : Reg) (l : Word) (s : State) : Host.Outcome State Fault Refusal := branchIf 12 (condLt a) l s

/-- `bc.ge` (R141). -/
def execBcGe (a : Reg) (off : BitVec 15) (s : State) : Host.Outcome State Fault Refusal :=
  branchIf 4 (condGe a) (sext off) s

/-- `bc.ge` with a literal (R141). -/
def execBcGeLit (a : Reg) (l : Word) (s : State) : Host.Outcome State Fault Refusal := branchIf 12 (condGe a) l s

/-- `bc.le` (R141). -/
def execBcLe (a : Reg) (off : BitVec 15) (s : State) : Host.Outcome State Fault Refusal :=
  branchIf 4 (condLe a) (sext off) s

/-- `bc.le` with a literal (R141). -/
def execBcLeLit (a : Reg) (l : Word) (s : State) : Host.Outcome State Fault Refusal := branchIf 12 (condLe a) l s

/-- `bc.gt` (R141). -/
def execBcGt (a : Reg) (off : BitVec 15) (s : State) : Host.Outcome State Fault Refusal :=
  branchIf 4 (condGt a) (sext off) s

/-- `bc.gt` with a literal (R141). -/
def execBcGtLit (a : Reg) (l : Word) (s : State) : Host.Outcome State Fault Refusal := branchIf 12 (condGt a) l s

/-- `jmp` (R142). -/
def execJmp (a : Reg) (i : BitVec 9) (s : State) : Host.Outcome State Fault Refusal :=
  runBody 4 s (fun s => jumpTo s (s.rd a + sext i))

/-- `jmp` with a literal (R142). -/
def execJmpLit (a : Reg) (l : Word) (s : State) : Host.Outcome State Fault Refusal :=
  runBody 12 s (fun s => jumpTo s (s.rd a + l))

/-- `call` (R142). -/
def execCall (a : Reg) (off : BitVec 15) (s : State) : Host.Outcome State Fault Refusal :=
  runBody 4 s (callBody 4 a (sext off))

/-- `call` with a literal (R142). -/
def execCallLit (a : Reg) (l : Word) (s : State) : Host.Outcome State Fault Refusal := runBody 12 s (callBody 12 a l)

/-- `ret` (R142). -/
def execRet (a : Reg) (s : State) : Host.Outcome State Fault Refusal := runBody 4 s (fun s => jumpTo s (s.rd a))

/-- `loop` (R143). -/
def execLoop (a : Reg) (off : BitVec 15) (s : State) : Host.Outcome State Fault Refusal :=
  runBody 4 s (loopBody a (sext off))

/-- `loop` with a literal (R143). -/
def execLoopLit (a : Reg) (l : Word) (s : State) : Host.Outcome State Fault Refusal := runBody 12 s (loopBody a l)

/-- `trap`: TRAP with IMM15 in TVAL; EPC is the next instruction (R125, R144). -/
def execTrap (i : BitVec 15) (s : State) : Host.Outcome State Fault Refusal :=
  runBody 4 s (fun s => .exc s (.trap cTRAP (zext i)))

/-- `eret` (R145). -/
def execEret (s : State) : Host.Outcome State Fault Refusal :=
  runBody 4 s (fun s => withE s (s.privCheck true (rrr 0 0x06D 0 0 0 0)) (fun _ => .jump s.returnTrap s.run.ctx.epc))

/-- `csrr` (R146). -/
def execCsrr (d : Reg) (c : BitVec 12) (s : State) : Host.Outcome State Fault Refusal :=
  runBody 4 s (csrrBody (ri15 0 0x06E (0#3 ++ c) d) d c)

/-- `csrw` (R146). -/
def execCsrw (d : Reg) (c : BitVec 12) (s : State) : Host.Outcome State Fault Refusal :=
  runBody 4 s (csrUpdateBody (ri15 0 0x06F (0#3 ++ c) d) (fun _ v => v) d c)

/-- `csrs` (R146). -/
def execCsrs (d : Reg) (c : BitVec 12) (s : State) : Host.Outcome State Fault Refusal :=
  runBody 4 s (csrUpdateBody (ri15 0 0x070 (0#3 ++ c) d) (fun c v => c ||| v) d c)

/-- `csrc` (R146). -/
def execCsrc (d : Reg) (c : BitVec 12) (s : State) : Host.Outcome State Fault Refusal :=
  runBody 4 s (csrUpdateBody (ri15 0 0x071 (0#3 ++ c) d) (fun c v => c &&& ~~~v) d c)

/-- Whether a `bkpt` is a debugger breakpoint that halts the core (R465). -/
def State.breaks (s : State) (i : BitVec 15) : Bool := s.dbg.hold && decide (0x7F00 ≤ i.toNat)

/-- `bkpt`: BKPT with EPC at itself (R144), or the halt of a debugger breakpoint (R465). -/
def execBkpt (i : BitVec 15) (s : State) : Host.Outcome State Fault Refusal :=
  runBody 4 s (fun s =>
    if s.breaks i then
      let s := s.traceAct kBREAK (body2 s.run.ctx.pc.toNat s.run.ctx.lic)
      .gone { s with core := { s.core with halt := some .brk } }
    else .exc s (.trap cBKPT (zext i)))

/-- Drops the cached words of a 64-byte line of code, and an invalidation of it that waited (R147, R466). Log entry
103 (DEDUCED). -/
def State.dropCode (s : State) (line : Nat) : State :=
  let s := s.seeCode [line]
  { s with core := { s.core with
      icache := s.core.icache.filter (fun p => p.addr / 64 != line)
      inval := s.core.inval.filter (fun l => l != line) } }

/-- `synci` (R147): the line leaves the cache, then every committed line is awaited. -/
def execSynci (a : Reg) (s : State) : Host.Outcome State Fault Refusal :=
  runBody 4 s (fun s =>
    let s := s.dropCode ((s.rd a).toNat / 64)
    if s.run.acks != 0 then .exc s (.wait .acks)
    else if s.deferredOf s.lcore then .exc s (.wait .deferred)
    else .ok s)

/-- `idle` (R148): it ends when its cycles have passed or a packet of equal or higher priority has joined a queue. Log entry
104 (DEDUCED). -/
def execIdle (a : Reg) (s : State) : Host.Outcome State Fault Refusal :=
  runBody 4 s (fun s =>
    withE s (need (fieldOf (s.rd a) 32 32 == 0) (illopd (rrr 0 0x074 0 0 a 0) 17)) (fun _ =>
      if s.rd a = 0 || s.run.idleDone then .ok s else .exc s (.wait .idle)))

/-- IDLE_EXPIRY: the count of a waiting `idle` runs out (R148); in deterministic mode the test waits for the quantum end
(R403). -/
def execIdleExpiry (s : State) : Host.Outcome State Fault Refusal :=
  if s.run.stall = some .idle then
    let s := s.record .idle 0
    .next { s with run := { s.run with idleDone := true, stall := if s.det then s.run.stall else none } }
  else .next s

/-- FRM_WRITE (R20). -/
def execFrmWrite (v : Word) (s : State) : Host.Outcome State Fault Refusal := .next (s.csrWrite 0x001 v)

/-- FNTOL_WRITE (R190). -/
def execFntolWrite (v : Word) (s : State) : Host.Outcome State Fault Refusal := .next (s.csrWrite 0x003 v)

/-- PMSEL_WRITE (R460). -/
def execPmselWrite (v : Word) (s : State) : Host.Outcome State Fault Refusal := .next (s.csrWrite 0x220 v)

/-- CSR_WRITE: a write to a CSR, subject to privilege and to the field rules (R120). -/
def execCsrWrite (c : BitVec 12) (v : Word) (s : State) : Host.Outcome State Fault Refusal :=
  if csrWritePriv c && !s.run.ctx.priv then .next s else .next (s.csrWrite c v)

/-- NON_INSTRUCTION: a fetched word that decode refuses raises ILLOP, or ILLOPD when a register field at bit `bit` is out
of range (R43, R59). -/
def execNonInstruction (w : BitVec 32) (bit : Option (BitVec 8)) (s : State) : Host.Outcome State Fault Refusal :=
  runBody 4 s (fun s => match bit with
    | none => .exc s (.trap cILLOP (zext w))
    | some b => .exc s (illopd w b.toNat))

end Sys2Proof.Machine
end

