-- ==== Sys2Proof/Machine/Tape.lean ====
section
/-!
DEFINITION. Machine/Tape.lean: the tape of the core: entries, room and limit, pushing with spills, popping with refills
(spec/11 R259 to R263).
-/

namespace Sys2Proof.Machine

/-- The sixteen bytes of an entry as a number (R259). -/
def TapeEntry.nat (e : TapeEntry) : Nat :=
  e.addr.toNat + e.size.toNat * 2 ^ 58 + (if e.mark then 1 else 0) * 2 ^ 60 + e.old.toNat * 2 ^ 64

/-- An entry of a number (R259): an entry of a KIND that is never written, which only a store to the tape area can make, is
taken as a mark. Log entry 119 (DESIGN CHOICE). -/
def TapeEntry.of (n : Nat) : TapeEntry where
  old := bitsAt n 64 64
  mark := n / 2 ^ 60 % 16 != 0
  size := bitsAt n 58 2
  addr := bitsAt n 0 56

/-- The virtual address of entry `d` (R260). -/
def State.tapeVa (s : State) (d : Nat) : Word := s.core.tape.ta + word (64 + 16 * d)

/-- The home address of entry `d`, or the fault that the access meets (R262). -/
def State.tapeHome (s : State) (d : Nat) (kind : AccessKind) (need : Need) : Except Exc Nat :=
  match s.translate (s.tapeVa d) kind need with
  | .error e => .error e
  | .ok e => .ok (e.physical (s.tapeVa d))

/-- Replaces the tape. -/
def State.withTape (s : State) (t : Tape) : State := { s with core := { s.core with tape := t } }

/-- TOP (R259), part of the snapshot (R263). -/
def State.top (s : State) : Nat := s.run.ctx.top
/-- Replaces TOP. Log entry 114 (DESIGN CHOICE). -/
def State.withTop (s : State) (n : Nat) : State := s.withCtx { s.run.ctx with top := n }

/-- Writes `n` entries from `d` on to the tape area, past the log (R262); a granule poisoned as a whole is reported (R278, R336).
Log entry 114 (DESIGN CHOICE). -/
def State.spill (s : State) (d : Nat) : Nat → Except Exc State
  | 0 => .ok (s.withTape { s.core.tape with dirty := d })
  | n + 1 =>
    match s.tapeHome d .write needW with
    | .error e => .error e
    | .ok a =>
      match s.granulePoisonCheck a with
      | .error e => .error e
      | .ok _ =>
        match s.core.tape.buf[d - s.core.tape.base]? with
        | none => State.spill s (d + 1) n
        | some e => State.spill (s.putHome a (bytesOf 16 e.nat)) (d + 1) n

/-- Writes every buffered entry below TOP (R258, R263). -/
def State.spillAll (s : State) : Except Exc State := s.spill s.core.tape.dirty (s.top - s.core.tape.dirty)

/-- The last 512 entries of the buffer stay; those before are in memory (R259). -/
def Tape.trim (t : Tape) : Tape :=
  let extra := min (t.buf.length - 512) (t.dirty - t.base)
  { t with buf := t.buf.drop extra, base := t.base + extra }

/-- Spills blocks of 64 while more than 384 entries are not in memory (R262). Log entry 114 (DESIGN CHOICE). -/
def State.spillBlocks (s : State) : Except Exc State :=
  if 384 < s.top - s.core.tape.dirty then s.spill s.core.tape.dirty 64 else .ok s

/-- Pushes an entry at TOP, which the room check has allowed (R261, R264). -/
def State.push (s : State) (e : TapeEntry) : Except Exc State :=
  let t := s.core.tape
  let d := s.top
  let base := if d < t.base then d else t.base
  let buf := (if d < t.base then [] else t.buf.take (d - t.base)) ++ [e]
  let s := (s.withTape ({ t with base := base, buf := buf, dirty := min t.dirty d }.trim)).withTop (d + 1)
  s.spillBlocks

/-- Pushes entries in order. -/
def State.pushAll (s : State) : List TapeEntry → Except Exc State
  | [] => .ok s
  | e :: es => match s.push e with
    | .error x => .error x
    | .ok s => State.pushAll s es

/-- Reads `n` entries from `d` on out of memory (R262). -/
def State.readEntries (s : State) (d : Nat) : Nat → Except Exc (List TapeEntry)
  | 0 => .ok []
  | n + 1 =>
    match s.tapeHome d .read needR with
    | .error e => .error e
    | .ok a =>
      match s.poisonCheck a 16 with
      | .error e => .error e
      | .ok _ => match State.readEntries s (d + 1) n with
        | .error e => .error e
        | .ok es => .ok (TapeEntry.of (s.seenNat a 16) :: es)

/-- Entry `d`: from the buffer, or after a refill of the 64 entries that end with it, or, when it lies further below,
straight from memory (R262). -/
def State.entry (s : State) (d : Nat) : Except Exc (State × TapeEntry) :=
  let t := s.core.tape
  let none' : TapeEntry := ⟨0, false, 0, 0⟩
  if t.base ≤ d && d < t.base + t.buf.length then .ok (s, (t.buf[d - t.base]?).getD none')
  else
    let n := if d + 1 = t.base then min 64 (d + 1) else 1
    match s.readEntries (d + 1 - n) n with
    | .error e => .error e
    | .ok es =>
      let s := if d + 1 = t.base then s.withTape { t with base := d + 1 - n, buf := es ++ t.buf } else s
      .ok (s, (es[n - 1]?).getD none')

/-- Room for `k` entries (R261): when there is too little, LC is read again from the descriptor, as the activation sees it;
then TAPEOVF with the address that `ovf` gives. -/
def State.tapeRoom (s : State) (k : Nat) (ovf : Nat → Word) : Except (State × Exc) State :=
  let fits := fun (lc : Nat) => decide (s.top + k ≤ min lc s.core.tape.lmax)
  if fits s.core.tape.lc then .ok s
  else
    match s.translate s.core.tape.ta .read needR with
    | .error e => .error (s, e)
    | .ok e =>
      let home := e.physical s.core.tape.ta
      match s.loadPoison [(home, 8)] with
      | .error x => .error (s, x)
      | .ok _ =>
        let lc := s.seenNat home 8
        let t := (s.tagRead home 8).withTape { s.core.tape with lc := lc }
        if fits lc then .ok t
        else .error (t, .trap cTAPEOVF (ovf (min lc s.core.tape.lmax - s.top)))

end Sys2Proof.Machine
end

