-- ==== Sys2Proof/Machine/LoadStore.lean ====
section
/-!
DEFINITION. Machine/LoadStore.lean: row 4: scalar loads and stores in every space, `ldf`, and what differentiable pages make
of them (spec/05 R149 to R153; spec/01 R26 to R29, R33; spec/11 R264 to R268, R272).
-/

namespace Sys2Proof.Machine

/-! ### Units (R47) -/

/-- The units of at most 8 bytes of an access: addresses in the space and lengths (R47). -/
def unitsOf (a n : Nat) : List (Nat × Nat) :=
  if n ≤ 8 then [(a, n)] else (List.range (n / 8)).map (fun i => (a + 8 * i, 8))

/-- The home addresses and lengths of an access's units; a swizzle maps each of its own scratchpad (R47). -/
def State.homeUnits (s : State) (l : Loc) (swz n : Nat) : List (Nat × Nat) :=
  match l.space with
  | 1 => (unitsOf l.va.toNat n).map (fun u => (s.spA (swizzle swz u.1), u.2))
  | _ => [(l.home, n)]

/-- The bytes of an access as the activation sees them. -/
def State.unitBytes (s : State) (us : List (Nat × Nat)) : List Byte := us.flatMap (fun u => s.seenBytes u.1 u.2)

/-- What a load leaves in the state, unit by unit (R95, R102, R312). -/
def State.afterUnits (s : State) (l : Loc) (us : List (Nat × Nat)) : State :=
  us.foldl (fun s u => s.afterLoad { l with home := u.1 } (u.1 - s.spA 0) u.2) s

/-- A class of access path stores bytes over the units of an access, which become visible as one (R29, R152). -/
def State.putUnitsKey (c : Nat) (key : Nat → Nat) (s : State) : List (Nat × Nat) → List Byte → State
  | [], _ => s
  | u :: us, bs => State.putUnitsKey c key (s.putAs c u.1 (bs.take u.2) key) us (bs.drop u.2)

/-- A class of access path stores bytes over the units of an access. -/
def State.putUnitsAs (c : Nat) (s : State) (us : List (Nat × Nat)) (bs : List Byte) : State :=
  s.putUnitsKey c (fun _ => (us.headD (0, 0)).1 / 8) us bs

/-- Stores bytes over the units of an access by the core's own path. -/
def State.putUnits (s : State) (us : List (Nat × Nat)) (bs : List Byte) : State := s.putUnitsAs 0 us bs

/-- Writes a loaded value of `n` bytes: sign- or zero-extended, or a pair (R150). -/
def State.writeLoaded (s : State) (d : Reg) (n : Nat) (signed : Bool) (bs : List Byte) : State :=
  let v := natOfBytes bs
  if n = 16 then (s.wr d (word v)).wr (d + 1) (word (v / 2 ^ 64))
  else s.wr d (if signed then (BitVec.ofNat (8 * n) v).signExtend 64 else word v)

/-- The bytes a store of `n` bytes moves (R150). -/
def State.storeValue (s : State) (d : Reg) (n : Nat) : Nat :=
  if n = 16 then (s.rd d).toNat + (s.rd (d + 1)).toNat * 2 ^ 64 else (s.rd d).toNat % 2 ^ (8 * n)

/-! ### Differentiable pages (R264 to R268) -/

/-- ADMODE.MODE (R257). -/
def State.fwd (s : State) : Bool := s.run.ctx.admode == 1
def State.rev (s : State) : Bool := s.run.ctx.admode == 2

/-- Whether an access lies on a differentiable page (R255). -/
def Loc.onAd (l : Loc) : Bool := (l.entry.map (·.ad)).getD false

/-- The element size of the page of an access (R256). -/
def Loc.z (l : Loc) : Nat := fmtSize ((l.entry.map (·.fmt.toNat)).getD 0)

/-- The format of the page of an access. -/
def Loc.fmt (l : Loc) : Nat := (l.entry.map (·.fmt.toNat)).getD 0

/-- The adjoint cell of the element that an access names (R256). -/
def Loc.cell (l : Loc) : Nat := (l.entry.map (fun e => e.cell l.va)).getD 0

/-- log2 of an element size (R259). -/
def log2Size (z : Nat) : BitVec 2 := if z = 8 then 3 else if z = 4 then 2 else if z = 2 then 1 else 0

/-- RoundFP32 of an element of a page's format, without flags (R267). -/
def toFp32 (c n : Nat) : BitVec 32 := BitVec.ofNat 32 (roundF fp32 .rne false (elemVal c n)).1

/-- A reverse load adds `t` into the cell and leaves the register (R267). -/
def reverseLoad (l : Loc) (t : BitVec 32) (s : State) : Res :=
  withS (s.storeRoom [] [l.cell]) (fun s => .ok (s.adjAdd l.cell t))

/-- The poison that reading a cell meets: a cell set in the log is not read at its home (R256, R270). -/
def State.cellPoison (s : State) (c : Nat) : Except Exc Unit :=
  match s.adjAt c with
  | some (.set _) => .ok ()
  | _ => s.poisonCheck c 4

/-- The data entry that a forward store of the element at `va` pushes, with the bytes of the element that its page gives (R264).
Log entry 141 (DESIGN CHOICE). -/
def State.dataEntry (s : State) (l : Loc) (us : List (Nat × Nat)) : TapeEntry :=
  ⟨word (natOfBytes (s.unitBytes us)), false, log2Size l.z, l.va.setWidth 56⟩

/-- Whether the top entry is the data entry of an element (R268). -/
def TapeEntry.isFor (e : TapeEntry) (va : Word) (z : Nat) : Bool :=
  !e.mark && e.addr == va.setWidth 56 && e.size == log2Size z

/-- A reverse store: the old value returns and the adjoint goes to the source register (R268, R272). -/
def reverseStore (d : Reg) (l : Loc) (s : State) : Res :=
  let a := l.va
  if s.top = 0 then .exc s (.trap cADPF a)
  else match s.entry (s.top - 1) with
    | .error x => .exc s x
    | .ok (s1, e) =>
      if !e.isFor a l.z || s.inWindow l.cell then .exc s (.trap cADPF a)
      else
        withE s (s.cellPoison l.cell) (fun _ => withS (s1.storeRoom [l.home] [l.cell]) (fun s =>
          let g := encodeVal l.fmt (modeOfFrm s.run.ctx.frm) false (decodeF fp32 (s.adjRead l.cell).toNat)
          let s := (s.tagRead l.cell 4).adjSet l.cell 0
          let s := (s.wr d (word g.1)).raise g.2
          let s := s.putBytes l.home (bytesOf l.z e.old.toNat)
          .ok (s.withTop (s.top - 1))))

/-! ### Loads and stores (R149 to R151) -/

/-- A scalar load of `n` bytes at `a` in a space (R150, R151); `bad` is what address bits outside the space raise. -/
def loadBody (bad : Exc) (d : Reg) (space swz : Nat) (a : Word) (n : Nat) (signed : Bool) (s : State) : Res :=
  withE s (s.access space a bad n askLoad noCheck noCheck) (fun l =>
    if l.onAd && s.rev then
      if n = l.z then reverseLoad l (toFp32 l.fmt ((s.rd d).toNat % 2 ^ (8 * n))) s
      else .exc s (.trap cADPF a)
    else
      let us := s.homeUnits l swz n
      withE s (s.loadPoison us) (fun _ =>
        .ok ((s.afterUnits l us).writeLoaded d n signed (s.unitBytes us))))

/-- The alignment that a `st.128` needs of its page, checked after translation (R149). -/
def late128 (a : Word) (n : Nat) (e : TlbEntry) : Except Exc Unit :=
  if n = 16 then need (a.toNat % (if e.fmt == 6 then 4 else 16) == 0) (.trap cALIGN a) else .ok ()

/-- The format rules of a scalar store of `v` (R28, R30): E2M1 takes only block records, BFP24 none. -/
def storeFmt (a : Word) (n v : Nat) (e : TlbEntry) : Except Exc Unit :=
  if e.fmt = 6 then need (n == 16 && decide (v < 2 ^ 40)) (.trap cFMTF a)
  else need (e.fmt != 14) (.trap cFMTF a)

/-- A block record: the elements go to A and the scale to its frame byte (R28). -/
def storeBlock (l : Loc) (v : Nat) (s : State) : Res :=
  let f := (l.entry.map (fun e => e.frameByte (l.va.toNat % 65536 / 4))).getD 0
  withS (s.storeRoom [l.home, f] []) (fun s =>
    .ok ((s.putBytes l.home (bytesOf 4 v)).putBytes f (bytesOf 1 (v / 2 ^ 32))))

/-- A forward store of one element: its old bytes are read and go on the tape first (R261, R264). -/
def forwardStore (l : Loc) (n v : Nat) (s : State) : Res :=
  withS (s.tapeRoom 1 (fun _ => l.va)) (fun s => withE s (s.loadPoison [(l.home, n)]) (fun _ =>
    withS (s.storeRoom [l.home] []) (fun s =>
      withE s (s.push (s.dataEntry l [(l.home, n)])) (fun s =>
        .ok ((s.tagRead l.home n).putBytes l.home (bytesOf n v))))))

/-- A scalar store of `n` bytes at `a` in a space (R150, R151). -/
def storeBody (bad : Exc) (d : Reg) (space swz : Nat) (a : Word) (n : Nat) (s : State) : Res :=
  let v := s.storeValue d n
  let align := if n = 16 && space = 0 then 1 else n
  withE s (s.access space a bad align askStore (late128 a n) (storeFmt a n v)) (fun l =>
    if l.fmt = 6 && l.space = 0 then storeBlock l v s
    else if l.onAd && s.rev then (if n = l.z then reverseStore d l s else .exc s (.trap cADPF a))
    else if l.onAd && s.fwd then (if n = l.z then forwardStore l n v s else .exc s (.trap cADPF a))
    else
      let us := s.homeUnits l swz n
      withS (s.storeRoom (us.map (·.1)) []) (fun s => .ok (s.putUnits us (bytesOf n v))))

/-! ### ldf (R153) -/

/-- The alignment that `ldf` needs of a page's format (R153). -/
def ldfAlign (a : Word) (e : TlbEntry) : Except Exc Unit :=
  let f := e.fmt.toNat
  let ok := if f = 6 then true
    else if f = 14 then a.toNat % 64 % 3 == 0 && decide (a.toNat % 64 < 48)
    else if fmtSize f = 0 || f = 12 then true
    else a.toNat % fmtSize f == 0
  need ok (.trap cALIGN a)

/-- The formats that `ldf` decodes (R153). -/
def ldfFmt (a : Word) (e : TlbEntry) : Except Exc Unit := need (e.fmt != 0 && e.fmt != 12) (.trap cFMTF a)

/-- The home addresses of the scale byte and of the band scale of the block that holds byte `va` of an E2M1 page (R26). -/
def TlbEntry.scaleByte (e : TlbEntry) (va : Word) : Nat := e.frameByte (va.toNat % 65536 / 4)
def TlbEntry.bandByte (e : TlbEntry) (va : Word) : Nat :=
  e.frameByte (16384 + 2 * (va.toNat % 65536 / 4 / 2 ^ e.g.toNat / 64))

/-- The value of a 4-bit element at `va` of an E2M1 page (R27). -/
def State.e2m1At (s : State) (e : TlbEntry) (va : Word) (nibble : Nat) : FVal :=
  e2m1Element nibble (s.seenNat (e.scaleByte va) 1) (decodeF bf16 (s.seenNat (e.bandByte va) 2))

/-- The value that `ldf` writes, with its flags (R153). -/
def State.ldfValue (s : State) (l : Loc) (e : TlbEntry) : Nat × Flags :=
  let a := l.va
  if e.fmt = 6 then
    let b := s.seenNat l.home 1
    let lo := roundF fp32 .rne false (s.e2m1At e a (b % 16))
    let hi := roundF fp32 .rne false (s.e2m1At e a (b / 16))
    (lo.1 + hi.1 * 2 ^ 32, lo.2 ||| hi.2)
  else if e.fmt = 14 then
    roundF fp32 .rne false (bfp24Element (s.seenNat (l.home / 64 * 64) 64) (a.toNat % 64 / 3))
  else roundF fp32 .rne false (elemVal e.fmt.toNat (s.seenNat l.home (fmtSize e.fmt.toNat)))

/-- The bytes that `ldf` reads: the element or its block, and a scale frame's bytes. -/
def ldfReads (l : Loc) (e : TlbEntry) : List (Nat × Nat) :=
  if e.fmt = 6 then [(l.home, 1), (e.scaleByte l.va, 1), (e.bandByte l.va, 2)]
  else if e.fmt = 14 then [(l.home / 64 * 64, 64)]
  else [(l.home, fmtSize e.fmt.toNat)]

/-- `ldf` (R153); on a differentiable page in REV it is a reverse load (R267). -/
def ldfBody (bad : Exc) (d : Reg) (a : Word) (s : State) : Res :=
  withE s (s.access 0 a bad 1 askLoad (ldfAlign a) (ldfFmt a)) (fun l =>
    if l.onAd && s.rev then reverseLoad l ((s.rd d).setWidth 32) s
    else match l.entry with
      | none => .ok s
      | some e =>
        withE s (s.loadPoison (ldfReads l e)) (fun _ =>
          let r := s.ldfValue l e
          let s := (ldfReads l e).foldl (fun s u => s.afterLoad { l with home := u.1 } 0 u.2) s
          .ok ((s.wr d (word r.1)).raise r.2)))

/-! ### Instructions -/

/-- `ld.s8` with IMM9 (R46, R150). -/
def execLdS8 (d a : Reg) (i : BitVec 9) (s : State) : Host.Outcome State Fault Refusal :=
  runBody 4 s (fun s => loadBody (illopd (rri 0 0x080 i a d) 17) d 0 0 (s.rd a + sext i) 1 true s)

/-- `ld.s8` with a literal (R46). -/
def execLdS8Lit (d a : Reg) (l : Word) (s : State) : Host.Outcome State Fault Refusal :=
  runBody 12 s (fun s => loadBody (illopd (rri 1 0x080 0 a d) 17) d 0 0 (s.rd a + l) 1 true s)

/-- `ld.s8` in the extended form (R44 to R47). -/
def execLdS8Ext (d base : Reg) (space : BitVec 2) (swz : BitVec 3) (off : BitVec 21) (s : State) :
    Host.Outcome State Fault Refusal :=
  runBody 12 s (fun s => loadBody (illopdH (rrr 2 0x080 0 0 0 d)) d space.toNat swz.toNat (s.rd base + sext off) 1 true s)

/-- `ld.s8` in the extended form with a literal (R44 to R47). -/
def execLdS8ExtLit (d base : Reg) (space : BitVec 2) (swz : BitVec 3) (l : Word) (s : State) :
    Host.Outcome State Fault Refusal :=
  runBody 20 s (fun s => loadBody (illopdH (rrr 3 0x080 0 0 0 d)) d space.toNat swz.toNat (s.rd base + l) 1 true s)

/-- `ld.z8` with IMM9 (R46, R150). -/
def execLdZ8 (d a : Reg) (i : BitVec 9) (s : State) : Host.Outcome State Fault Refusal :=
  runBody 4 s (fun s => loadBody (illopd (rri 0 0x081 i a d) 17) d 0 0 (s.rd a + sext i) 1 false s)

/-- `ld.z8` with a literal (R46). -/
def execLdZ8Lit (d a : Reg) (l : Word) (s : State) : Host.Outcome State Fault Refusal :=
  runBody 12 s (fun s => loadBody (illopd (rri 1 0x081 0 a d) 17) d 0 0 (s.rd a + l) 1 false s)

/-- `ld.z8` in the extended form (R44 to R47). -/
def execLdZ8Ext (d base : Reg) (space : BitVec 2) (swz : BitVec 3) (off : BitVec 21) (s : State) :
    Host.Outcome State Fault Refusal :=
  runBody 12 s (fun s => loadBody (illopdH (rrr 2 0x081 0 0 0 d)) d space.toNat swz.toNat (s.rd base + sext off) 1 false s)

/-- `ld.z8` in the extended form with a literal (R44 to R47). -/
def execLdZ8ExtLit (d base : Reg) (space : BitVec 2) (swz : BitVec 3) (l : Word) (s : State) :
    Host.Outcome State Fault Refusal :=
  runBody 20 s (fun s => loadBody (illopdH (rrr 3 0x081 0 0 0 d)) d space.toNat swz.toNat (s.rd base + l) 1 false s)

/-- `ld.s16` with IMM9 (R46, R150). -/
def execLdS16 (d a : Reg) (i : BitVec 9) (s : State) : Host.Outcome State Fault Refusal :=
  runBody 4 s (fun s => loadBody (illopd (rri 0 0x082 i a d) 17) d 0 0 (s.rd a + sext i) 2 true s)

/-- `ld.s16` with a literal (R46). -/
def execLdS16Lit (d a : Reg) (l : Word) (s : State) : Host.Outcome State Fault Refusal :=
  runBody 12 s (fun s => loadBody (illopd (rri 1 0x082 0 a d) 17) d 0 0 (s.rd a + l) 2 true s)

/-- `ld.s16` in the extended form (R44 to R47). -/
def execLdS16Ext (d base : Reg) (space : BitVec 2) (swz : BitVec 3) (off : BitVec 21) (s : State) :
    Host.Outcome State Fault Refusal :=
  runBody 12 s (fun s => loadBody (illopdH (rrr 2 0x082 0 0 0 d)) d space.toNat swz.toNat (s.rd base + sext off) 2 true s)

/-- `ld.s16` in the extended form with a literal (R44 to R47). -/
def execLdS16ExtLit (d base : Reg) (space : BitVec 2) (swz : BitVec 3) (l : Word) (s : State) :
    Host.Outcome State Fault Refusal :=
  runBody 20 s (fun s => loadBody (illopdH (rrr 3 0x082 0 0 0 d)) d space.toNat swz.toNat (s.rd base + l) 2 true s)

/-- `ld.z16` with IMM9 (R46, R150). -/
def execLdZ16 (d a : Reg) (i : BitVec 9) (s : State) : Host.Outcome State Fault Refusal :=
  runBody 4 s (fun s => loadBody (illopd (rri 0 0x083 i a d) 17) d 0 0 (s.rd a + sext i) 2 false s)

/-- `ld.z16` with a literal (R46). -/
def execLdZ16Lit (d a : Reg) (l : Word) (s : State) : Host.Outcome State Fault Refusal :=
  runBody 12 s (fun s => loadBody (illopd (rri 1 0x083 0 a d) 17) d 0 0 (s.rd a + l) 2 false s)

/-- `ld.z16` in the extended form (R44 to R47). -/
def execLdZ16Ext (d base : Reg) (space : BitVec 2) (swz : BitVec 3) (off : BitVec 21) (s : State) :
    Host.Outcome State Fault Refusal :=
  runBody 12 s (fun s => loadBody (illopdH (rrr 2 0x083 0 0 0 d)) d space.toNat swz.toNat (s.rd base + sext off) 2 false s)

/-- `ld.z16` in the extended form with a literal (R44 to R47). -/
def execLdZ16ExtLit (d base : Reg) (space : BitVec 2) (swz : BitVec 3) (l : Word) (s : State) :
    Host.Outcome State Fault Refusal :=
  runBody 20 s (fun s => loadBody (illopdH (rrr 3 0x083 0 0 0 d)) d space.toNat swz.toNat (s.rd base + l) 2 false s)

/-- `ld.s32` with IMM9 (R46, R150). -/
def execLdS32 (d a : Reg) (i : BitVec 9) (s : State) : Host.Outcome State Fault Refusal :=
  runBody 4 s (fun s => loadBody (illopd (rri 0 0x084 i a d) 17) d 0 0 (s.rd a + sext i) 4 true s)

/-- `ld.s32` with a literal (R46). -/
def execLdS32Lit (d a : Reg) (l : Word) (s : State) : Host.Outcome State Fault Refusal :=
  runBody 12 s (fun s => loadBody (illopd (rri 1 0x084 0 a d) 17) d 0 0 (s.rd a + l) 4 true s)

/-- `ld.s32` in the extended form (R44 to R47). -/
def execLdS32Ext (d base : Reg) (space : BitVec 2) (swz : BitVec 3) (off : BitVec 21) (s : State) :
    Host.Outcome State Fault Refusal :=
  runBody 12 s (fun s => loadBody (illopdH (rrr 2 0x084 0 0 0 d)) d space.toNat swz.toNat (s.rd base + sext off) 4 true s)

/-- `ld.s32` in the extended form with a literal (R44 to R47). -/
def execLdS32ExtLit (d base : Reg) (space : BitVec 2) (swz : BitVec 3) (l : Word) (s : State) :
    Host.Outcome State Fault Refusal :=
  runBody 20 s (fun s => loadBody (illopdH (rrr 3 0x084 0 0 0 d)) d space.toNat swz.toNat (s.rd base + l) 4 true s)

/-- `ld.z32` with IMM9 (R46, R150). -/
def execLdZ32 (d a : Reg) (i : BitVec 9) (s : State) : Host.Outcome State Fault Refusal :=
  runBody 4 s (fun s => loadBody (illopd (rri 0 0x085 i a d) 17) d 0 0 (s.rd a + sext i) 4 false s)

/-- `ld.z32` with a literal (R46). -/
def execLdZ32Lit (d a : Reg) (l : Word) (s : State) : Host.Outcome State Fault Refusal :=
  runBody 12 s (fun s => loadBody (illopd (rri 1 0x085 0 a d) 17) d 0 0 (s.rd a + l) 4 false s)

/-- `ld.z32` in the extended form (R44 to R47). -/
def execLdZ32Ext (d base : Reg) (space : BitVec 2) (swz : BitVec 3) (off : BitVec 21) (s : State) :
    Host.Outcome State Fault Refusal :=
  runBody 12 s (fun s => loadBody (illopdH (rrr 2 0x085 0 0 0 d)) d space.toNat swz.toNat (s.rd base + sext off) 4 false s)

/-- `ld.z32` in the extended form with a literal (R44 to R47). -/
def execLdZ32ExtLit (d base : Reg) (space : BitVec 2) (swz : BitVec 3) (l : Word) (s : State) :
    Host.Outcome State Fault Refusal :=
  runBody 20 s (fun s => loadBody (illopdH (rrr 3 0x085 0 0 0 d)) d space.toNat swz.toNat (s.rd base + l) 4 false s)

/-- `ld.64` with IMM9 (R46, R150). -/
def execLd64 (d a : Reg) (i : BitVec 9) (s : State) : Host.Outcome State Fault Refusal :=
  runBody 4 s (fun s => loadBody (illopd (rri 0 0x086 i a d) 17) d 0 0 (s.rd a + sext i) 8 false s)

/-- `ld.64` with a literal (R46). -/
def execLd64Lit (d a : Reg) (l : Word) (s : State) : Host.Outcome State Fault Refusal :=
  runBody 12 s (fun s => loadBody (illopd (rri 1 0x086 0 a d) 17) d 0 0 (s.rd a + l) 8 false s)

/-- `ld.64` in the extended form (R44 to R47). -/
def execLd64Ext (d base : Reg) (space : BitVec 2) (swz : BitVec 3) (off : BitVec 21) (s : State) :
    Host.Outcome State Fault Refusal :=
  runBody 12 s (fun s => loadBody (illopdH (rrr 2 0x086 0 0 0 d)) d space.toNat swz.toNat (s.rd base + sext off) 8 false s)

/-- `ld.64` in the extended form with a literal (R44 to R47). -/
def execLd64ExtLit (d base : Reg) (space : BitVec 2) (swz : BitVec 3) (l : Word) (s : State) :
    Host.Outcome State Fault Refusal :=
  runBody 20 s (fun s => loadBody (illopdH (rrr 3 0x086 0 0 0 d)) d space.toNat swz.toNat (s.rd base + l) 8 false s)

/-- `ld.128` with IMM9 (R46, R150). -/
def execLd128 (d a : Reg) (i : BitVec 9) (s : State) : Host.Outcome State Fault Refusal :=
  runBody 4 s (fun s => loadBody (illopd (rri 0 0x087 i a d) 17) d 0 0 (s.rd a + sext i) 16 false s)

/-- `ld.128` with a literal (R46). -/
def execLd128Lit (d a : Reg) (l : Word) (s : State) : Host.Outcome State Fault Refusal :=
  runBody 12 s (fun s => loadBody (illopd (rri 1 0x087 0 a d) 17) d 0 0 (s.rd a + l) 16 false s)

/-- `ld.128` in the extended form (R44 to R47). -/
def execLd128Ext (d base : Reg) (space : BitVec 2) (swz : BitVec 3) (off : BitVec 21) (s : State) :
    Host.Outcome State Fault Refusal :=
  runBody 12 s (fun s => loadBody (illopdH (rrr 2 0x087 0 0 0 d)) d space.toNat swz.toNat (s.rd base + sext off) 16 false s)

/-- `ld.128` in the extended form with a literal (R44 to R47). -/
def execLd128ExtLit (d base : Reg) (space : BitVec 2) (swz : BitVec 3) (l : Word) (s : State) :
    Host.Outcome State Fault Refusal :=
  runBody 20 s (fun s => loadBody (illopdH (rrr 3 0x087 0 0 0 d)) d space.toNat swz.toNat (s.rd base + l) 16 false s)

/-- `st.8` with IMM9 (R46, R150). -/
def execSt8 (d a : Reg) (i : BitVec 9) (s : State) : Host.Outcome State Fault Refusal :=
  runBody 4 s (fun s => storeBody (illopd (rri 0 0x088 i a d) 17) d 0 0 (s.rd a + sext i) 1 s)

/-- `st.8` with a literal (R46). -/
def execSt8Lit (d a : Reg) (l : Word) (s : State) : Host.Outcome State Fault Refusal :=
  runBody 12 s (fun s => storeBody (illopd (rri 1 0x088 0 a d) 17) d 0 0 (s.rd a + l) 1 s)

/-- `st.8` in the extended form (R44 to R47). -/
def execSt8Ext (d base : Reg) (space : BitVec 2) (swz : BitVec 3) (off : BitVec 21) (s : State) :
    Host.Outcome State Fault Refusal :=
  runBody 12 s (fun s => storeBody (illopdH (rrr 2 0x088 0 0 0 d)) d space.toNat swz.toNat (s.rd base + sext off) 1 s)

/-- `st.8` in the extended form with a literal (R44 to R47). -/
def execSt8ExtLit (d base : Reg) (space : BitVec 2) (swz : BitVec 3) (l : Word) (s : State) :
    Host.Outcome State Fault Refusal :=
  runBody 20 s (fun s => storeBody (illopdH (rrr 3 0x088 0 0 0 d)) d space.toNat swz.toNat (s.rd base + l) 1 s)

/-- `st.16` with IMM9 (R46, R150). -/
def execSt16 (d a : Reg) (i : BitVec 9) (s : State) : Host.Outcome State Fault Refusal :=
  runBody 4 s (fun s => storeBody (illopd (rri 0 0x089 i a d) 17) d 0 0 (s.rd a + sext i) 2 s)

/-- `st.16` with a literal (R46). -/
def execSt16Lit (d a : Reg) (l : Word) (s : State) : Host.Outcome State Fault Refusal :=
  runBody 12 s (fun s => storeBody (illopd (rri 1 0x089 0 a d) 17) d 0 0 (s.rd a + l) 2 s)

/-- `st.16` in the extended form (R44 to R47). -/
def execSt16Ext (d base : Reg) (space : BitVec 2) (swz : BitVec 3) (off : BitVec 21) (s : State) :
    Host.Outcome State Fault Refusal :=
  runBody 12 s (fun s => storeBody (illopdH (rrr 2 0x089 0 0 0 d)) d space.toNat swz.toNat (s.rd base + sext off) 2 s)

/-- `st.16` in the extended form with a literal (R44 to R47). -/
def execSt16ExtLit (d base : Reg) (space : BitVec 2) (swz : BitVec 3) (l : Word) (s : State) :
    Host.Outcome State Fault Refusal :=
  runBody 20 s (fun s => storeBody (illopdH (rrr 3 0x089 0 0 0 d)) d space.toNat swz.toNat (s.rd base + l) 2 s)

/-- `st.32` with IMM9 (R46, R150). -/
def execSt32 (d a : Reg) (i : BitVec 9) (s : State) : Host.Outcome State Fault Refusal :=
  runBody 4 s (fun s => storeBody (illopd (rri 0 0x08A i a d) 17) d 0 0 (s.rd a + sext i) 4 s)

/-- `st.32` with a literal (R46). -/
def execSt32Lit (d a : Reg) (l : Word) (s : State) : Host.Outcome State Fault Refusal :=
  runBody 12 s (fun s => storeBody (illopd (rri 1 0x08A 0 a d) 17) d 0 0 (s.rd a + l) 4 s)

/-- `st.32` in the extended form (R44 to R47). -/
def execSt32Ext (d base : Reg) (space : BitVec 2) (swz : BitVec 3) (off : BitVec 21) (s : State) :
    Host.Outcome State Fault Refusal :=
  runBody 12 s (fun s => storeBody (illopdH (rrr 2 0x08A 0 0 0 d)) d space.toNat swz.toNat (s.rd base + sext off) 4 s)

/-- `st.32` in the extended form with a literal (R44 to R47). -/
def execSt32ExtLit (d base : Reg) (space : BitVec 2) (swz : BitVec 3) (l : Word) (s : State) :
    Host.Outcome State Fault Refusal :=
  runBody 20 s (fun s => storeBody (illopdH (rrr 3 0x08A 0 0 0 d)) d space.toNat swz.toNat (s.rd base + l) 4 s)

/-- `st.64` with IMM9 (R46, R150). -/
def execSt64 (d a : Reg) (i : BitVec 9) (s : State) : Host.Outcome State Fault Refusal :=
  runBody 4 s (fun s => storeBody (illopd (rri 0 0x08B i a d) 17) d 0 0 (s.rd a + sext i) 8 s)

/-- `st.64` with a literal (R46). -/
def execSt64Lit (d a : Reg) (l : Word) (s : State) : Host.Outcome State Fault Refusal :=
  runBody 12 s (fun s => storeBody (illopd (rri 1 0x08B 0 a d) 17) d 0 0 (s.rd a + l) 8 s)

/-- `st.64` in the extended form (R44 to R47). -/
def execSt64Ext (d base : Reg) (space : BitVec 2) (swz : BitVec 3) (off : BitVec 21) (s : State) :
    Host.Outcome State Fault Refusal :=
  runBody 12 s (fun s => storeBody (illopdH (rrr 2 0x08B 0 0 0 d)) d space.toNat swz.toNat (s.rd base + sext off) 8 s)

/-- `st.64` in the extended form with a literal (R44 to R47). -/
def execSt64ExtLit (d base : Reg) (space : BitVec 2) (swz : BitVec 3) (l : Word) (s : State) :
    Host.Outcome State Fault Refusal :=
  runBody 20 s (fun s => storeBody (illopdH (rrr 3 0x08B 0 0 0 d)) d space.toNat swz.toNat (s.rd base + l) 8 s)

/-- `st.128` with IMM9 (R46, R150). -/
def execSt128 (d a : Reg) (i : BitVec 9) (s : State) : Host.Outcome State Fault Refusal :=
  runBody 4 s (fun s => storeBody (illopd (rri 0 0x08C i a d) 17) d 0 0 (s.rd a + sext i) 16 s)

/-- `st.128` with a literal (R46). -/
def execSt128Lit (d a : Reg) (l : Word) (s : State) : Host.Outcome State Fault Refusal :=
  runBody 12 s (fun s => storeBody (illopd (rri 1 0x08C 0 a d) 17) d 0 0 (s.rd a + l) 16 s)

/-- `st.128` in the extended form (R44 to R47). -/
def execSt128Ext (d base : Reg) (space : BitVec 2) (swz : BitVec 3) (off : BitVec 21) (s : State) :
    Host.Outcome State Fault Refusal :=
  runBody 12 s (fun s => storeBody (illopdH (rrr 2 0x08C 0 0 0 d)) d space.toNat swz.toNat (s.rd base + sext off) 16 s)

/-- `st.128` in the extended form with a literal (R44 to R47). -/
def execSt128ExtLit (d base : Reg) (space : BitVec 2) (swz : BitVec 3) (l : Word) (s : State) :
    Host.Outcome State Fault Refusal :=
  runBody 20 s (fun s => storeBody (illopdH (rrr 3 0x08C 0 0 0 d)) d space.toNat swz.toNat (s.rd base + l) 16 s)

/-- `ldf` (R153). -/
def execLdf (d a : Reg) (i : BitVec 9) (s : State) : Host.Outcome State Fault Refusal :=
  runBody 4 s (fun s => ldfBody (illopd (rri 0 0x08D i a d) 17) d (s.rd a + sext i) s)

/-- `lds.s8` (R149, R150). -/
def execLdsS8 (d a : Reg) (i : BitVec 9) (s : State) : Host.Outcome State Fault Refusal :=
  runBody 4 s (fun s => loadBody (illopd (rri 0 0x08E i a d) 17) d 1 0 (s.rd a + sext i) 1 true s)

/-- `lds.z8` (R149, R150). -/
def execLdsZ8 (d a : Reg) (i : BitVec 9) (s : State) : Host.Outcome State Fault Refusal :=
  runBody 4 s (fun s => loadBody (illopd (rri 0 0x08F i a d) 17) d 1 0 (s.rd a + sext i) 1 false s)

/-- `lds.s16` (R149, R150). -/
def execLdsS16 (d a : Reg) (i : BitVec 9) (s : State) : Host.Outcome State Fault Refusal :=
  runBody 4 s (fun s => loadBody (illopd (rri 0 0x090 i a d) 17) d 1 0 (s.rd a + sext i) 2 true s)

/-- `lds.z16` (R149, R150). -/
def execLdsZ16 (d a : Reg) (i : BitVec 9) (s : State) : Host.Outcome State Fault Refusal :=
  runBody 4 s (fun s => loadBody (illopd (rri 0 0x091 i a d) 17) d 1 0 (s.rd a + sext i) 2 false s)

/-- `lds.s32` (R149, R150). -/
def execLdsS32 (d a : Reg) (i : BitVec 9) (s : State) : Host.Outcome State Fault Refusal :=
  runBody 4 s (fun s => loadBody (illopd (rri 0 0x092 i a d) 17) d 1 0 (s.rd a + sext i) 4 true s)

/-- `lds.z32` (R149, R150). -/
def execLdsZ32 (d a : Reg) (i : BitVec 9) (s : State) : Host.Outcome State Fault Refusal :=
  runBody 4 s (fun s => loadBody (illopd (rri 0 0x093 i a d) 17) d 1 0 (s.rd a + sext i) 4 false s)

/-- `lds.64` (R149, R150). -/
def execLds64 (d a : Reg) (i : BitVec 9) (s : State) : Host.Outcome State Fault Refusal :=
  runBody 4 s (fun s => loadBody (illopd (rri 0 0x094 i a d) 17) d 1 0 (s.rd a + sext i) 8 false s)

/-- `sts.8` (R149, R150). -/
def execSts8 (d a : Reg) (i : BitVec 9) (s : State) : Host.Outcome State Fault Refusal :=
  runBody 4 s (fun s => storeBody (illopd (rri 0 0x095 i a d) 17) d 1 0 (s.rd a + sext i) 1 s)

/-- `sts.16` (R149, R150). -/
def execSts16 (d a : Reg) (i : BitVec 9) (s : State) : Host.Outcome State Fault Refusal :=
  runBody 4 s (fun s => storeBody (illopd (rri 0 0x096 i a d) 17) d 1 0 (s.rd a + sext i) 2 s)

/-- `sts.32` (R149, R150). -/
def execSts32 (d a : Reg) (i : BitVec 9) (s : State) : Host.Outcome State Fault Refusal :=
  runBody 4 s (fun s => storeBody (illopd (rri 0 0x097 i a d) 17) d 1 0 (s.rd a + sext i) 4 s)

/-- `sts.64` (R149, R150). -/
def execSts64 (d a : Reg) (i : BitVec 9) (s : State) : Host.Outcome State Fault Refusal :=
  runBody 4 s (fun s => storeBody (illopd (rri 0 0x098 i a d) 17) d 1 0 (s.rd a + sext i) 8 s)

end Sys2Proof.Machine
end

