-- ==== Sys2Proof/Machine/Operands.lean ====
section
/-!
DEFINITION. Machine/Operands.lean: handles and their fields (spec/02 R52 to R54; spec/06 R164 to R168), the elements of a
vector operand with their checks (R33, R126, R157, R158, R160), and reading and writing them.
-/

namespace Sys2Proof.Machine

/-! ### Handle fields (R52) -/

/-- BASE. -/
def hBase (h : BitVec 256) : Word := h.setWidth 64
/-- SPACE. -/
def hSpace (h : BitVec 256) : Nat := fieldOf h 64 2
/-- KIND. -/
def hKind (h : BitVec 256) : Nat := fieldOf h 68 4
/-- FMT. -/
def hFmt (h : BitVec 256) : Nat := fieldOf h 72 4
/-- SWZ. -/
def hSwz (h : BitVec 256) : Nat := fieldOf h 76 3
/-- The rank, 1 to 4. -/
def hRank (h : BitVec 256) : Nat := fieldOf h 80 2 + 1
/-- DIMi. -/
def hDim (h : BitVec 256) (i : Nat) : Nat := fieldOf h (88 + 16 * i) 16
/-- STRIDEi. -/
def hStride (h : BitVec 256) (i : Nat) : Nat := fieldOf h (152 + 16 * i) 16
/-- TID. -/
def hTid (h : BitVec 256) : BitVec 32 := h.extractLsb' 216 32
/-- CAP of a ring. -/
def hCap (h : BitVec 256) : Nat := fieldOf h 216 12
/-- PROD of a ring. -/
def hProd (h : BitVec 256) : Nat := fieldOf h 228 14
/-- CONS of a ring. -/
def hCons (h : BitVec 256) : Nat := fieldOf h 242 14
/-- filled (R168). -/
def hFilled (h : BitVec 256) : Nat := (hProd h + 16384 - hCons h) % 16384
/-- free (R168). -/
def hFree (h : BitVec 256) : Nat := hCap h - hFilled h

/-- Replaces a field of a handle. -/
def setField (h : BitVec 256) (lo w v : Nat) : BitVec 256 :=
  BitVec.ofNat 256 (h.toNat - fieldOf h lo w * 2 ^ lo + v % 2 ^ w * 2 ^ lo)
/-- Adds to PROD modulo 16,384. Log entry 44 (DEDUCED). -/
def addProd (h : BitVec 256) (n : Nat) : BitVec 256 := setField h 228 14 (hProd h + n)
/-- Adds to CONS modulo 16,384. Log entry 44 (DEDUCED). -/
def addCons (h : BitVec 256) (n : Nat) : BitVec 256 := setField h 242 14 (hCons h + n)

/-- The dimensions and strides of a tensor, as many as its rank. -/
def hDims (h : BitVec 256) : List Nat := (List.range (hRank h)).map (hDim h)
def hStrides (h : BitVec 256) : List Nat := (List.range (hRank h)).map (hStride h)

/-- The checks of R53 that every use of a handle makes: the kind, FMT 15 and the counts of a ring. -/
def handleOk (h : BitVec 256) (kinds : List Nat) : Bool :=
  kinds.contains (hKind h) && hFmt h != 15 &&
    (hKind h != 1 || (hCap h != 0 && decide (hFilled h ≤ hCap h)))

/-! ### Shapes (R54, R157) -/

/-- What a handle says of its elements: for a ring, the slot that the instruction takes. -/
structure Shape where
  kind : Nat
  n : Nat
  base : Word
  space : Nat
  swz : Nat
  fmt : Nat
  tid : BitVec 32
  dims : List Nat
  strides : List Nat
  slot : Nat
  deriving DecidableEq, Repr

/-- The product of dimensions (R157). -/
def product (l : List Nat) : Nat := l.foldl (· * ·) 1

/-- The shape of a handle used as a source or a destination (R157). -/
def Shape.of (h : BitVec 256) (dst : Bool) : Shape where
  kind := hKind h
  n := if hKind h = 1 then hDim h 0 else product (hDims h)
  base := hBase h
  space := hSpace h
  swz := if hSpace h = 1 then hSwz h else 0
  fmt := hFmt h
  tid := if hKind h = 0 then hTid h else 0
  dims := hDims h
  strides := hStrides h
  slot := if hKind h = 1 then (if dst then hProd h else hCons h) % hCap h else 0

/-- The offset in elements of element `j`, given the dimensions and strides with the last first (R54). -/
def offsetOf : List Nat → List Nat → Nat → Nat
  | d :: ds, t :: ts, j => j % d * t + offsetOf ds ts (j / d)
  | _, _, _ => 0

/-- The offset in elements of element `j` from BASE; the slots of a BFP24 ring are whole lines (R54). Log entry 15 (DEDUCED). -/
def Shape.offset (h : Shape) (f j : Nat) : Nat :=
  if h.kind = 1 then h.slot * (if f = 14 then (h.n + 15) / 16 * 16 else h.n) + j
  else offsetOf h.dims.reverse h.strides.reverse j

/-- The address of the bytes that hold element `j` in a format, before swizzle: the element, its E2M1 block or record, or
its BFP24 line (R54, R157, R158). Log entry 15 (DEDUCED). -/
def Shape.addr (h : Shape) (f j : Nat) : Word :=
  let o := h.offset f j
  h.base + word (if f = 6 then o / 8 * (if h.space = 0 then 4 else 16) else if f = 14 then o / 16 * 64 else o * fmtSize f)

/-- The index of element `j` in its block or line. -/
def Shape.sub (h : Shape) (f j : Nat) : Nat :=
  if f = 6 then h.offset f j % 8 else if f = 14 then h.offset f j % 16 else 0

/-- The rules of R157 and R158 for a handle whose elements lie in blocks. Log entry 12 (DEDUCED). -/
def Shape.blockOk (h : Shape) (f : Nat) : Bool :=
  let flat := h.dims.length == 1 && h.strides.head? == some 1
  if f = 6 then flat && h.n % 8 == 0 && h.base.toNat % (if h.space = 0 then 4 else 16) == 0
  else if f = 14 then flat
  else true

/-- The alignment that an element of a format needs (R157). -/
def fmtAlign (f : Nat) : Nat := if f = 14 then 64 else if fmtSize f = 0 then 1 else fmtSize f

/-! ### Elements -/

/-- A checked element: its place, the units of storage that hold it, and its index in its block. -/
structure Elem where
  loc : Loc
  units : List (Nat × Nat)
  sub : Nat
  deriving DecidableEq, Repr

/-- A checked operand with its resolved format (R33). -/
structure Opnd where
  sh : Shape
  fmt : Nat
  els : List Elem
  deriving DecidableEq, Repr

/-- What an instruction asks of an operand: the access, the formats it names (R158), those it permits, whether it may meet a
differentiable page in REV, and whether it may write pages of BFP24 blocks (R30). -/
structure Want where
  kinds : List Nat
  ask : Ask
  named : Nat → Bool
  permit : Nat → Bool
  adOk : Bool
  blocks : Bool

/-- The bytes of storage of one element of a format, its block or its line. -/
def storeSize (h : Shape) (f : Nat) : Nat :=
  if f = 6 then (if h.space = 0 then 4 else 16) else if f = 14 then 64 else fmtSize f

/-- Handle checks of an operand (R53, R157, R158), before any access. -/
def handleCheck (w : BitVec 32) (h : BitVec 256) (dst : Bool) (x : Want) : Except Exc Unit :=
  need (handleOk h x.kinds && (hFmt h == 0 || (x.named (hFmt h) && (Shape.of h dst).blockOk (hFmt h)))) (illopdH w)

/-- The alignment of an operand whose format its page gives, after translation (R157). Log entry 12 (DEDUCED). -/
def lateAlign (a : Word) (e : TlbEntry) : Except Exc Unit :=
  need (a.toNat % fmtAlign e.fmt.toNat == 0) (.trap cALIGN a)

/-- R33 for an operand: the handle's format, or that of the page that holds BASE. The rules of R157 and R158 for blocks are
judged as soon as the page is known, with the alignment. Log entry 12 (DEDUCED). -/
def State.resolveFmt (s : State) (w : BitVec 32) (h : Shape) (x : Want) : Except Exc Nat :=
  if h.fmt ≠ 0 || h.n = 0 then .ok h.fmt
  else
    match s.access h.space h.base (illopdH w) 1 x.ask
        (fun e => checks [need (h.blockOk e.fmt.toNat) (illopdH w), lateAlign h.base e])
        (fun e => need (e.fmt != 0 && x.named e.fmt.toNat && x.permit e.fmt.toNat) (.trap cFMTF h.base)) with
    | .error e => .error e
    | .ok l =>
      match l.entry with
      | none => .error (.trap cFMTF h.base)
      | some e => .ok e.fmt.toNat

/-- The format rules of R33 and R158 for an element on a page; only who may write BFP24 blocks stores to a page of them (R30).
Log entry 121 (DEDUCED). -/
def fmtRule (h : Shape) (f : Nat) (x : Want) (a : Word) (e : TlbEntry) : Except Exc Unit :=
  need ((if h.fmt = 0 then e.fmt.toNat == f else (f == 6) == (e.fmt == 6)) && x.permit f &&
    (x.ask.cls != .store || e.fmt != 14 || x.blocks)) (.trap cFMTF a)

/-- The checks of R126 for element `j` of an operand whose format is `f` (R160). -/
def State.elemCheck (s : State) (w : BitVec 32) (h : Shape) (f : Nat) (x : Want) (j : Nat) : Except Exc Elem :=
  let a := h.addr f j
  match s.access h.space a (illopdH w) (if h.fmt = 0 then 1 else fmtAlign f) x.ask
      (if h.fmt = 0 then lateAlign a else noCheck) (fmtRule h f x a) with
  | .error e => .error e
  | .ok l =>
    match checks [need (h.space == 0 || x.permit f) (.trap cFMTF a),
        need (x.adOk || !(l.onAd && s.rev)) (.trap cADPF a)] with
    | .error e => .error e
    | .ok _ => .ok ⟨l, s.homeUnits l h.swz (storeSize h f), h.sub f j⟩

/-- Every result of a list, or the first exception. -/
def mapE {α β : Type} (f : α → Except Exc β) : List α → Except Exc (List β)
  | [] => .ok []
  | a :: as => match f a with
    | .error e => .error e
    | .ok b => match mapE f as with
      | .error e => .error e
      | .ok bs => .ok (b :: bs)

/-- An operand with every element checked (R160). -/
def State.operand (s : State) (w : BitVec 32) (h : BitVec 256) (dst : Bool) (x : Want) : Except Exc Opnd :=
  let sh := Shape.of h dst
  match s.resolveFmt w sh x with
  | .error e => .error e
  | .ok f =>
    match mapE (s.elemCheck w sh f x) (List.range sh.n) with
    | .error e => .error e
    | .ok els => .ok ⟨sh, f, els⟩

/-! ### Reading elements (R27, R30, R34) -/

/-- The units that a read of an element touches: its own, and for E2M1 in global memory two pieces of the scale frame. -/
def Opnd.reads (o : Opnd) (e : Elem) : List (Nat × Nat) :=
  match e.loc.entry with
  | some t => if o.fmt = 6 then e.units ++ [(t.scaleByte e.loc.va, 1), (t.bandByte e.loc.va, 2)] else e.units
  | none => e.units

/-- The raw bits of an element, its block or its line. -/
def State.elemRaw (s : State) (e : Elem) : Nat := natOfBytes (s.unitBytes e.units)

/-- The element word and the scale byte of the E2M1 block of an element (R28). -/
def State.blockRaw (s : State) (e : Elem) : Nat × Nat :=
  let r := s.elemRaw e
  match e.loc.entry with
  | some t => (r % 2 ^ 32, s.seenNat (t.scaleByte e.loc.va) 1)
  | none => (r % 2 ^ 32, r / 2 ^ 32 % 256)

/-- The exact value of an element (R27, R30, R34). -/
def State.elemValue (s : State) (o : Opnd) (e : Elem) : FVal :=
  if o.fmt = 6 then
    let b := s.blockRaw e
    let band := match e.loc.entry with
      | some t => decodeF bf16 (s.seenNat (t.bandByte e.loc.va) 2)
      | none => .fin false 1 0
    e2m1Element (b.1 / 16 ^ e.sub % 16) b.2 band
  else if o.fmt = 14 then bfp24Element (s.elemRaw e) e.sub
  else elemVal o.fmt (s.elemRaw e)

/-- An element that does not exist: no operand yields it. -/
def Elem.none : Elem := ⟨⟨0, 0, 0, Option.none⟩, [], 0⟩

/-- Element `j` of an operand. -/
def Opnd.el (o : Opnd) (j : Nat) : Elem := o.els.getD j Elem.none

/-- The exact value of element `j`. -/
def State.val (s : State) (o : Opnd) (j : Nat) : FVal := s.elemValue o (o.el j)

/-- The raw bits of element `j`. -/
def State.raw (s : State) (o : Opnd) (j : Nat) : Nat := s.elemRaw (o.el j)

/-- The check for poison of everything a source operand reads (R126). -/
def State.sourcePoison (s : State) (o : Opnd) : Except Exc Unit :=
  checks (o.els.map (fun e => s.loadPoison (o.reads e)))

/-- What reading an operand leaves: read-set bits, tags, waits for a refreshing bank (R95, R102, R151). -/
def State.readOperand (s : State) (o : Opnd) : State := o.els.foldl (fun s e => s.afterUnits e.loc (o.reads e)) s

/-! ### Writing elements -/

/-- The home addresses of what a destination writes: its units, and the scale bytes of E2M1 blocks (R28). -/
def Opnd.homes (o : Opnd) : List Nat :=
  o.els.flatMap (fun e => e.units.map (·.1) ++ (match e.loc.entry with
    | some t => if o.fmt = 6 then [t.scaleByte e.loc.va] else []
    | none => []))

/-- Stores raw bits over element `j` (R159). -/
def State.putElem (s : State) (o : Opnd) (j raw : Nat) : State :=
  s.putUnits (o.el j).units (bytesOf (fmtSize o.fmt) raw)

/-- Stores a block's element word and scale as one unit; `j` is its first element (R28, R29, R183). Log entry 20 (DEDUCED). -/
def State.putBlock (s : State) (o : Opnd) (j w scale : Nat) : State :=
  let e := o.el j
  match e.loc.entry with
  | some t => (s.putUnits e.units (bytesOf 4 w)).putBytes (t.scaleByte e.loc.va) (bytesOf 1 scale)
  | none => s.putUnits e.units (bytesOf 4 w ++ bytesOf 12 scale)

/-- The rounding mode of element `j` of a destination: RS draws only for a tensor (R18, R159). Log entry 17 (DEDUCED). -/
def State.destMode (s : State) (fn : BitVec 3) (o : Opnd) (j : Nat) : RMode :=
  if o.sh.kind = 0 then s.elemMode fn o.sh.tid j else s.scalarMode fn

/-- Rounds a value into element `j` and stores it; the flags go with it. -/
def State.putVal (s : State) (fn : BitVec 3) (sat : Bool) (o : Opnd) (j : Nat) (v : FVal) : State × Flags :=
  let r := encodeVal o.fmt (s.destMode fn o j) sat v
  (s.putElem o j r.1, r.2)

/-- A loop over elements that threads the state and gathers flags (R159). -/
def eachElem (f : State → Nat → State × Flags) : List Nat → State → Flags → State × Flags
  | [], s, fl => (s, fl)
  | j :: js, s, fl => let r := f s j
    eachElem f js r.1 (fl ||| r.2)

/-- The elements of a destination that lie on differentiable pages (R264). -/
def Opnd.onAd (o : Opnd) : List Elem := o.els.filter (fun e => e.loc.onAd)

/-- The tape room that a destination needs in FWD: TAPEOVF names the first element that does not fit (R261, R264). Log entry
18 (DEDUCED). -/
def State.destTape (s : State) (o : Opnd) : Except (State × Exc) State :=
  let ads := o.onAd
  if s.run.part = 0 && s.fwd && !ads.isEmpty then
    s.tapeRoom ads.length (fun r => (ads.getD r Elem.none).loc.va)
  else .ok s

/-- The elements of a destination whose old values an instruction reads in FWD, for the tape: of each the bytes that an element of
its page has, whatever the handle's format (R33, R264). Log entry 141 (DESIGN CHOICE). -/
def State.oldValues (s : State) (o : Opnd) : Opnd :=
  { o with els := if s.fwd then o.onAd.map (fun e => { e with units := [(e.loc.home, e.loc.z)] }) else [] }

/-- The entries that a destination pushes in FWD, every old value as it stands before the store (R264); an instruction that goes
on after a pre-emption has pushed them already. -/
def State.destEntries (s : State) (o : Opnd) : List TapeEntry :=
  if s.run.part = 0 then (s.oldValues o).els.map (fun e => s.dataEntry e.loc e.units) else []

/-- The rows of R160 about the destination: at most 64 lines outside the scratchpad, and the checkpoints that the log, the
read set and an overlap of destination and sources need; with it, whether a checkpoint follows the instruction. One that goes
on after a pre-emption has taken its own already (R161). -/
def State.destRoom (s : State) (w : BitVec 32) (d : Opnd) (srcs : List Opnd) : Except (State × Exc) (State × Bool) :=
  let homes := d.homes
  let own := linesOf (insertAll (homes.filter s.ownSp) [])
  let out := insertAll ((homes.filter (fun a => !s.ownSp a)).map (· / 64)) []
  let read := srcs.flatMap (fun o => o.els.flatMap (fun e => (o.reads e).map (fun u => u.1 / 64)))
  if Config.logLines < out.length then .error (s, illopdH w)
  else if s.run.part != 0 then .ok (s, own.any read.contains)
  else if own.any read.contains then
    match s.checkpointHere with
    | .error e => .error e
    | .ok s => .ok (s, true)
  else
    match s.storeRoom homes [] with
    | .error e => .error e
    | .ok s => .ok (s, false)

end Sys2Proof.Machine
end

