-- ==== Sys2Proof/Machine/Handle.lean ====
section
/-!
DEFINITION. Machine/Handle.lean: row 8 columns 0 to 8: rings, and the moves of handles (spec/06 R164 to R171).
-/

namespace Sys2Proof.Machine

/-! ### Engagement (R170) -/

/-- Whether a command of the running activation fills ring register `r`: it owns PROD. -/
def State.fills (s : State) (r : Reg) : Bool := s.incomplete.any (fun c => c.ringD == some (r.setWidth 5))
/-- Whether a command of the running activation drains ring register `r`: it owns CONS. -/
def State.drains (s : State) (r : Reg) : Bool := s.incomplete.any (fun c => c.ringA == some (r.setWidth 5))

/-- Writing a whole handle or a field waits while an engine is engaged with the register (R170). -/
def withFree (d : Reg) (s : State) (r : Res) : Res :=
  if s.fills d || s.drains d then .exc s (.wait (.ring (d.setWidth 5) none)) else r

/-! ### Rings (R168, R169) -/

/-- H[D] must be a sound ring and the count must lie between 0 and CAP. Log entry 23 (DEDUCED). -/
def ringCheck (w : BitVec 32) (h : BitVec 256) (m : Word) : Except Exc Unit :=
  checks [need (handleOk h [1]) (illopdH w), need (decide (m.toNat ≤ hCap h)) (illopd w 17)]

/-- Whether the wait of R169 for filled (true) or free slots has ended. -/
def ringDone (h : BitVec 256) (fill : Bool) (m : Nat) : Bool := decide (m ≤ if fill then hFilled h else hFree h)

/-- Whether what a wait on a ring register wants now holds (R169, R170). -/
def State.ringHolds (s : State) (r : BitVec 5) : Option (Bool × Nat) → Bool
  | some g => ringDone (s.rdH (r.setWidth 6)) g.1 g.2
  | none => !(s.fills (r.setWidth 6) || s.drains (r.setWidth 6))

/-- A wait of R169 for filled (true) or free slots: done, waiting for an engaged engine, or ILLOPD when nothing could end it.
Log entry 23 (DEDUCED). -/
def ringWait (w : BitVec 32) (d : Reg) (m : Word) (fill : Bool) (s : State) : Res :=
  withE s (ringCheck w (s.rdH d) m) (fun _ =>
    if ringDone (s.rdH d) fill m.toNat then .ok s
    else if (if fill then s.fills d else s.drains d) then .exc s (.wait (.ring (d.setWidth 5) (some (fill, m.toNat))))
    else .exc s (illopdH w))

/-- Whether a byte of the own scratchpad, at offset `a`, lies in a filled slot of a ring (R47, R54, R168). -/
def inFilled (h : BitVec 256) (a : Nat) : Bool :=
  let size := (Shape.addr { Shape.of h true with slot := 1 } (hFmt h) 0 - hBase h).toNat
  let o := swizzle (hSwz h) a - (hBase h).toNat
  let k := o / size
  hSpace h == 1 && decide ((hBase h).toNat ≤ swizzle (hSwz h) a) && decide (0 < size) && decide (k < hCap h) &&
    decide ((k + hCap h - hCons h % hCap h) % hCap h < hFilled h)

/-- The activation observes the completion of the writes that filled a ring (R162). Log entry 57 (DEDUCED). -/
def State.observeRing (s : State) (h : BitVec 256) : State :=
  let l := (s.die.stale.filter (fun b => inFilled h (b.addr - s.spA 0))).map (fun b => ⟨b.src, b.num, b.since⟩)
  { s with run := { s.run with path := { s.run.path with done := l ++ s.run.path.done } } }

/-- `waitf`: one that completes has observed the writes of the engine that filled the ring (R162). -/
def waitfBody (w : BitVec 32) (d : Reg) (m : Word) (s : State) : Res :=
  match ringWait w d m true s with
  | .ok t => .ok (t.observeRing (t.rdH d))
  | r => r

/-- `waite`. -/
def waiteBody (w : BitVec 32) (d : Reg) (m : Word) (s : State) : Res := ringWait w d m false s

/-- `advp`: it waits while an engine owns PROD (R170), but a count of 0 completes at once (R169). Log entry 124 (DEDUCED). -/
def advpBody (w : BitVec 32) (d : Reg) (m : Word) (s : State) : Res :=
  withE s (ringCheck w (s.rdH d) m) (fun _ =>
    if s.fills d && m != 0 then .exc s (.wait (.ring (d.setWidth 5) none))
    else withE s (need (decide (m.toNat ≤ hFree (s.rdH d))) (illopdH w)) (fun _ =>
      .ok (s.wrH d (addProd (s.rdH d) m.toNat))))

/-- `advc`: it waits while an engine owns CONS (R170), but a count of 0 completes at once (R169). Log entry 124 (DEDUCED). -/
def advcBody (w : BitVec 32) (d : Reg) (m : Word) (s : State) : Res :=
  withE s (ringCheck w (s.rdH d) m) (fun _ =>
    if s.drains d && m != 0 then .exc s (.wait (.ring (d.setWidth 5) none))
    else withE s (need (decide (m.toNat ≤ hFilled (s.rdH d))) (illopdH w)) (fun _ =>
      .ok (s.wrH d (addCons (s.rdH d) m.toNat))))

/-! ### Fields and moves (R165 to R167) -/

/-- The lowest bit and the width of the field that a selector names (R165). -/
def handleField (sel : Nat) : Nat × Nat :=
  if sel = 0 then (0, 64)
  else if sel = 1 then (64, 2)
  else if sel = 2 then (68, 4)
  else if sel = 3 then (72, 4)
  else if sel = 4 then (76, 3)
  else if sel = 5 then (80, 2)
  else if sel < 10 then (88 + 16 * (sel - 6), 16)
  else if sel < 14 then (152 + 16 * (sel - 10), 16)
  else if sel = 14 then (216, 32)
  else if sel = 15 then (216, 12)
  else if sel = 16 then (228, 14)
  else if sel = 17 then (242, 14)
  else (64 * (sel - 18), 64)

/-- The field of a handle that a selector names. -/
def hgetField (h : BitVec 256) (sel : Nat) : Nat := fieldOf h (handleField sel).1 (handleField sel).2

/-- `hset` (R166, R170). -/
def hsetBody (w : BitVec 32) (d : Reg) (sel : Nat) (v : Word) (s : State) : Res :=
  let f := handleField sel
  withE s (need (decide (v.toNat < 2 ^ f.2)) (illopd w 17)) (fun _ =>
    withFree d s (.ok (s.wrH d (setField (s.rdH d) f.1 f.2 v.toNat))))

/-- Row 7 of R126 for `hld` and `hst` (R265). -/
def State.plainAd (s : State) (l : Loc) : Except Exc Unit := need (!(l.onAd && (s.fwd || s.rev))) (.trap cADPF l.va)

/-- `hld` (R167). -/
def hldBody (w : BitVec 32) (d : Reg) (a : Word) (s : State) : Res :=
  withE s (s.access 0 a (illopd w 17) 32 askLoad noCheck noCheck) (fun l =>
    withE s (checks [s.plainAd l, s.loadPoison [(l.home, 32)]]) (fun _ =>
      withFree d s (.ok ((s.afterLoad l 0 32).wrH d (BitVec.ofNat 256 (s.seenNat l.home 32))))))

/-- A page of blocks takes no handle (R28, R30). Log entry 22 (DEDUCED). -/
def noBlocks (a : Word) (e : TlbEntry) : Except Exc Unit := need (e.fmt != 6 && e.fmt != 14) (.trap cFMTF a)

/-- `hst` (R167). Log entry 22 (DEDUCED). -/
def hstBody (w : BitVec 32) (d : Reg) (a : Word) (s : State) : Res :=
  withE s (s.access 0 a (illopd w 17) 32 askStore noCheck (noBlocks a)) (fun l =>
    withE s (s.plainAd l) (fun _ =>
      withS (s.storeRoom [l.home] []) (fun s => .ok (s.putBytes l.home (bytesOf 32 (s.rdH d).toNat)))))

/-! ### Instructions -/

/-- `waitf` (R169). -/
def execWaitf (d a : Reg) (i : BitVec 9) (s : State) : Host.Outcome State Fault Refusal :=
  runBody 4 s (fun s => waitfBody (rri 0 0x100 i a d) d (s.rd a + sext i) s)

/-- `waitf` with a literal (R169). -/
def execWaitfLit (d a : Reg) (l : Word) (s : State) : Host.Outcome State Fault Refusal :=
  runBody 12 s (fun s => waitfBody (rri 1 0x100 0 a d) d (s.rd a + l) s)

/-- `waite` (R169). -/
def execWaite (d a : Reg) (i : BitVec 9) (s : State) : Host.Outcome State Fault Refusal :=
  runBody 4 s (fun s => waiteBody (rri 0 0x101 i a d) d (s.rd a + sext i) s)

/-- `waite` with a literal (R169). -/
def execWaiteLit (d a : Reg) (l : Word) (s : State) : Host.Outcome State Fault Refusal :=
  runBody 12 s (fun s => waiteBody (rri 1 0x101 0 a d) d (s.rd a + l) s)

/-- `advp` (R169). -/
def execAdvp (d a : Reg) (i : BitVec 9) (s : State) : Host.Outcome State Fault Refusal :=
  runBody 4 s (fun s => advpBody (rri 0 0x102 i a d) d (s.rd a + sext i) s)

/-- `advp` with a literal (R169). -/
def execAdvpLit (d a : Reg) (l : Word) (s : State) : Host.Outcome State Fault Refusal :=
  runBody 12 s (fun s => advpBody (rri 1 0x102 0 a d) d (s.rd a + l) s)

/-- `advc` (R169). -/
def execAdvc (d a : Reg) (i : BitVec 9) (s : State) : Host.Outcome State Fault Refusal :=
  runBody 4 s (fun s => advcBody (rri 0 0x103 i a d) d (s.rd a + sext i) s)

/-- `advc` with a literal (R169). -/
def execAdvcLit (d a : Reg) (l : Word) (s : State) : Host.Outcome State Fault Refusal :=
  runBody 12 s (fun s => advcBody (rri 1 0x103 0 a d) d (s.rd a + l) s)

/-- `hset` (R166). -/
def execHset (d a : Reg) (i : BitVec 9) (s : State) : Host.Outcome State Fault Refusal :=
  runBody 4 s (fun s => hsetBody (rri 0 0x104 i a d) d i.toNat (s.rd a) s)

/-- `hget` (R166). -/
def execHget (d a : Reg) (i : BitVec 9) (s : State) : Host.Outcome State Fault Refusal :=
  runBody 4 s (fun s => .ok (s.wr d (word (hgetField (s.rdH a) i.toNat))))

/-- `hmov` (R167). -/
def execHmov (d a : BitVec 5) (s : State) : Host.Outcome State Fault Refusal :=
  runBody 4 s (fun s => withFree (d.setWidth 6) s (.ok (s.wrH (d.setWidth 6) (s.rdH (a.setWidth 6)))))

/-- `hld` (R167). -/
def execHld (d a : Reg) (i : BitVec 9) (s : State) : Host.Outcome State Fault Refusal :=
  runBody 4 s (fun s => hldBody (rri 0 0x107 i a d) d (s.rd a + sext i) s)

/-- `hld` with a literal (R167). -/
def execHldLit (d a : Reg) (l : Word) (s : State) : Host.Outcome State Fault Refusal :=
  runBody 12 s (fun s => hldBody (rri 1 0x107 0 a d) d (s.rd a + l) s)

/-- `hst` (R167). -/
def execHst (d a : Reg) (i : BitVec 9) (s : State) : Host.Outcome State Fault Refusal :=
  runBody 4 s (fun s => hstBody (rri 0 0x108 i a d) d (s.rd a + sext i) s)

/-- `hst` with a literal (R167). -/
def execHstLit (d a : Reg) (l : Word) (s : State) : Host.Outcome State Fault Refusal :=
  runBody 12 s (fun s => hstBody (rri 1 0x108 0 a d) d (s.rd a + l) s)

end Sys2Proof.Machine
end

