-- ==== Sys2Proof/Machine/Vector.lean ====
section
/-!
DEFINITION. Machine/Vector.lean: rows 6 and 7: element-wise arithmetic, reductions, moves, gathers, integers, quantisation
and random bits (spec/06 R157 to R163, R172 to R184; spec/11 R264, R265, R269), with stream operands (spec/12 R286).
-/

namespace Sys2Proof.Machine

/-! ### What instructions ask of their operands (R157, R158) -/

/-- Any format. -/
def anyFmt : Nat → Bool := fun _ => true
/-- The formats that decode to numbers (R158). -/
def numFmt (f : Nat) : Bool := f != 12
/-- The formats that arithmetic writes (R158). -/
def arithFmt (f : Nat) : Bool := f != 6 && f != 12 && f != 14
/-- The five formats of the integer operations (R182). -/
def intFmt (f : Nat) : Bool := f == 7 || f == 8 || f == 9 || f == 10 || f == 11

/-- A source of numbers. -/
def srcWant : Want := ⟨[0, 1], askLoad, anyFmt, numFmt, false, false⟩
/-- A destination of arithmetic. -/
def dstWant : Want := ⟨[0, 1], askStore, anyFmt, arithFmt, false, false⟩
/-- A destination that is read before it is written (R173). -/
def rwWant : Want := ⟨[0, 1], ⟨.write, needRW, .store, true, true, false⟩, anyFmt, arithFmt, false, false⟩
/-- A source that must have an integer format (R176, R180). -/
def intWant : Want := ⟨[0, 1], askLoad, fmtIsInt, numFmt, false, false⟩

/-! ### The common course of a vector instruction (R157, R160) -/

/-- A source with what it is asked, given the destination's format. -/
structure Src where
  h : BitVec 256
  want : Nat → Want

/-- A source that asks the same of every destination. -/
def Src.plain (h : BitVec 256) (w : Want) : Src := ⟨h, fun _ => w⟩

/-- The operands of a vector instruction, every one checked in the order D, A, B (R160): handle checks and counts first
(R157), then D with its tape room (R264), then the sources. -/
def State.vecChecked (s : State) (w : BitVec 32) (d : BitVec 256) (dw : Want) (srcs : List Src)
    (counts : Nat → List Nat → Bool) : Except (State × Exc) (State × Opnd × List Opnd) :=
  let n := (Shape.of d true).n
  match checks (handleCheck w d true dw :: srcs.map (fun x => handleCheck w x.h false (x.want (hFmt d)))) with
  | .error e => .error (s, e)
  | .ok _ =>
    if 262144 < n || !counts n (srcs.map (fun x => (Shape.of x.h false).n)) then .error (s, illopdH w)
    else match s.operand w d true dw with
      | .error e => .error (s, e)
      | .ok o => match s.destTape o with
        | .error e => .error e
        | .ok s1 => match mapE (fun (x : Src) => s.operand w x.h false (x.want o.fmt)) srcs with
          | .error e => .error (s, e)
          | .ok os => .ok (s1, o, os)

/-- The poison that the reads of an instruction meet: of its sources, and of its destination where it reads that, all of it or the
old values for the tape (R126, R264, R336). -/
def State.vecPoison (s : State) (self : Bool) (d : Opnd) (os : List Opnd) : Except Exc Unit :=
  checks ((if self then d else s.oldValues d) :: os |>.map s.sourcePoison)

/-- The checked operands of a vector instruction, none of which reads poison; `self` says that it reads its destination. Log
entry 18 (DEDUCED). -/
def State.vecOperands (s : State) (w : BitVec 32) (d : BitVec 256) (dw : Want) (srcs : List Src)
    (counts : Nat → List Nat → Bool) (self : Bool) : Except (State × Exc) (State × Opnd × List Opnd) :=
  match s.vecChecked w d dw srcs counts with
  | .error e => .error e
  | .ok p => match s.vecPoison self p.2.1 p.2.2 with
    | .error e => .error (s, e)
    | .ok _ => .ok p

/-- Every source has as many elements as the destination (R157). -/
def sameCount (n : Nat) (l : List Nat) : Bool := l.all (· == n)

/-- The bytes of an element as its group counts them: E2M1 and BFP24 elements share bytes (R185). -/
def widthOf (f : Nat) : Nat := if f = 14 then 4 else max 1 (fmtSize f)

/-- The elements of a group: 64 bytes of the widest, at most 32 (R185). -/
def groupOf (d : Opnd) (os : List Opnd) : Nat := min 32 (64 / (d :: os).foldl (fun m o => max m (widthOf o.fmt)) 1)

/-- The end of a vector instruction: its flags (R23), and the checkpoint after it that R160 may ask for. -/
def vecEnd (after : Bool) (stop : Option Nat) (r : State × Flags) : Res :=
  endPart stop (fun s => if after then .okCk s else .ok s) (r.1.raise r.2)

/-- The stores of a vector instruction whose operands are checked: room, the tape (R264), the reads, then `f` for each element of
the groups of `g` that it does (R161). Log entry 11 (DEDUCED). -/
def vecStores (w : BitVec 32) (g : Nat) (d : Opnd) (srcs : List Opnd) (f : State → Nat → State × Flags) (s : State) : Res :=
  withT (s.destRoom w d srcs) (fun p =>
    withE p.1 (p.1.pushAll (p.1.destEntries d)) (fun s =>
      vecEnd p.2 (s.stopPoint g d.sh.n)
        (eachElem f (s.span g d.sh.n) ((s.oldValues d :: srcs).foldl State.readOperand s) 0)))

/-- A vector instruction with a destination: `f` does an element once everything is checked; `self` says that it reads its
destination (R160). Log entry 11 (DEDUCED). -/
def vecBody (w : BitVec 32) (g : Opnd → List Opnd → Nat) (d : BitVec 256) (dw : Want) (srcs : List Src)
    (counts : Nat → List Nat → Bool) (self : Bool) (f : Opnd → List Opnd → State → Nat → State × Flags) (s : State) : Res :=
  withT (s.vecOperands w d dw srcs counts self) (fun p =>
    vecStores w (g p.2.1 p.2.2) p.2.1 (p.2.2 ++ if self then [p.2.1] else []) (f p.2.1 p.2.2) p.1)

/-- The sources of an instruction that writes a scalar register (R157), before anything is read: the first gives the count. -/
def State.vecPlaces (s : State) (w : BitVec 32) (srcs : List (BitVec 256 × Want)) : Except Exc (List Opnd) :=
  let n := (srcs.head?.map (fun x => (Shape.of x.1 false).n)).getD 0
  match checks (srcs.map (fun x => handleCheck w x.1 false x.2)) with
  | .error e => .error e
  | .ok _ =>
    if 262144 < n || !sameCount n (srcs.map (fun x => (Shape.of x.1 false).n)) then .error (illopdH w)
    else mapE (fun (x : BitVec 256 × Want) => s.operand w x.1 false x.2) srcs

/-- The same, none of which is poisoned. -/
def State.vecSources (s : State) (w : BitVec 32) (srcs : List (BitVec 256 × Want)) : Except Exc (List Opnd) :=
  match s.vecPlaces w srcs with
  | .error e => .error e
  | .ok os => match checks (os.map s.sourcePoison) with
    | .error e => .error e
    | .ok _ => .ok os

/-- A reduction in groups of `g` over `n` elements (R161): stopped, it has written nothing, and on resume it reads its operands,
which have not changed, again. -/
def reduceEnd (g n : Nat) (s done : State) : Res :=
  match s.stopPoint g n with
  | some e => .gone (s.stopAfter e)
  | none => .ok done

/-! ### Streams (R163, R286) -/

/-- The bytes of `n` elements of a format in a stream: E2M1 comes in block records, BFP24 in lines. Log entry 16 (DEDUCED). -/
def streamSize (f n : Nat) : Nat := if f = 6 then 2 * n else if f = 14 then (n + 15) / 16 * 64 else n * fmtSize f

/-- The value of element `j` of stream bytes in a format (R163). Log entry 16 (DEDUCED). -/
def streamVal (f : Nat) (bs : List Byte) (j : Nat) : FVal :=
  if f = 6 then
    let r := natOfBytes ((bs.drop (j / 8 * 16)).take 16)
    e2m1Element (r / 16 ^ (j % 8) % 16) (r / 2 ^ 32 % 256) (.fin false 1 0)
  else if f = 14 then bfp24Element (natOfBytes ((bs.drop (j / 16 * 64)).take 64)) (j % 16)
  else elemVal f (natOfBytes ((bs.drop (j * fmtSize f)).take (fmtSize f)))

/-- The link entries behind a source binding. -/
def State.linkEntries (s : State) (b : QBind) : List LinkEntry :=
  match b with
  | .inPrev => s.net.inPrev
  | .inNext => s.net.inNext
  | _ => []

/-- The bytes behind a source binding, the consumed ones that still lie in their slots or entries included (R163, R285). -/
def State.sourceBytes (s : State) (r : BitVec 3) : List Byte :=
  match (s.rdQ r).bind with
  | .tag _ => s.streamBytes s.run.streams[r.toFin]
  | b => linkBytes (s.linkEntries b)

/-- Whether a binding is a source (R284). -/
def QBind.isSource : QBind → Bool
  | .tag _ => true
  | .inPrev => true
  | .inNext => true
  | _ => false

/-- The refusals of a stream operand: unbound, a sink, or more than 512 bytes (R163, R286). -/
def State.streamCheck (s : State) (w : BitVec 32) (r : BitVec 3) (size : Nat) : Except Exc Unit :=
  need ((s.rdQ r).bind.isSource && decide (size ≤ 512)) (illopd w 23)

/-- The next `size` bytes of a stream: the checkpoint of R286 first, a stall while too few have come (R163), POISON for a
poisoned link entry (R303). -/
def State.streamNext (s : State) (r : BitVec 3) (size : Nat) : Except (State × Exc) (State × List Byte) :=
  match (if (s.rdQ r).pos != (s.rdQ r).rel then s.checkpointHere else .ok s) with
  | .error e => .error e
  | .ok s =>
    let q := s.rdQ r
    let bs := s.sourceBytes r
    if bs.length < q.pos + size then .error (s, .wait (.stream r))
    else
      if (touchedEntries (s.linkEntries q.bind) q.pos size).any (·.poisoned) then .error (s.tick, .poison (Config.unnamedLine s.fresh))
      else .ok (s, (bs.drop q.pos).take size)

/-- Whether a stream register holds a packet that the core has sent itself. -/
def State.ownStream (s : State) (r : BitVec 3) : Bool := s.run.streams[r.toFin].any (fun i => (s.slot i).pkt.src == s.lcore)

/-- The instruction that completes consumes `size` bytes of a stream (R163); those of the core's own packet carry what it has
observed (R386). -/
def State.streamUse (s : State) (r : BitVec 3) (size : Nat) : State :=
  let s := s.wrQ r { s.rdQ r with pos := (s.rdQ r).pos + size }
  if s.ownStream r then s.receive else s

/-- What an instruction leaves that has taken `size` bytes of a stream, unless it does not complete (R160, R163). -/
def usesStream (r : BitVec 3) (size : Nat) : Res → Res
  | .ok s => .ok (s.streamUse r size)
  | .okCk s => .okCk (s.streamUse r size)
  | x => x

/-! ### Row 6: element-wise arithmetic (R173, R174) -/

/-- An operation of R173 in a mode: a, b and the old destination. -/
abbrev VecOp := RMode → FVal → FVal → FVal → FVal × Flags
def opVadd : VecOp := fun m a b _ => opAdd m a b
def opVsub : VecOp := fun m a b _ => opSub m a b
def opVmul : VecOp := fun _ a b _ => mulV a b
def opVmin : VecOp := fun _ a b _ => (minV a b, nanFlags a b)
def opVmax : VecOp := fun _ a b _ => (maxV a b, nanFlags a b)
def opVfma : VecOp := fun m a b d => fmaV m a b d

/-- Element `j` of an arithmetic instruction whose second operand is `b j`. -/
def arithElem (fn : BitVec 3) (op : VecOp) (d a : Opnd) (b : State → Nat → FVal) (s : State) (j : Nat) : State × Flags :=
  let r := op (s.destMode fn d j) (s.val a j) (b s j) (s.val d j)
  let t := s.putVal fn false d j r.1
  (t.1, r.2 ||| t.2)

/-- The destination of an arithmetic instruction; `vfma` reads it too. -/
def arithDst (fma : Bool) : Want := if fma then rwWant else dstWant

/-- A `.vv` form. -/
def arithVv (w : BitVec 32) (fn : BitVec 3) (fma : Bool) (op : VecOp) (d a b : BitVec 256) (s : State) : Res :=
  vecBody w groupOf d (arithDst fma) [.plain a srcWant, .plain b srcWant] sameCount fma
    (fun d l => arithElem fn op d (l.getD 0 d) (fun s j => s.val (l.getD 1 d) j)) s

/-- A `.vs` form: S[B] bits 31:0 as FP32. -/
def arithVs (w : BitVec 32) (fn : BitVec 3) (fma : Bool) (op : VecOp) (d a : BitVec 256) (b : Word) (s : State) : Res :=
  vecBody w groupOf d (arithDst fma) [.plain a srcWant] sameCount fma
    (fun d l => arithElem fn op d (l.getD 0 d) (fun _ _ => decodeF fp32 (b.toNat % 2 ^ 32))) s

/-- A `.vq` form: b comes from a stream register in A's format (R163); its limit comes before any element is read (R286). -/
def arithVq (w : BitVec 32) (fn : BitVec 3) (fma : Bool) (op : VecOp) (d a : BitVec 256) (q : BitVec 3) (s : State) : Res :=
  withE s (s.streamCheck w q 0) (fun _ =>
    withT (s.vecChecked w d (arithDst fma) [.plain a srcWant] sameCount) (fun p =>
      let a := p.2.2.getD 0 p.2.1
      let size := streamSize a.fmt p.2.1.sh.n
      withE s (checks [s.streamCheck w q size, s.vecPoison fma p.2.1 p.2.2]) (fun _ =>
        withT (p.1.streamNext q size) (fun t =>
          usesStream q size (vecStores w (groupOf p.2.1 p.2.2) p.2.1 (p.2.2 ++ if fma then [p.2.1] else [])
            (arithElem fn op p.2.1 a (fun _ j => streamVal a.fmt t.2 j)) t.1)))))

/-- The formats that a saturating convert writes (R174). -/
def satFmt (sat : Bool) (f : Nat) : Bool := !sat || f == 4 || f == 5

/-- An operation of one operand: its exact result, then one rounding to D (R173, R174). -/
def unary (w : BitVec 32) (g : Opnd → List Opnd → Nat) (fn : BitVec 3) (sat : Bool) (op : FVal → FVal × Flags)
    (d a : BitVec 256) (s : State) : Res :=
  vecBody w g d { dstWant with named := satFmt sat } [.plain a srcWant] sameCount false
    (fun d l s j =>
      let r := op (s.val (l.getD 0 d) j)
      let t := s.putVal fn sat d j r.1
      (t.1, r.2 ||| t.2)) s

/-- The exponent of `vscale`, clamped to ±2,000 (R173). -/
def clampScale (v : Word) : Int := max (-2000) (min 2000 v.toInt)

/-! ### Reductions (R175) -/

/-- The accumulation format. -/
def accFmt (f : Nat) : Fmt := if f = 13 then fp64 else fp32

/-- An ascending accumulation: `first` makes the first accumulator, `step` the next ones; every flag is gathered. -/
def accumulate (n : Nat) (first : Nat → Nat × Flags) (step : Nat → Nat → Nat × Flags) : Nat × Flags :=
  (List.range n).foldl (fun acc j =>
    let r := if j = 0 then first j else step acc.1 j
    (r.1, acc.2 ||| r.2)) (0, 0)

/-- The sum of R175. -/
def State.sumOf (s : State) (fn : BitVec 3) (a : Opnd) : Nat × Flags :=
  let f := accFmt a.fmt
  let m := s.scalarMode fn
  accumulate a.sh.n (fun j => roundF f m false (s.val a j)) (fun acc j =>
    let t := roundF f m false (s.val a j)
    let r := addV m (decodeF f acc) (decodeF f t.1)
    let v := roundF f m false r.1
    (v.1, t.2 ||| r.2 ||| v.2))

/-- The dot product of R175, with `b j` the second factor. -/
def State.dotOf (s : State) (fn : BitVec 3) (a : Opnd) (b : Nat → FVal) : Nat × Flags :=
  let f := accFmt a.fmt
  let m := s.scalarMode fn
  let fin := fun (r : FVal × Flags) => let v := roundF f m false r.1
    (v.1, r.2 ||| v.2)
  accumulate a.sh.n (fun j => fin (mulV (s.val a j) (b j))) (fun acc j => fin (fmaV m (s.val a j) (b j) (decodeF f acc)))

/-- `vsum` (R175). -/
def vsumBody (w : BitVec 32) (fn : BitVec 3) (d : Reg) (a : BitVec 256) (s : State) : Res :=
  withE s (s.vecSources w [(a, srcWant)]) (fun l =>
    let a := l.getD 0 ⟨Shape.of a false, 0, []⟩
    let r := s.sumOf fn a
    reduceEnd 4 a.sh.n s (((s.readOperand a).wr d (word r.1)).raise r.2))

/-- `vdot` (R175). -/
def vdotBody (w : BitVec 32) (fn : BitVec 3) (d : Reg) (a b : BitVec 256) (s : State) : Res :=
  withE s (s.vecSources w [(a, srcWant), (b, srcWant)]) (fun l =>
    let a := l.getD 0 ⟨Shape.of a false, 0, []⟩
    let b := l.getD 1 a
    let r := s.dotOf fn a (s.val b)
    reduceEnd 4 a.sh.n s ((((s.readOperand a).readOperand b).wr d (word r.1)).raise r.2))

/-- `vdot.q` (R163, R175). -/
def vdotQBody (w : BitVec 32) (fn : BitVec 3) (d : Reg) (a : BitVec 256) (q : BitVec 3) (s : State) : Res :=
  withE s (s.streamCheck w q 0) (fun _ =>
    withE s (s.vecPlaces w [(a, srcWant)]) (fun l =>
      let a := l.getD 0 ⟨Shape.of a false, 0, []⟩
      let size := streamSize a.fmt a.sh.n
      withE s (checks [s.streamCheck w q size, s.sourcePoison a]) (fun _ =>
        withT (s.streamNext q size) (fun t =>
          let r := t.1.dotOf fn a (streamVal a.fmt t.2)
          usesStream q size (reduceEnd 4 a.sh.n t.1 (((t.1.readOperand a).wr d (word r.1)).raise r.2))))))

/-- The larger of two magnitudes that are no NaNs. -/
def maxMag (a b : FVal) : FVal := if ltV a b.abs then b.abs else a

/-- The result of `vmaxabs`: exact, or a free value where the format cannot hold it (R175). Log entry 19 (DESIGN CHOICE). -/
def State.maxAbsOf (s : State) (a : Opnd) : Nat × Flags :=
  let f := accFmt a.fmt
  let vs := (List.range a.sh.n).map (s.val a)
  if vs.any (·.isNan) then (f.nan, flagIf (vs.any (·.isSig)) flNV)
  else
    let r := roundF f .rne false (vs.foldl maxMag (.fin false 0 0))
    if r.2 = 0 then r else ((Config.maxAbsUnrepresentable s.fresh).toNat, 0)

/-- `vmaxabs` (R175). -/
def vmaxabsBody (w : BitVec 32) (d : Reg) (a : BitVec 256) (s : State) : Res :=
  withE s (s.vecSources w [(a, srcWant)]) (fun l =>
    let a := l.getD 0 ⟨Shape.of a false, 0, []⟩
    let r := s.maxAbsOf a
    reduceEnd 16 a.sh.n s ((((s.readOperand a).tick).wr d (word r.1)).raise r.2))

/-! ### Compare, select, classify (R176, R177) -/

/-- A predicate of R64 on values: its truth and its flags (R136). -/
def cmpV (p : BitVec 2) (x y : FVal) : Bool × Flags :=
  let anyNan := x.isNan || y.isNan
  if p = 0 then (eqV x y, nanFlags x y)
  else if p = 1 then (ltV x y, flagIf anyNan flNV)
  else if p = 2 then (leV x y, flagIf anyNan flNV)
  else (anyNan, nanFlags x y)

/-- `vcmp` (R176). -/
def vcmpBody (w : BitVec 32) (p : BitVec 2) (d a b : BitVec 256) (s : State) : Res :=
  vecBody w groupOf d { dstWant with named := fmtIsInt } [.plain a srcWant, .plain b srcWant] sameCount false
    (fun d l s j =>
      let r := cmpV p (s.val (l.getD 0 d) j) (s.val (l.getD 1 d) j)
      (s.putElem d j (if r.1 then 1 else 0), r.2)) s

/-- Whether single elements of format `a` can move or convert to format `d` (R32, R158, R178). -/
def moveFmt (d a : Nat) : Bool := d != 6 && d != 14 && (d == a || (d != 12 && a != 12))

/-- What a destination that takes moved elements is asked, given the handle formats of the sources: CODE32 takes no other
format (R158); a CODE32 source of another destination fails at the source, whose element would be decoded (R32). Log entry
13 (DEDUCED). -/
def moveDst (srcs : List Nat) : Want :=
  { dstWant with permit := fun f => f != 6 && f != 14 && (f != 12 || srcs.all (fun a => a == 0 || a == 12)) }

/-- What a source of moved elements is asked. Log entry 13 (DEDUCED). -/
def moveSrc (d : Nat) : Want := { srcWant with permit := fun a => d == 0 || moveFmt d a }

/-- Moves element `i` of A to element `j` of D: bits of one format unchanged, else one rounding by FRM.MODE (R178). -/
def State.moveElem (s : State) (d a : Opnd) (j i : Nat) : State × Flags :=
  if d.fmt = a.fmt then (s.putElem d j (s.raw a i), 0) else s.putVal 7 false d j (s.val a i)

/-- `vsel` (R176). -/
def vselBody (w : BitVec 32) (d a b : BitVec 256) (s : State) : Res :=
  vecBody w groupOf d (moveDst [hFmt b]) [.plain a intWant, ⟨b, moveSrc⟩] sameCount false
    (fun d l s j => if (s.val (l.getD 0 d) j).isZero then (s, 0) else s.moveElem d (l.getD 1 d) j j) s

/-- The class mask of an element: in its own format, or as an FP32 value (R177). -/
def classElem (f : Nat) (v : FVal) : Nat := classOf ((fmtOf f).getD fp32) v

/-- `vclass` (R177). -/
def vclassBody (w : BitVec 32) (d a : BitVec 256) (s : State) : Res :=
  vecBody w groupOf d { dstWant with named := fun f => f == 8 || f == 9 || f == 11 } [.plain a srcWant] sameCount false
    (fun d l s j =>
      let a := l.getD 0 d
      let v := s.val a j
      (s.putElem d j (classElem a.fmt v), flagIf (v.isNan || v == .inf false || v == .inf true) flNF)) s

/-! ### vcopy (R178, R269) -/

/-- Whether `vcopy` may write format `d` from format `a`. -/
def copyFmt (d a : Nat) : Bool := (d == 6 && a == 6) || moveFmt d a

/-- What `vcopy` asks of its destination, given A's handle format, and of A, given D's format. Log entry 13 (DEDUCED). -/
def copyDst (a : Nat) : Want :=
  { dstWant with permit := fun f => f != 14 && ((f != 6 && f != 12) || a == 0 || a == f), adOk := true }
def copySrc (d : Nat) : Want := { srcWant with permit := fun a => d == 0 || copyFmt d a, adOk := true }

/-- Copies the E2M1 block of element `j` (R178): a record to a record whole, else its element word and scale. Log entry
20 (DEDUCED). -/
def State.copyBlock (s : State) (d a : Opnd) (j : Nat) : State :=
  if (d.el j).loc.entry.isNone && (a.el j).loc.entry.isNone then
    s.putUnits (d.el j).units (bytesOf 16 (s.elemRaw (a.el j)))
  else s.putBlock d j (s.blockRaw (a.el j)).1 (s.blockRaw (a.el j)).2

/-- One element of a `vcopy`; E2M1 moves a block at its first element. -/
def State.copyElem (d a : Opnd) (s : State) (j : Nat) : State × Flags :=
  if d.fmt = 6 then (if j % 8 = 0 then (s.copyBlock d a j, 0) else (s, 0)) else s.moveElem d a j j

/-- Room for the stores of an instruction; one that goes on after a pre-emption has it already (R161). -/
def State.roomOnce (s : State) (homes cells : List Nat) : Except (State × Exc) State :=
  if s.run.part = 0 then s.storeRoom homes cells else .ok s

/-- A reverse vector load: the cells of A take the values of D (R269); nothing says whether its roundings raise flags, and none
does. Log entries 21 (DEDUCED), 120 (DESIGN CHOICE). -/
def reverseVecLoad (w : BitVec 32) (d a : Opnd) (s : State) : Res :=
  let js := (List.range a.sh.n).filter (fun j => (a.el j).loc.onAd)
  let cells := js.map (fun j => (a.el j).loc.cell)
  let g := groupOf d [a]
  if Config.logLines < (insertAll (cells.map (· / 64)) []).length then .exc s (illopdH w)
  else withE s (checks (js.map (fun j => s.sourcePoison { d with els := [d.el j] }))) (fun _ =>
    withS (s.roomOnce [] cells) (fun s =>
      endPart (s.stopPoint g js.length) .ok ((s.span g js.length).foldl (fun s k =>
        let j := js.getD k 0
        (s.readOperand { d with els := [d.el j] }).adjAdd (a.el j).loc.cell
          (BitVec.ofNat 32 (roundF fp32 .rne false (s.val d j)).1)) s)))

/-- The top entries, which must be the data entries of the elements `js` of D in that order (R269): the old values. -/
def matchEntries (d : Opnd) (s : State) : List Nat → Nat → Except Exc (State × List Word)
  | [], _ => .ok (s, [])
  | j :: js, top =>
    let l := (d.el j).loc
    if top = 0 then .error (.trap cADPF l.va)
    else match s.entry (top - 1) with
      | .error e => .error e
      | .ok (s, e) =>
        if !e.isFor l.va l.z then .error (.trap cADPF l.va)
        else match matchEntries d s js (top - 1) with
          | .error e => .error e
          | .ok (s, l) => .ok (s, e.old :: l)

/-- One element of a reverse vector store: the adjoint goes to A, the old value returns, all the bytes that the entry holds, and
the entry leaves (R264, R269). Log entry 141 (DESIGN CHOICE). -/
def reverseStoreElem (d a : Opnd) (acc : State × Flags) (p : Nat × Word) : State × Flags :=
  let s := acc.1
  let l := (d.el p.1).loc
  let g := decodeF fp32 (s.adjRead l.cell).toNat
  let t := ((s.tagRead l.cell 4).adjSet l.cell 0).putVal 7 false a p.1 g
  let s := t.1.putUnits [(l.home, l.z)] (bytesOf l.z p.2.toNat)
  (s.withTop (s.top - 1), acc.2 ||| t.2)

/-- A reverse vector store (R269): A, which receives the adjoints, is checked as a destination too (R160), in the slot that it
names as a source. Log entry 21 (DEDUCED). -/
def reverseVecStore (w : BitVec 32) (ha : BitVec 256) (d a : Opnd) (s : State) : Res :=
  let js := (((List.range d.sh.n).filter (fun j => (d.el j).loc.onAd)).reverse).drop s.run.part
  let cells := js.map (fun j => (d.el j).loc.cell)
  let rows := js.map (fun j => need (!s.inWindow (d.el j).loc.cell) (.trap cADPF (d.el j).loc.va))
  let g := groupOf d [a]
  withE s (s.operand w ha false { dstWant with adOk := true }) (fun _ =>
    withE s (checks rows) (fun _ =>
      withE s (matchEntries d s js s.top) (fun r =>
        withE s (checks (cells.map s.cellPoison)) (fun _ =>
          let homes := js.flatMap (fun j =>
            [(d.el j).loc.home, (d.el j).loc.home + ((d.el j).loc.z - 1)] ++ (a.el j).units.map (·.1))
          let outside := insertAll ((homes.filter (fun x => !s.ownSp x)).map (· / 64)) []
          if Config.logLines < outside.length + (insertAll (cells.map (· / 64)) []).length then .exc s (illopdH w)
          else withS (r.1.roomOnce homes cells) (fun s =>
            let stop := s.stopPoint g (s.run.part + js.length)
            let todo := (s.span g (s.run.part + js.length)).length
            let t := ((js.zip r.2).take todo).foldl (reverseStoreElem d a) (s, 0)
            endPart stop .ok (t.1.raise t.2))))))

/-- `vcopy` (R178), in REV with an operand on a differentiable page by R269: there only what moves is read. -/
def vcopyBody (w : BitVec 32) (hd ha : BitVec 256) (s : State) : Res :=
  withT (s.vecChecked w hd (copyDst (hFmt ha)) [⟨ha, copySrc⟩] sameCount) (fun p =>
    let d := p.2.1
    let a := p.2.2.getD 0 d
    if s.rev && (!d.onAd.isEmpty || !a.onAd.isEmpty) then
      if !d.onAd.isEmpty && !a.onAd.isEmpty then .exc s (.trap cADPF ((d.onAd.headD Elem.none).loc.va))
      else if d.onAd.isEmpty then reverseVecLoad w d a s
      else reverseVecStore w ha d a s
    else withE s (s.vecPoison false d [a]) (fun _ => vecStores w (groupOf d [a]) d [a] (State.copyElem d a) p.1))

/-- A packet's header as R83 lays it out. -/
def packetHeader (p : Packet) : Nat :=
  p.ts.toNat * 2 ^ 68 + p.seg.toNat * 2 ^ 60 + p.kind.toNat * 2 ^ 56 + p.len.toNat * 2 ^ 50 + p.tag.toNat * 2 ^ 34 +
    p.dest.toNat

/-- `vcopy` from a window's payload, or with `all` from its whole slot, header first (R178): raw bytes, never converted. Log
entry 23 (DEDUCED). -/
def vcopyWindow (w : BitVec 32) (all : Bool) (hd : BitVec 256) (slot : Option (BitVec 5)) (s : State) : Res :=
  match slot with
  | none => .exc s (illopd w 17)
  | some i =>
    let p := (s.slot i).pkt
    let bs := (if all then bytesOf 16 (packetHeader p) else []) ++ packetBytes p
    let fits := fun f => decide ((Shape.of hd true).n * fmtSize f ≤ (if all then 16 else 0) + 4 * p.len.toNat)
    withE s (need (hFmt hd == 0 || fits (hFmt hd)) (illopdH w)) (fun _ =>
      withT (s.vecOperands w hd { dstWant with permit := fun f => f != 6 && f != 14 } [] sameCount false) (fun p =>
        let d := p.2.1
        let z := fmtSize d.fmt
        if fits d.fmt then
          vecStores w (groupOf d []) d [] (fun s j => (s.putElem d j (natOfBytes ((bs.drop (j * z)).take z)), 0)) p.1
        else .exc s (illopdH w)))

/-! ### Filling and gathering (R179 to R181) -/

/-- `vfill` and `vfill.i`: one value rounded to D's format (R179). -/
def fillVal (w : BitVec 32) (v : FVal) (d : BitVec 256) (s : State) : Res :=
  vecBody w groupOf d dstWant [] sameCount false (fun d _ s j => s.putVal 7 false d j v) s

/-- `vfill.b`: raw low bits (R179). -/
def fillRaw (w : BitVec 32) (v : Nat) (d : BitVec 256) (s : State) : Res :=
  vecBody w groupOf d { dstWant with permit := fun f => f != 6 && f != 14 } [] sameCount false
    (fun d _ s j => (s.putElem d j v, 0)) s

/-- `vidx`: start + j·step (R179). -/
def vidxBody (w : BitVec 32) (d : BitVec 256) (a b : Int) (s : State) : Res :=
  vecBody w groupOf d dstWant [] sameCount false (fun d _ s j => s.putVal 7 false d j (ofIntV (a + j * b))) s

/-- The integer value of element `j` of an integer operand. -/
def State.intVal (s : State) (o : Opnd) (j : Nat) : Int := intOf o.fmt (s.raw o j)

/-- The result of a `vgath`: stopped, it keeps the indices that it has read (R161, R180). -/
def keepIndices (is : List Int) : Res → Res
  | .gone s => .gone { s with run := { s.run with partIdx := is } }
  | x => x

/-- `vgath` (R180): the indices are read whole first; an index outside A gives zero and sets OOR. -/
def vgathBody (w : BitVec 32) (d a b : BitVec 256) (s : State) : Res :=
  withT (s.vecOperands w d (moveDst [hFmt a]) [⟨a, moveSrc⟩, .plain b intWant] (fun n l => l.getD 1 0 == n) false) (fun p =>
    let d := p.2.1
    let a := p.2.2.getD 0 d
    let is := if s.run.part = 0 then (List.range d.sh.n).map (s.intVal (p.2.2.getD 1 d)) else s.run.partIdx
    keepIndices is (vecStores w 1 d p.2.2 (fun s j =>
      let i := is.getD j 0
      if 0 ≤ i ∧ i < a.sh.n then s.moveElem d a j i.toNat else (s.putElem d j 0, flOOR)) p.1))

/-- `vpack` (R181). -/
def vpackBody (w : BitVec 32) (d a b : BitVec 256) (s : State) : Res :=
  vecBody w groupOf d (moveDst [hFmt a, hFmt b]) [⟨a, moveSrc⟩, ⟨b, moveSrc⟩] (fun n l => l.all (fun m => 2 * m == n)) false
    (fun d l s j => s.moveElem d (l.getD (j % 2) d) j (j / 2)) s

/-- `vunpk` (R181). Log entry 23 (DEDUCED). -/
def vunpkBody (w : BitVec 32) (d a : BitVec 256) (p : Word) (s : State) : Res :=
  withE s (need (decide (p.toNat < 2)) (illopd w 23)) (fun _ =>
    vecBody w groupOf d (moveDst [hFmt a]) [⟨a, moveSrc⟩] (fun n l => l.all (fun m => m == 2 * n)) false
      (fun d l s j => s.moveElem d (l.getD 0 d) j (2 * j + p.toNat)) s)

/-! ### Integer element operations (R182) -/

/-- D, A and B of one integer format (R182): what each is asked, given the formats that the three handles name. Log entry
14 (DEDUCED). -/
def sameInt (fs : List Nat) (f : Nat) : Bool := intFmt f && fs.all (fun a => a == 0 || a == f)
def sameIntDst (fs : List Nat) : Want := { dstWant with named := sameInt fs }
def sameIntSrc (fs : List Nat) (d : Nat) : Want := { srcWant with named := sameInt (d :: fs) }

/-- An integer operation on raw elements: `f` takes 2^w and both operands (R182). -/
def intVec (w : BitVec 32) (f : Nat → Nat → Nat → Nat) (d a b : BitVec 256) (s : State) : Res :=
  let fs := [hFmt d, hFmt a, hFmt b]
  vecBody w groupOf d (sameIntDst fs) [⟨a, sameIntSrc fs⟩, ⟨b, sameIntSrc fs⟩] sameCount false
    (fun d l s j =>
      let m := 2 ^ (8 * fmtSize d.fmt)
      (s.putElem d j (f m (s.raw (l.getD 0 d) j) (s.raw (l.getD 1 d) j) % m), 0)) s

/-- `vishr`: zeros shift in, or copies of the top bit (R182). -/
def shrElem (arith : Bool) (m a b : Nat) : Nat :=
  let w := Nat.log2 m
  let k := b % w
  a / 2 ^ k + (if arith && a / 2 ^ (w - 1) % 2 == 1 then 2 ^ w - 2 ^ (w - k) else 0)

/-! ### vq4 (R183) -/

/-- The magnitude of a value times a natural number of halves: |x| against k/4·g·s. -/
def quarterMul (k : Nat) (gs : FVal) : FVal := (mulV (.fin false k (-2)) gs).1

/-- The E2M1 grid and its midpoints, in quarters (R24, R183). -/
def e2m1Grid : List Nat := [0, 2, 4, 6, 8, 12, 16, 24]
def e2m1Mids : List Nat := [1, 3, 5, 7, 10, 14, 20]

/-- RoundE2M1 of |x| / (g·s) with the sign of x: the code and its flags (R183): ties go to M = 0. -/
def roundE2m1 (x gs : FVal) : Nat × Flags :=
  let m := x.abs
  let k := (e2m1Mids.zipIdx.filter (fun p =>
    let mid := quarterMul p.1 gs
    ltV mid m || (eqV mid m && p.2 % 2 == 1))).length
  let inexact := !eqV (quarterMul (e2m1Grid.getD k 0) gs) m
  let tiny := ltV (.fin false 0 0) m && ltV (mulV m (.fin false 8 0)).1 (mulV (.fin false 7 0) gs).1
  (k + (if x.neg? then 8 else 0), flagIf inexact flNX ||| flagIf (inexact && tiny) flUF)

/-- The block of eight values: element word, scale byte and flags (R183). -/
def quantise (xs : List FVal) (g : FVal) : Nat × Nat × Flags :=
  if xs.any (fun v => v.isNan || v == .inf false || v == .inf true) then (0, 0xFF, flagIf (xs.any (·.isSig)) flNV)
  else
    let m := xs.foldl maxMag (.fin false 0 0)
    let word := fun (cs : List Nat) => cs.foldr (fun c acc => c + 16 * acc) 0
    if m.isZero then (word (xs.map (fun v => if v.neg? then 8 else 0)), 0, 0)
    else
      let fits := fun sc => leV m (mulV (quarterMul 24 (e3m5Val sc)) g).1
      let found := ((List.range 254).map (· + 1)).find? fits
      let sc := found.getD 0xFE
      let cs := xs.map (fun v => roundE2m1 v (mulV g (e3m5Val sc)).1)
      (word (cs.map (·.1)), sc, cs.foldl (fun f c => f ||| c.2) (if found.isNone then flOF ||| flNX else 0))

/-- `vq4` (R183). Log entry 23 (DEDUCED). -/
def vq4Body (w : BitVec 32) (d a : BitVec 256) (b : Word) (s : State) : Res :=
  let g := decodeF bf16 (b.toNat % 2 ^ 16)
  let ok := fieldOf b 16 48 == 0 && ltV (.fin false 0 0) g && g != .inf false
  withE s (need ok (illopd w 23)) (fun _ =>
    vecBody w (fun _ _ => 16) d { dstWant with named := fun f => f == 6, permit := fun f => f == 6 } [.plain a srcWant]
      sameCount false
      (fun d l s j =>
        if j % 8 = 0 then
          let q := quantise ((List.range 8).map (fun i => s.val (l.getD 0 d) (j + i))) g
          (s.putBlock d j q.1 q.2.1, q.2.2)
        else (s, 0)) s)

/-! ### vrng (R184) -/

/-- The element that 64 random bits give in a format. -/
def rngElem (f : Nat) (v : Word) : Nat :=
  let n := v.toNat
  let frac := fun (t : Fmt) (lo : Nat) (e : Int) => (roundF t .rne false (.fin false (n / 2 ^ lo) e)).1
  match f with
  | 13 => frac fp64 11 (-53)
  | 1 => frac fp32 40 (-24)
  | 3 => frac fp16 53 (-11)
  | 2 => frac bf16 56 (-8)
  | 8 => n / 2 ^ 48
  | 7 => n / 2 ^ 56
  | 10 => n / 2 ^ 56
  | _ => n / 2 ^ 32

/-- `vrng` (R184). -/
def vrngBody (w : BitVec 32) (d : BitVec 256) (a : Word) (s : State) : Res :=
  vecBody w (fun _ _ => 8) d { dstWant with permit := fun f => intFmt f || f == 13 || f == 1 || f == 3 || f == 2 } []
    sameCount false
    (fun d _ s j => (s.putElem d j (rngElem d.fmt (counterBits (s.run.ctx.seed ^^^ a) d.sh.tid j)), 0)) s

/-! ### Instructions -/

/-- `vadd.vv` (R173). -/
def execVaddVv (d a b : Reg) (f : BitVec 3) (s : State) : Host.Outcome State Fault Refusal :=
  runBody 4 s (fun s => arithVv (rrr 0 0x0C0 f b a d) f false opVadd (s.rdH d) (s.rdH a) (s.rdH b) s)

/-- `vadd.vs` (R173). -/
def execVaddVs (d a b : Reg) (f : BitVec 3) (s : State) : Host.Outcome State Fault Refusal :=
  runBody 4 s (fun s => arithVs (rrr 0 0x0C1 f b a d) f false opVadd (s.rdH d) (s.rdH a) (s.rd b) s)

/-- `vadd.vq` (R173). -/
def execVaddVq (d a b : Reg) (f : BitVec 3) (s : State) : Host.Outcome State Fault Refusal :=
  runBody 4 s (fun s => arithVq (rrr 0 0x0C2 f b a d) f false opVadd (s.rdH d) (s.rdH a) (b.setWidth 3) s)

/-- `vsub.vv` (R173). -/
def execVsubVv (d a b : Reg) (f : BitVec 3) (s : State) : Host.Outcome State Fault Refusal :=
  runBody 4 s (fun s => arithVv (rrr 0 0x0C3 f b a d) f false opVsub (s.rdH d) (s.rdH a) (s.rdH b) s)

/-- `vsub.vs` (R173). -/
def execVsubVs (d a b : Reg) (f : BitVec 3) (s : State) : Host.Outcome State Fault Refusal :=
  runBody 4 s (fun s => arithVs (rrr 0 0x0C4 f b a d) f false opVsub (s.rdH d) (s.rdH a) (s.rd b) s)

/-- `vsub.vq` (R173). -/
def execVsubVq (d a b : Reg) (f : BitVec 3) (s : State) : Host.Outcome State Fault Refusal :=
  runBody 4 s (fun s => arithVq (rrr 0 0x0C5 f b a d) f false opVsub (s.rdH d) (s.rdH a) (b.setWidth 3) s)

/-- `vmul.vv` (R173). -/
def execVmulVv (d a b : Reg) (f : BitVec 3) (s : State) : Host.Outcome State Fault Refusal :=
  runBody 4 s (fun s => arithVv (rrr 0 0x0C6 f b a d) f false opVmul (s.rdH d) (s.rdH a) (s.rdH b) s)

/-- `vmul.vs` (R173). -/
def execVmulVs (d a b : Reg) (f : BitVec 3) (s : State) : Host.Outcome State Fault Refusal :=
  runBody 4 s (fun s => arithVs (rrr 0 0x0C7 f b a d) f false opVmul (s.rdH d) (s.rdH a) (s.rd b) s)

/-- `vmul.vq` (R173). -/
def execVmulVq (d a b : Reg) (f : BitVec 3) (s : State) : Host.Outcome State Fault Refusal :=
  runBody 4 s (fun s => arithVq (rrr 0 0x0C8 f b a d) f false opVmul (s.rdH d) (s.rdH a) (b.setWidth 3) s)

/-- `vmin.vv` (R173). -/
def execVminVv (d a b : Reg) (s : State) : Host.Outcome State Fault Refusal :=
  runBody 4 s (fun s => arithVv (rrr 0 0x0C9 0 b a d) 7 false opVmin (s.rdH d) (s.rdH a) (s.rdH b) s)

/-- `vmin.vs` (R173). -/
def execVminVs (d a b : Reg) (s : State) : Host.Outcome State Fault Refusal :=
  runBody 4 s (fun s => arithVs (rrr 0 0x0CA 0 b a d) 7 false opVmin (s.rdH d) (s.rdH a) (s.rd b) s)

/-- `vmin.vq` (R173). -/
def execVminVq (d a b : Reg) (s : State) : Host.Outcome State Fault Refusal :=
  runBody 4 s (fun s => arithVq (rrr 0 0x0CB 0 b a d) 7 false opVmin (s.rdH d) (s.rdH a) (b.setWidth 3) s)

/-- `vmax.vv` (R173). -/
def execVmaxVv (d a b : Reg) (s : State) : Host.Outcome State Fault Refusal :=
  runBody 4 s (fun s => arithVv (rrr 0 0x0CC 0 b a d) 7 false opVmax (s.rdH d) (s.rdH a) (s.rdH b) s)

/-- `vmax.vs` (R173). -/
def execVmaxVs (d a b : Reg) (s : State) : Host.Outcome State Fault Refusal :=
  runBody 4 s (fun s => arithVs (rrr 0 0x0CD 0 b a d) 7 false opVmax (s.rdH d) (s.rdH a) (s.rd b) s)

/-- `vmax.vq` (R173). -/
def execVmaxVq (d a b : Reg) (s : State) : Host.Outcome State Fault Refusal :=
  runBody 4 s (fun s => arithVq (rrr 0 0x0CE 0 b a d) 7 false opVmax (s.rdH d) (s.rdH a) (b.setWidth 3) s)

/-- `vfma.vv` (R173). -/
def execVfmaVv (d a b : Reg) (f : BitVec 3) (s : State) : Host.Outcome State Fault Refusal :=
  runBody 4 s (fun s => arithVv (rrr 0 0x0CF f b a d) f true opVfma (s.rdH d) (s.rdH a) (s.rdH b) s)

/-- `vfma.vs` (R173). -/
def execVfmaVs (d a b : Reg) (f : BitVec 3) (s : State) : Host.Outcome State Fault Refusal :=
  runBody 4 s (fun s => arithVs (rrr 0 0x0D0 f b a d) f true opVfma (s.rdH d) (s.rdH a) (s.rd b) s)

/-- `vfma.vq` (R173). -/
def execVfmaVq (d a b : Reg) (f : BitVec 3) (s : State) : Host.Outcome State Fault Refusal :=
  runBody 4 s (fun s => arithVq (rrr 0 0x0D1 f b a d) f true opVfma (s.rdH d) (s.rdH a) (b.setWidth 3) s)

/-- `vabs` (R173). -/
def execVabs (d a : Reg) (s : State) : Host.Outcome State Fault Refusal :=
  runBody 4 s (fun s => unary (rrr 0 0x0D2 0 0 a d) groupOf 7 false (fun v => (v.abs, 0)) (s.rdH d) (s.rdH a) s)

/-- `vneg` (R173). -/
def execVneg (d a : Reg) (s : State) : Host.Outcome State Fault Refusal :=
  runBody 4 s (fun s => unary (rrr 0 0x0D3 0 0 a d) groupOf 7 false (fun v => (v.negate, 0)) (s.rdH d) (s.rdH a) s)

/-- `vcvt` (R174). -/
def execVcvt (d a : Reg) (f : BitVec 3) (t : BitVec 1) (s : State) : Host.Outcome State Fault Refusal :=
  runBody 4 s (fun s => unary (rrr 0 0x0D4 f (t ++ 0#5) a d) groupOf f (t == 1) (fun v => (v, 0)) (s.rdH d) (s.rdH a) s)

/-- `vscale` (R173). -/
def execVscale (d a b : Reg) (f : BitVec 3) (s : State) : Host.Outcome State Fault Refusal :=
  runBody 4 s (fun s => unary (rrr 0 0x0D5 f b a d) groupOf f false (fun v => (scaleV v (clampScale (s.rd b)), 0)) (s.rdH d) (s.rdH a) s)

/-- `vsum` (R175). -/
def execVsum (d a : Reg) (f : BitVec 3) (s : State) : Host.Outcome State Fault Refusal :=
  runBody 4 s (fun s => vsumBody (rrr 0 0x0E0 f 0 a d) f d (s.rdH a) s)

/-- `vdot` (R175). -/
def execVdot (d a b : Reg) (f : BitVec 3) (s : State) : Host.Outcome State Fault Refusal :=
  runBody 4 s (fun s => vdotBody (rrr 0 0x0E1 f b a d) f d (s.rdH a) (s.rdH b) s)

/-- `vdot.q` (R175). -/
def execVdotQ (d a b : Reg) (f : BitVec 3) (s : State) : Host.Outcome State Fault Refusal :=
  runBody 4 s (fun s => vdotQBody (rrr 0 0x0E2 f b a d) f d (s.rdH a) (b.setWidth 3) s)

/-- `vcmp` (R176). -/
def execVcmp (d a b : Reg) (p : BitVec 2) (s : State) : Host.Outcome State Fault Refusal :=
  runBody 4 s (fun s => vcmpBody (rrr 0 0x0E3 (0#1 ++ p) b a d) p (s.rdH d) (s.rdH a) (s.rdH b) s)

/-- `vsel` (R176). -/
def execVsel (d a b : Reg) (s : State) : Host.Outcome State Fault Refusal :=
  runBody 4 s (fun s => vselBody (rrr 0 0x0E4 0 b a d) (s.rdH d) (s.rdH a) (s.rdH b) s)

/-- `vclass` (R177). -/
def execVclass (d a : Reg) (s : State) : Host.Outcome State Fault Refusal :=
  runBody 4 s (fun s => vclassBody (rrr 0 0x0E5 0 0 a d) (s.rdH d) (s.rdH a) s)

/-- `vcopy` (R178). -/
def execVcopy (d a : Reg) (s : State) : Host.Outcome State Fault Refusal :=
  runBody 4 s (fun s => vcopyBody (rrr 0 0x0E6 0 0 a d) (s.rdH d) (s.rdH a) s)

/-- `vcopy` from a window's payload (R178). -/
def execVcopyW (d a : Reg) (s : State) : Host.Outcome State Fault Refusal :=
  runBody 4 s (fun s => vcopyWindow (rrr 0 0x0E6 0 1 a d) false (s.rdH d) (s.rdW a) s)

/-- `vcopy` from a whole slot (R178). -/
def execVcopyWAll (d a : Reg) (s : State) : Host.Outcome State Fault Refusal :=
  runBody 4 s (fun s => vcopyWindow (rrr 0 0x0E6 0 2 a d) true (s.rdH d) (s.rdW a) s)

/-- `vfill` (R179). -/
def execVfill (d a : Reg) (s : State) : Host.Outcome State Fault Refusal :=
  runBody 4 s (fun s => fillVal (rrr 0 0x0E7 0 0 a d) (decodeF fp32 ((s.rd a).toNat % 2 ^ 32)) (s.rdH d) s)

/-- `vfill.i` (R179). -/
def execVfillI (d a : Reg) (s : State) : Host.Outcome State Fault Refusal :=
  runBody 4 s (fun s => fillVal (rrr 0 0x0E7 0 1 a d) (ofIntV (s.rd a).toInt) (s.rdH d) s)

/-- `vfill.b` (R179). -/
def execVfillB (d a : Reg) (s : State) : Host.Outcome State Fault Refusal :=
  runBody 4 s (fun s => fillRaw (rrr 0 0x0E7 0 2 a d) (s.rd a).toNat (s.rdH d) s)

/-- `vgath` (R180). -/
def execVgath (d a b : Reg) (s : State) : Host.Outcome State Fault Refusal :=
  runBody 4 s (fun s => vgathBody (rrr 0 0x0E8 0 b a d) (s.rdH d) (s.rdH a) (s.rdH b) s)

/-- `vq4` (R183). -/
def execVq4 (d a b : Reg) (s : State) : Host.Outcome State Fault Refusal :=
  runBody 4 s (fun s => vq4Body (rrr 0 0x0E9 0 b a d) (s.rdH d) (s.rdH a) (s.rd b) s)

/-- `vrng` (R184). -/
def execVrng (d a : Reg) (s : State) : Host.Outcome State Fault Refusal :=
  runBody 4 s (fun s => vrngBody (rrr 0 0x0EA 0 0 a d) (s.rdH d) (s.rd a) s)

/-- `vmaxabs` (R175). -/
def execVmaxabs (d a : Reg) (s : State) : Host.Outcome State Fault Refusal :=
  runBody 4 s (fun s => vmaxabsBody (rrr 0 0x0EB 0 0 a d) d (s.rdH a) s)

/-- `viadd` (R182). -/
def execViadd (d a b : Reg) (s : State) : Host.Outcome State Fault Refusal :=
  runBody 4 s (fun s => intVec (rrr 0 0x0EC 0 b a d) (fun _ a b => a + b) (s.rdH d) (s.rdH a) (s.rdH b) s)

/-- `visub` (R182). -/
def execVisub (d a b : Reg) (s : State) : Host.Outcome State Fault Refusal :=
  runBody 4 s (fun s => intVec (rrr 0 0x0ED 0 b a d) (fun m a b => a + m - b) (s.rdH d) (s.rdH a) (s.rdH b) s)

/-- `vimul` (R182). -/
def execVimul (d a b : Reg) (s : State) : Host.Outcome State Fault Refusal :=
  runBody 4 s (fun s => intVec (rrr 0 0x0EE 0 b a d) (fun _ a b => a * b) (s.rdH d) (s.rdH a) (s.rdH b) s)

/-- `viand` (R182). -/
def execViand (d a b : Reg) (s : State) : Host.Outcome State Fault Refusal :=
  runBody 4 s (fun s => intVec (rrr 0 0x0EF 0 b a d) (fun _ a b => a &&& b) (s.rdH d) (s.rdH a) (s.rdH b) s)

/-- `vior` (R182). -/
def execVior (d a b : Reg) (s : State) : Host.Outcome State Fault Refusal :=
  runBody 4 s (fun s => intVec (rrr 0 0x0F0 0 b a d) (fun _ a b => a ||| b) (s.rdH d) (s.rdH a) (s.rdH b) s)

/-- `vixor` (R182). -/
def execVixor (d a b : Reg) (s : State) : Host.Outcome State Fault Refusal :=
  runBody 4 s (fun s => intVec (rrr 0 0x0F1 0 b a d) (fun _ a b => a ^^^ b) (s.rdH d) (s.rdH a) (s.rdH b) s)

/-- `vishl` (R182). -/
def execVishl (d a b : Reg) (s : State) : Host.Outcome State Fault Refusal :=
  runBody 4 s (fun s => intVec (rrr 0 0x0F2 0 b a d) (fun m a b => a * 2 ^ (b % Nat.log2 m)) (s.rdH d) (s.rdH a) (s.rdH b) s)

/-- `vishr` (R182). -/
def execVishr (d a b : Reg) (f : BitVec 1) (s : State) : Host.Outcome State Fault Refusal :=
  runBody 4 s (fun s => intVec (rrr 0 0x0F3 (0#2 ++ f) b a d) (shrElem (f == 1)) (s.rdH d) (s.rdH a) (s.rdH b) s)

/-- `vidx` (R179). -/
def execVidx (d a b : Reg) (s : State) : Host.Outcome State Fault Refusal :=
  runBody 4 s (fun s => vidxBody (rrr 0 0x0F4 0 b a d) (s.rdH d) (s.rd a).toInt (s.rd b).toInt s)

/-- `vpack` (R181). -/
def execVpack (d a b : Reg) (s : State) : Host.Outcome State Fault Refusal :=
  runBody 4 s (fun s => vpackBody (rrr 0 0x0F5 0 b a d) (s.rdH d) (s.rdH a) (s.rdH b) s)

/-- `vunpk` (R181). -/
def execVunpk (d a b : Reg) (s : State) : Host.Outcome State Fault Refusal :=
  runBody 4 s (fun s => vunpkBody (rrr 0 0x0F6 0 b a d) (s.rdH d) (s.rdH a) (s.rd b) s)

/-- `vrcp` (R173). -/
def execVrcp (d a : Reg) (f : BitVec 3) (s : State) : Host.Outcome State Fault Refusal :=
  runBody 4 s (fun s => unary (rrr 0 0x0F7 f 0 a d) (fun _ _ => 4) f false (fun v => divV (.fin false 1 0) v) (s.rdH d) (s.rdH a) s)

/-- `vrsqrt` (R173). -/
def execVrsqrt (d a : Reg) (f : BitVec 3) (s : State) : Host.Outcome State Fault Refusal :=
  runBody 4 s (fun s => unary (rrr 0 0x0F8 f 0 a d) (fun _ _ => 4) f false rsqrtV (s.rdH d) (s.rdH a) s)

end Sys2Proof.Machine
end

