-- ==== Sys2Proof/Machine/FunctionReg.lean ====
section
/-!
DEFINITION. Machine/FunctionReg.lean: row 9: function registers, their store, Chebyshev points, the fit and the evaluation
(spec/07 R186 to R206).
-/

namespace Sys2Proof.Machine

/-! ### FP32 values that carry the flags of their making (R13, R16, R17) -/

/-- An FP32 encoding and the flags raised on the way to it. -/
abbrev FR := Nat × Flags

/-- An encoding that raised nothing. -/
def frOf (x : Nat) : FR := (x, 0)
/-- An exact value rounded RNE, with its flags. -/
def frRound (v : FVal) (fl : Flags) : FR := let r := roundF fp32 .rne false v
  (r.1, fl ||| r.2)
/-- An exact value rounded RNE, without a flag. -/
def frQuiet (v : FVal) : Nat := (roundF fp32 .rne false v).1
/-- The value of an encoding. -/
def frVal (x : FR) : FVal := decodeF fp32 x.1
/-- A binary operation, rounded once. -/
def frBin (op : FVal → FVal → FVal × Flags) (x y : FR) : FR :=
  let r := op (frVal x) (frVal y)
  frRound r.1 (x.2 ||| y.2 ||| r.2)
def frAdd : FR → FR → FR := frBin (opAdd .rne)
def frSub : FR → FR → FR := frBin (opSub .rne)
def frMul : FR → FR → FR := frBin mulV
def frDiv : FR → FR → FR := frBin divV
/-- x·y + z, rounded once. -/
def frFma (x y z : FR) : FR :=
  let r := fmaV .rne (frVal x) (frVal y) (frVal z)
  frRound r.1 (x.2 ||| y.2 ||| z.2 ||| r.2)
/-- An integer of at most 24 bits as FP32: exact. -/
def frInt (n : Int) : FR := frOf (frQuiet (ofIntV n))
/-- One half. -/
def frHalf : FR := frOf 0x3F000000
/-- Exact negation; of a NaN the canonical one, and NV if it is signalling (R13). -/
def frNeg (x : FR) : FR :=
  if (frVal x).isNan then (fp32.nan, x.2 ||| flagIf (frVal x).isSig flNV) else (x.1 ^^^ 0x80000000, x.2)

/-- A running sum in order: the first term begins it (R35). -/
def frSum : List FR → FR
  | [] => frOf 0
  | x :: xs => xs.foldl frAdd x

/-- The flags of a list. -/
def frFlags (l : List FR) : Flags := l.foldl (fun f x => f ||| x.2) 0

/-! ### Cosines (R192) -/

/-- π·2^256, rounded down. -/
def piFixed : Nat := 0x3243f6a8885a308d313198a2e03707344a4093822299f31d0082efa98ec4e6c89

/-- The alternating series of the cosine: `x2` is the square of the angle, everything in units of 2^-256. -/
def cosSeries (x2 : Nat) : Nat → Nat → Nat → Int
  | 0, _, _ => 0
  | fuel + 1, i, t => (t : Int) - cosSeries x2 fuel (i + 1) (t * x2 / 2 ^ 256 / ((2 * i + 1) * (2 * i + 2)))

/-- cos(π·a/d) for 0 ≤ 2a ≤ d, in units of 2^-256. -/
def cosFixed (a d : Nat) : Nat :=
  let x := piFixed * a / d
  (cosSeries (x * x / 2 ^ 256) 48 0 (2 ^ 256)).toNat

/-- RoundFP32(cos(π·a/(2n))) (R192): the three rational cosines are exact. -/
def cosF (a n : Nat) : Nat :=
  let r := a % (4 * n)
  let r := if 2 * n < r then 4 * n - r else r
  let neg := decide (n < r)
  let r := if neg then 2 * n - r else r
  if r = n then 0
  else if r = 0 then frQuiet (.fin neg 1 0)
  else if 3 * r = 2 * n then frQuiet (.fin neg 1 (-1))
  else frQuiet (.fin neg (cosFixed r (2 * n)) (-256))

/-- The Chebyshev points of length n on an interval (R192), each rounded once. -/
def chebPoints (a b : Nat) (n : Nat) : List Nat :=
  let va := decodeF fp32 a
  let ba := (opSub .rne (decodeF fp32 b) va).1
  (List.range n).map (fun k =>
    let t := (addV .rne (.fin false 1 0) (decodeF fp32 (cosF (2 * k + 1) n))).1
    frQuiet (addV .rne va (scaleV (mulV ba t).1 (-1))).1)

/-! ### Evaluation (R193) -/

/-- The backward recurrence: the coefficients from the last down to c_1, with b_{k+1} and b_{k+2}. -/
def clenshaw (u : FR) : List FR → FR → FR → FR × FR
  | [], b1, b2 => (b1, b2)
  | c :: cs, b1, b2 => clenshaw u cs (frFma u b1 (frSub c b2)) b1

/-- f at an FP32 point; none outside the interval (R193). -/
def evalFn (cs : List Nat) (a b x : Nat) : Option FR :=
  let v := decodeF fp32 x
  if v.isNan then some (fp32.nan, flagIf v.isSig flNV)
  else if ltV v (decodeF fp32 a) || ltV (decodeF fp32 b) v then none
  else
    let t := frDiv (frSub (frSub (frOf x) (frOf a)) (frSub (frOf b) (frOf x))) (frSub (frOf b) (frOf a))
    let u := frMul (frInt 2) t
    let r := clenshaw u (cs.tail.reverse.map frOf) (frOf 0) (frOf 0)
    some (frFma t r.1 (frSub (frOf (cs.headD 0)) r.2))

/-- The plain form: a point outside gives the canonical NaN and DOMX (R202). Log entry 42 (DEDUCED). -/
def evalPlain (cs : List Nat) (a b x : Nat) : FR := (evalFn cs a b x).getD (fp32.nan, flDOMX)

/-- The fit of n samples (R194). -/
def fitSamples (ys : List FVal) : List FR :=
  let n := ys.length
  (List.range n).map (fun j =>
    let s := frSum (((List.range n).zip ys).map (fun (p : Nat × FVal) =>
      let r := mulV p.2 (decodeF fp32 (cosF (j * (2 * p.1 + 1)) n))
      frRound r.1 r.2))
    if j = 0 then frDiv s (frInt n) else frDiv (frMul (frInt 2) s) (frInt n))

/-! ### The register and its store (R186 to R191) -/

/-- Whether a and b bound an interval (R187). -/
def intervalOk (a b : Nat) : Bool :=
  let fin := fun (v : FVal) => match v with
    | .fin _ _ _ => true
    | _ => false
  let va := decodeF fp32 a
  let vb := decodeF fp32 b
  fin va && fin vb && ltV va vb && fin (frVal (frSub (frOf b) (frOf a)))

/-- DOMF with its reason (R191). -/
def domf (reason value : Nat) : Exc := .trap cDOMF (word (value % 2 ^ 32 * 2 ^ 32 + reason))

/-- A malformed interval raises DOMF with reason 4 (R187). -/
def intervalCheck (a b : Nat) : Except Exc Unit := need (intervalOk a b) (domf 4 a)

/-- A source register must be allocated (R186). Log entry 36 (DEDUCED). -/
def State.fnSource (s : State) (w : BitVec 32) (r : Reg) (bit : Nat) : Except Exc Unit :=
  need (s.rdF r).alloc (illopd w bit)

/-- The coefficients of a function register (R186). -/
def State.coeffs (s : State) (r : Reg) : List Nat :=
  let h := s.rdF r
  (List.range h.n.toNat).map (fun k => s.run.store.nat (4 * (h.off.toNat + k)) 4)

/-- Endpoints of a function register. -/
def State.fnA (s : State) (r : Reg) : Nat := (s.rdF r).a.toNat
def State.fnB (s : State) (r : Reg) : Nat := (s.rdF r).b.toNat

/-- Drops last coefficients that the tolerance covers; the list runs from the last (R190). Log entry 41 (DEDUCED). -/
def dropSmall (lim : FVal) : List Nat → List Nat
  | [] => []
  | [c] => [c]
  | c :: d :: l =>
    if !(decodeF fp32 c).isNan && leV (decodeF fp32 c).abs lim then dropSmall lim (d :: l) else c :: d :: l

/-- Truncation (R190): with τ = 0 only trailing zeros go. The flag is FNTRUNC. Log entry 41 (DEDUCED). -/
def truncate (tol : Nat) (cs : List Nat) : List Nat × Flags :=
  let vs := (cs.map (decodeF fp32)).filter (fun v => !v.isNan)
  let m := vs.foldl maxMag (.fin false 0 0)
  let t := decodeF fp32 tol
  let lim := if t.isZero then .fin false 0 0 else (mulV t m).1
  let kept := (dropSmall lim cs.reverse).reverse
  (kept.take 64, flagIf (decide (64 < kept.length)) flFNTRUNC)

/-- Whether a word of the store is free (R188, R189). -/
def State.freeWord (s : State) (w : Nat) : Bool :=
  !(s.run.ctx.words ++ s.run.pins).any (fun r => decide (r.1 ≤ w) && decide (w < r.1 + r.2))

/-- The first run of n free words, and the longest run before it; `fuel` words are left, `cur` free ones lie behind. -/
def scanRun (free : Nat → Bool) (n : Nat) : Nat → Nat → Nat → Option Nat × Nat
  | 0, _, longest => (none, longest)
  | fuel + 1, cur, longest =>
    let w := 1024 - (fuel + 1)
    if free w then
      if cur + 1 = n then (some (w + 1 - n), max longest n) else scanRun free n fuel (cur + 1) (max longest (cur + 1))
    else scanRun free n fuel 0 longest

/-- Writes a function into the store and its header (R188). -/
def State.putFn (s : State) (d : Reg) (a b : Nat) (cs : List Nat) (off : Nat) : State :=
  let s := { s with run := { s.run with store := s.run.store.put (4 * off) (cs.flatMap (bytesOf 4)) } }
  s.wrF d ⟨true, BitVec.ofNat 10 off, BitVec.ofNat 7 cs.length, BitVec.ofNat 32 b, BitVec.ofNat 32 a⟩

/-- Allocates a result (R188); a store without room leaves only FNSPACE, or traps FNSP under `.chk` (R191). Log entry
39 (DEDUCED). -/
def allocFn (chk : Bool) (d : Reg) (a b : Nat) (cs : List Nat) (fl : Flags) (s : State) : Res :=
  let r := scanRun s.freeWord cs.length 1024 0 0
  match r.1 with
  | some off => .ok ((s.putFn d a b cs off).raise fl)
  | none =>
    if chk then .exc s (.trap cFNSP (word (r.2 * 2 ^ 16 + cs.length)))
    else .ok (s.withCtx { s.run.ctx with fnspace := true })

/-- Truncates and allocates a result (R188, R190). -/
def produce (chk : Bool) (d : Reg) (a b : Nat) (cs : List FR) (fl : Flags) (s : State) : Res :=
  let t := truncate s.run.ctx.fntol.toNat (cs.map (·.1))
  allocFn chk d a b t.1 (fl ||| frFlags cs ||| t.2) s

/-! ### Building a function (R194 to R196) -/

/-- `fnfit` (R194). -/
def fnfitBody (w : BitVec 32) (chk : Bool) (d : Reg) (h : BitVec 256) (iv : Word) (s : State) : Res :=
  let n := (Shape.of h false).n
  withE s (checks [handleCheck w h false srcWant, need (decide (1 ≤ n) && decide (n ≤ 64)) (illopdH w)]) (fun _ =>
    withE s (s.vecSources w [(h, srcWant)]) (fun l =>
      let o := l.getD 0 ⟨Shape.of h false, 0, []⟩
      let a := fieldOf iv 0 32
      let b := fieldOf iv 32 32
      withE s (intervalCheck a b) (fun _ =>
        produce chk d a b (fitSamples ((List.range n).map (s.val o))) 0 (s.readOperand o))))

/-- `fndom` (R195). -/
def fndomBody (d : Reg) (a b : Nat) (s : State) : Res :=
  withE s (intervalCheck a b) (fun _ =>
    let r := opAdd .rne (decodeF fp32 a) (decodeF fp32 b)
    let t := opSub .rne (decodeF fp32 b) (decodeF fp32 a)
    produce false d a b [frRound (scaleV r.1 (-1)) r.2, frRound (scaleV t.1 (-1)) t.2] 0 s)

/-- The parts of 16 bytes of an image of `n` bytes, each checked by R126 (R196). -/
def State.imageParts (s : State) (w : BitVec 32) (q : Ask) (fmt : Word → TlbEntry → Except Exc Unit) (a : Word) (n : Nat) :
    Except Exc (List Loc) :=
  mapE (fun k =>
    let x := a + word (16 * k)
    match s.access 0 x (illopd w 17) 16 q noCheck (fmt x) with
    | .error e => .error e
    | .ok l => match s.plainAd l with
      | .error e => .error e
      | .ok _ => .ok l) (List.range ((n + 15) / 16))

/-- The bytes of an image's parts. -/
def State.imageBytes (s : State) (ls : List Loc) : List Byte := ls.flatMap (fun l => s.seenBytes l.home 16)

/-- `fnld` (R196): the header first, then the coefficients; everything is checked before the interval. -/
def fnldBody (w : BitVec 32) (d : Reg) (a : Word) (s : State) : Res :=
  withE s (s.imageParts w askLoad (fun _ => noCheck) a 16) (fun hs =>
    withE s (checks (hs.map (fun l => s.loadPoison [(l.home, 16)]))) (fun _ =>
      let hdr := natOfBytes (s.imageBytes hs)
      let fa := hdr % 2 ^ 32
      let fb := hdr / 2 ^ 32 % 2 ^ 32
      let n := hdr / 2 ^ 64 % 256
      withE s (need (decide (1 ≤ n) && decide (n ≤ 64)) (domf 4 fa)) (fun _ =>
        withE s (s.imageParts w askLoad (fun _ => noCheck) (a + 16) (4 * n)) (fun ls =>
          let sizes := ls.zip ((List.range ls.length).map (fun k => min 16 (4 * n - 16 * k)))
          withE s (checks (sizes.map (fun p => s.loadPoison [(p.1.home, p.2)]))) (fun _ =>
            withE s (intervalCheck fa fb) (fun _ =>
              let bs := s.imageBytes ls
              let cs := (List.range n).map (fun k => natOfBytes ((bs.drop (4 * k)).take 4))
              let s := hs.foldl (fun s l => s.afterLoad l 0 16) s
              allocFn false d fa fb cs 0 (sizes.foldl (fun s p => s.afterLoad p.1 0 p.2) s)))))))

/-- The image of a function register (R196). -/
def State.fnImage (s : State) (r : Reg) : List Byte :=
  bytesOf 4 (s.fnA r) ++ bytesOf 4 (s.fnB r) ++ bytesOf 8 (s.rdF r).n.toNat ++ (s.coeffs r).flatMap (bytesOf 4)

/-- Stores a list of bytes over parts of 16. -/
def State.putParts (s : State) : List Loc → List Byte → State
  | [], _ => s
  | l :: ls, bs => State.putParts (s.putBytes l.home (bs.take 16)) ls (bs.drop 16)

/-- `fnst` (R196): the stores go through the write log. Log entries 22 (DEDUCED), 36 (DEDUCED). -/
def fnstBody (w : BitVec 32) (d : Reg) (a : Word) (s : State) : Res :=
  withE s (s.fnSource w d 11) (fun _ =>
    let bs := s.fnImage d
    withE s (s.imageParts w askStore noBlocks a bs.length) (fun ls =>
      withS (s.storeRoom (ls.map (·.home)) []) (fun s => .ok (s.putParts ls bs))))

/-! ### Arithmetic (R197 to R199) -/

/-- Sources of one interval (R197). -/
def State.fnPair (s : State) (w : BitVec 32) (a b : Reg) : Except Exc Unit :=
  checks [s.fnSource w a 17, s.fnSource w b 23,
    need ((s.rdF a).a == (s.rdF b).a && (s.rdF a).b == (s.rdF b).b) (domf 1 0)]

/-- Combines two series coefficient by coefficient; `lone` makes one that only the second has. -/
def zipSeries (op : FR → FR → FR) (lone : FR → FR) : List Nat → List Nat → List FR
  | [], ds => ds.map (fun d => lone (frOf d))
  | cs, [] => cs.map frOf
  | c :: cs, d :: ds => op (frOf c) (frOf d) :: zipSeries op lone cs ds

/-- The contributions of the product rule in loop order: an index and a term (R197). -/
def mulTerms (cs ds : List Nat) : List (Nat × FR) :=
  ((List.range cs.length).zip cs).flatMap (fun (p : Nat × Nat) =>
    ((List.range ds.length).zip ds).flatMap (fun (q : Nat × Nat) =>
      let h := frMul (frMul (frOf p.2) (frOf q.2)) frHalf
      [(p.1 + q.1, h), (if p.1 ≤ q.1 then q.1 - p.1 else p.1 - q.1, h)]))

/-- The product of two series (R197). -/
def mulSeries (cs ds : List Nat) : List FR :=
  let ts := mulTerms cs ds
  (List.range (cs.length + ds.length - 1)).map (fun m => frSum ((ts.filter (fun t => t.1 == m)).map (·.2)))

/-- `fnadd`, `fnsub` and `fnmul`: `f` combines the series (R197). -/
def fnarithBody (w : BitVec 32) (chk : Bool) (f : List Nat → List Nat → List FR) (d a b : Reg) (s : State) : Res :=
  withE s (s.fnPair w a b) (fun _ => produce chk d (s.fnA a) (s.fnB a) (f (s.coeffs a) (s.coeffs b)) 0 s)

/-- `fnscale` (R198). -/
def fnscaleBody (w : BitVec 32) (chk : Bool) (d a : Reg) (v : Word) (s : State) : Res :=
  withE s (s.fnSource w a 17) (fun _ =>
    produce chk d (s.fnA a) (s.fnB a) ((s.coeffs a).map (fun c => frMul (frOf c) (frOf (fieldOf v 0 32)))) 0 s)

/-- A binary operation in a directed mode, with flags. -/
def frDir (m : RMode) (op : FVal → FVal → FVal × Flags) (x y : FR) : FR :=
  let r := op (frVal x) (frVal y)
  let v := roundF fp32 m false r.1
  (v.1, x.2 ||| y.2 ||| r.2 ||| v.2)

/-- The enclosure of a range: lo and hi (R199). -/
def enclosure (cs : List Nat) : FR × FR :=
  let mags := cs.tail.map (fun c => frOf (c % 2 ^ 31))
  let sum := match mags with
    | [] => frOf 0
    | x :: xs => xs.foldl (frDir .rup (addV .rup)) x
  let c0 := frOf (cs.headD 0)
  (frDir .rdn (opSub .rdn) c0 sum, frDir .rup (addV .rup) c0 sum)

/-- The enclosure must lie within the outer interval (R199). -/
def enclosureCheck (lo hi : FR) (a b : Nat) : Except Exc Unit :=
  checks [need (!(frVal lo).isNan && !(frVal hi).isNan) (domf 2 fp32.nan),
    need (!ltV (frVal lo) (decodeF fp32 a)) (domf 2 lo.1), need (!ltV (decodeF fp32 b) (frVal hi)) (domf 2 hi.1)]

/-- Clamps a point into an interval; a NaN stays. Log entry 42 (DEDUCED). -/
def clampTo (a b z : Nat) : Nat :=
  if ltV (decodeF fp32 z) (decodeF fp32 a) then a else if ltV (decodeF fp32 b) (decodeF fp32 z) then b else z

/-- `fncomp` (R199). Log entry 42 (DEDUCED). -/
def fncompBody (w : BitVec 32) (chk : Bool) (d a b : Reg) (s : State) : Res :=
  withE s (checks [s.fnSource w a 17, s.fnSource w b 23]) (fun _ =>
    let ca := s.coeffs a
    let cb := s.coeffs b
    let e := enclosure cb
    withE s (enclosureCheck e.1 e.2 (s.fnA a) (s.fnB a)) (fun _ =>
      let full := (ca.length - 1) * (cb.length - 1) + 1
      let ys := (chebPoints (s.fnA b) (s.fnB b) (min 64 full)).map (fun x =>
        let z := evalPlain cb (s.fnA b) (s.fnB b) x
        let y := evalPlain ca (s.fnA a) (s.fnB a) (clampTo (s.fnA a) (s.fnB a) z.1)
        ((y.1, z.2 ||| y.2) : FR))
      produce chk d (s.fnA b) (s.fnB b) (fitSamples (ys.map frVal))
        (e.1.2 ||| e.2.2 ||| frFlags ys ||| flagIf (decide (64 < full)) flFNTRUNC) s))

/-! ### Calculus (R200, R201) -/

/-- The derivative of a series on [a, b] (R200): of a constant it is one zero, for which nothing is computed and no flag raised.
Log entry 125 (DESIGN CHOICE). -/
def derSeries (cs : List Nat) (a b : Nat) : List FR :=
  let n := cs.length
  if n ≤ 1 then [frOf 0]
  else
    let v := frDiv (frInt 2) (frSub (frOf b) (frOf a))
    (List.range (n - 1)).map (fun k =>
      let t := frSum (((List.range n).filter (fun (j : Nat) => decide (k < j) && (j - k) % 2 == 1)).map (fun (j : Nat) =>
        frMul (frInt (2 * j)) (frOf (cs.getD j 0))))
      frMul (if k = 0 then frMul t frHalf else t) v)

/-- The antiderivative of a series on [a, b] (R201). -/
def intSeries (cs : List Nat) (a b : Nat) : List FR :=
  let c := fun (j : Nat) => frOf (cs.getD j 0)
  let w := frMul (frSub (frOf b) (frOf a)) (frOf 0x3E800000)
  let c1 := frMul (frFma (frInt 2) (c 0) (frNeg (c 2))) w
  let rest := ((List.range (cs.length + 1)).drop 2).map (fun (k : Nat) =>
    frMul (frSub (c (k - 1)) (c (k + 1))) (frDiv w (frInt k)))
  let all := c1 :: rest
  let c0 := frSum (((List.range all.length).zip all).map (fun (p : Nat × FR) => if p.1 % 2 = 0 then p.2 else frNeg p.2))
  c0 :: all

/-- `fnder` and `fnint`: `f` makes the series (R200, R201). -/
def calculusBody (w : BitVec 32) (chk : Bool) (f : List Nat → Nat → Nat → List FR) (d a : Reg) (s : State) : Res :=
  withE s (s.fnSource w a 17) (fun _ => produce chk d (s.fnA a) (s.fnB a) (f (s.coeffs a) (s.fnA a) (s.fnB a)) 0 s)

/-! ### Evaluation and roots (R202, R203) -/

/-- `fnevs` (R202). -/
def fnevsBody (w : BitVec 32) (strict : Bool) (d a : Reg) (v : Word) (s : State) : Res :=
  let x := fieldOf v 0 32
  withE s (s.fnSource w a 17) (fun _ =>
    match evalFn (s.coeffs a) (s.fnA a) (s.fnB a) x with
    | some y => .ok ((s.wr d (word y.1)).raise y.2)
    | none => if strict then .exc s (domf 3 x) else .ok ((s.wr d (word fp32.nan)).raise flDOMX))

/-- A point of `fneval`: the element as FP32 with its flags (R202). -/
def State.fnPoint (s : State) (b : Opnd) (j : Nat) : FR := frRound (s.val b j) 0

/-- `.strict` checks every point before it writes any element (R202): one that goes on after a pre-emption has done so (R161).
Log entry 135 (DESIGN CHOICE). -/
def State.fnStrict (s : State) (a : Reg) (b : Opnd) : Except Exc Unit :=
  if s.run.part != 0 then .ok ()
  else checks ((List.range b.sh.n).map (fun j =>
    need (evalFn (s.coeffs a) (s.fnA a) (s.fnB a) (s.fnPoint b j).1).isSome (domf 3 (s.fnPoint b j).1)))

/-- `fneval` (R202); a point outside the interval is found before the destination's lines are counted. Log entries
11 (DEDUCED), 126 (DESIGN CHOICE), 135 (DESIGN CHOICE). -/
def fnevalBody (w : BitVec 32) (strict : Bool) (d : BitVec 256) (a : Reg) (b : BitVec 256) (s : State) : Res :=
  withE s (s.fnSource w a 17) (fun _ =>
    withT (s.vecOperands w d dstWant [.plain b srcWant] sameCount false) (fun p =>
      let o := p.2.2.getD 0 p.2.1
      withE s (if strict then s.fnStrict a o else .ok ()) (fun _ =>
        vecStores w 4 p.2.1 p.2.2 (fun s j =>
          let x := s.fnPoint o j
          let y := evalPlain (s.coeffs a) (s.fnA a) (s.fnB a) x.1
          let r := encodeVal p.2.1.fmt .rne false (frVal y)
          (s.putElem p.2.1 j r.1, x.2 ||| y.2 ||| r.2)) p.1)))

/-- Point i of the search of `fnroot`: the ends are exact, the others rounded once (R203). -/
def rootPoint (a b n i : Nat) : Nat :=
  if i = 0 then a
  else if i = 4 * n - 1 then b
  else
    let va := decodeF fp32 a
    let ba := (opSub .rne (decodeF fp32 b) va).1
    let m := ofIntV (4 * n - 1)
    frQuiet (divV (addV .rne (mulV va m).1 (mulV ba (ofIntV i)).1).1 m).1

/-- A midpoint, rounded once without a flag (R203). -/
def midpoint (lo hi : Nat) : Nat := frQuiet (scaleV (addV .rne (decodeF fp32 lo) (decodeF fp32 hi)).1 (-1))

/-- The bisection of a bracket: the root and the flags of the evaluations (R203). -/
def bisect (eval : Nat → FR) : Nat → Nat → Nat → Nat → FR
  | 0, lo, hi, _ => (midpoint lo hi, 0)
  | fuel + 1, lo, hi, vlo =>
    let m := midpoint lo hi
    if m = lo || m = hi then (midpoint lo hi, 0)
    else
      let v := eval m
      let x := frVal v
      if x.isZero then (m, v.2)
      else if x.isNan then (midpoint lo hi, v.2)
      else
        let r := if v.1 / 2 ^ 31 = vlo / 2 ^ 31 then bisect eval fuel m hi v.1 else bisect eval fuel lo m vlo
        (r.1, v.2 ||| r.2)

/-- The roots among consecutive samples, with the flags of the bisections (R203). -/
def rootsOf (eval : Nat → FR) : Option (Nat × Nat) → List (Nat × Nat) → List FR
  | _, [] => []
  | prev, (p, v) :: l =>
    let x := decodeF fp32 v
    let here := if x.isZero then [frOf p]
      else match prev with
        | some (q, u) =>
          let y := decodeF fp32 u
          if !y.isZero && !y.isNan && !x.isNan && u / 2 ^ 31 != v / 2 ^ 31 then [bisect eval 32 q p u] else []
        | none => []
    here ++ rootsOf eval (some (p, v)) l

/-- `fnroot` (R203). -/
def fnrootBody (w : BitVec 32) (d a : Reg) (addr : Word) (s : State) : Res :=
  withE s (s.fnSource w a 17) (fun _ =>
    let n := (s.rdF a).n.toNat
    withE s (checks [need (decide (addr.toNat + 16 * n ≤ Config.spSize)) (illopd w 23),
        need (addr.toNat % 4 == 0) (.trap cALIGN addr)]) (fun _ =>
      let eval := evalPlain (s.coeffs a) (s.fnA a) (s.fnB a)
      let samples := (List.range (4 * n)).map (fun i => let p := rootPoint (s.fnA a) (s.fnB a) n i
        (p, eval p))
      let roots := rootsOf eval none (samples.map (fun q => (q.1, q.2.1)))
      let bs := roots.flatMap (fun r => bytesOf 4 r.1)
      let homes := (List.range roots.length).map (fun k => s.spA (addr.toNat + 4 * k))
      withS (s.storeRoom homes []) (fun s =>
        .ok (((s.putBytes (s.spA addr.toNat) bs).wr d (word roots.length)).raise
          (frFlags (samples.map (·.2)) ||| frFlags roots)))))

/-! ### Housekeeping (R204) -/

/-- `fntrunc`. -/
def fntruncBody (w : BitVec 32) (chk : Bool) (d a : Reg) (v : Word) (s : State) : Res :=
  withE s (checks [s.fnSource w a 17, need (decide (1 ≤ v.toNat) && decide (v.toNat ≤ 64)) (illopd w 23)]) (fun _ =>
    produce chk d (s.fnA a) (s.fnB a) (((s.coeffs a).take v.toNat).map frOf) 0 s)

/-- `fnfree`. -/
def fnfreeBody (d : Reg) (s : State) : Res := .ok (s.wrF d { s.rdF d with alloc := false })

/-- `fnlen`. -/
def fnlenBody (w : BitVec 32) (d a : Reg) (s : State) : Res :=
  withE s (s.fnSource w a 17) (fun _ =>
    .ok (s.wr d (word ((s.rdF a).n.toNat + (s.rdF a).off.toNat * 2 ^ 16))))

/-- `fnmov`. -/
def fnmovBody (w : BitVec 32) (chk : Bool) (d a : Reg) (s : State) : Res :=
  withE s (s.fnSource w a 17) (fun _ =>
    if d = a then .ok s else allocFn chk d (s.fnA a) (s.fnB a) (s.coeffs a) 0 s)

/-! ### Instructions -/

/-- `fnfit` (R194). -/
def execFnfit (d a b : Reg) (c : BitVec 1) (s : State) : Host.Outcome State Fault Refusal :=
  runBody 4 s (fun s => fnfitBody (rrr 0 0x120 (0#2 ++ c) b a d) (c == 1) d (s.rdH a) (s.rd b) s)

/-- `fnld` (R196). -/
def execFnld (d a : Reg) (i : BitVec 9) (s : State) : Host.Outcome State Fault Refusal :=
  runBody 4 s (fun s => fnldBody (rri 0 0x121 i a d) d (s.rd a + sext i) s)

/-- `fnld` with a literal (R196). -/
def execFnldLit (d a : Reg) (l : Word) (s : State) : Host.Outcome State Fault Refusal :=
  runBody 12 s (fun s => fnldBody (rri 1 0x121 0 a d) d (s.rd a + l) s)

/-- `fnst` (R196). -/
def execFnst (d a : Reg) (i : BitVec 9) (s : State) : Host.Outcome State Fault Refusal :=
  runBody 4 s (fun s => fnstBody (rri 0 0x122 i a d) d (s.rd a + sext i) s)

/-- `fnst` with a literal (R196). -/
def execFnstLit (d a : Reg) (l : Word) (s : State) : Host.Outcome State Fault Refusal :=
  runBody 12 s (fun s => fnstBody (rri 1 0x122 0 a d) d (s.rd a + l) s)

/-- `fnadd` (R197). -/
def execFnadd (d a b : Reg) (c : BitVec 1) (s : State) : Host.Outcome State Fault Refusal :=
  runBody 4 s (fnarithBody (rrr 0 0x123 (0#2 ++ c) b a d) (c == 1) (zipSeries frAdd id) d a b)

/-- `fnsub` (R197). -/
def execFnsub (d a b : Reg) (c : BitVec 1) (s : State) : Host.Outcome State Fault Refusal :=
  runBody 4 s (fnarithBody (rrr 0 0x124 (0#2 ++ c) b a d) (c == 1) (zipSeries frSub frNeg) d a b)

/-- `fnmul` (R197). -/
def execFnmul (d a b : Reg) (c : BitVec 1) (s : State) : Host.Outcome State Fault Refusal :=
  runBody 4 s (fnarithBody (rrr 0 0x125 (0#2 ++ c) b a d) (c == 1) mulSeries d a b)

/-- `fnscale` (R198). -/
def execFnscale (d a b : Reg) (c : BitVec 1) (s : State) : Host.Outcome State Fault Refusal :=
  runBody 4 s (fun s => fnscaleBody (rrr 0 0x126 (0#2 ++ c) b a d) (c == 1) d a (s.rd b) s)

/-- `fncomp` (R199). -/
def execFncomp (d a b : Reg) (c : BitVec 1) (s : State) : Host.Outcome State Fault Refusal :=
  runBody 4 s (fncompBody (rrr 0 0x127 (0#2 ++ c) b a d) (c == 1) d a b)

/-- `fnint` (R201). -/
def execFnint (d a : Reg) (c : BitVec 1) (s : State) : Host.Outcome State Fault Refusal :=
  runBody 4 s (calculusBody (rrr 0 0x128 (0#2 ++ c) 0 a d) (c == 1) intSeries d a)

/-- `fnder` (R200). -/
def execFnder (d a : Reg) (c : BitVec 1) (s : State) : Host.Outcome State Fault Refusal :=
  runBody 4 s (calculusBody (rrr 0 0x129 (0#2 ++ c) 0 a d) (c == 1) derSeries d a)

/-- `fnroot` (R203). -/
def execFnroot (d a b : Reg) (s : State) : Host.Outcome State Fault Refusal :=
  runBody 4 s (fun s => fnrootBody (rrr 0 0x12A 0 b a d) d a (s.rd b) s)

/-- `fneval` (R202). -/
def execFneval (d a b : Reg) (c : BitVec 1) (s : State) : Host.Outcome State Fault Refusal :=
  runBody 4 s (fun s => fnevalBody (rrr 0 0x12B (0#2 ++ c) b a d) (c == 1) (s.rdH d) a (s.rdH b) s)

/-- `fnevs` (R202). -/
def execFnevs (d a b : Reg) (c : BitVec 1) (s : State) : Host.Outcome State Fault Refusal :=
  runBody 4 s (fun s => fnevsBody (rrr 0 0x12C (0#2 ++ c) b a d) (c == 1) d a (s.rd b) s)

/-- `fntrunc` (R204). -/
def execFntrunc (d a b : Reg) (c : BitVec 1) (s : State) : Host.Outcome State Fault Refusal :=
  runBody 4 s (fun s => fntruncBody (rrr 0 0x12D (0#2 ++ c) b a d) (c == 1) d a (s.rd b) s)

/-- `fndom` (R195). -/
def execFndom (d a b : Reg) (s : State) : Host.Outcome State Fault Refusal :=
  runBody 4 s (fun s => fndomBody d (fieldOf (s.rd a) 0 32) (fieldOf (s.rd b) 0 32) s)

/-- `fnfree` (R204). -/
def execFnfree (d : Reg) (s : State) : Host.Outcome State Fault Refusal :=
  runBody 4 s (fnfreeBody d)

/-- `fnlen` (R204). -/
def execFnlen (d a : Reg) (s : State) : Host.Outcome State Fault Refusal :=
  runBody 4 s (fnlenBody (rrr 0 0x130 0 0 a d) d a)

/-- `fnmov` (R204). -/
def execFnmov (d a : Reg) (c : BitVec 1) (s : State) : Host.Outcome State Fault Refusal :=
  runBody 4 s (fnmovBody (rrr 0 0x131 (0#2 ++ c) 0 a d) (c == 1) d a)

end Sys2Proof.Machine
end

