-- ==== Sys2Proof/Machine/Encoder.lean ====
section
/-!
DEFINITION. Machine/Encoder.lean: row 10 columns 0 to 8: the pursuit encoder, its records, and the images of atoms
(spec/08 R207 to R230; spec/01 R32).
-/

namespace Sys2Proof.Machine

/-! ### Arithmetic (R209): FP32 encodings, RNE, no flag -/

/-- RoundFP32(x·y) of exact values. -/
def encMul (x y : FVal) : Nat := frQuiet (mulV x y).1
/-- RoundFP32(x + y) of encodings. -/
def encAdd (x y : Nat) : Nat := frQuiet (addV .rne (decodeF fp32 x) (decodeF fp32 y)).1
/-- RoundFP32(x − y) of encodings. -/
def encSub (x y : Nat) : Nat := frQuiet (opSub .rne (decodeF fp32 x) (decodeF fp32 y)).1
/-- RoundBF16 of an exact value. -/
def toBf16 (v : FVal) : Nat := (roundF bf16 .rne false v).1
/-- A running sum in order (R35). -/
def encSum : List Nat → Nat
  | [] => 0
  | x :: xs => xs.foldl encAdd x
/-- The sum of rounded products (R217, R226). -/
def encDot (xs ys : List FVal) : Nat := encSum (List.zipWith encMul xs ys)

/-! ### The dictionary (R164, R210) -/

/-- Element j of atom k. -/
def Enc.atomRaw (e : Enc) (k j : Nat) : Nat := e.dict.nat (128 * k + 2 * j) 2
/-- Atom k. -/
def Enc.atom (e : Enc) (k : Nat) : List FVal := (List.range 64).map (fun j => decodeF bf16 (e.atomRaw k j))
/-- q_k. -/
def Enc.q (e : Enc) (k : Nat) : FVal := decodeF fp32 (e.dict.nat (128 * e.n + 4 * k) 4)

/-- Whether a value is finite. -/
def FVal.isFin : FVal → Bool
  | .fin _ _ _ => true
  | _ => false

/-- Whether an atom element and a factor are legal (R210). -/
def Enc.sound (e : Enc) : Bool :=
  (List.range e.n).all (fun k => (e.atom k).all (·.isFin) &&
    (match e.q k with
      | .fin neg m _ => !neg && m != 0
      | _ => false))

/-! ### The encoder's path (R227, R229) -/

/-- Exchanges the core's path and the encoder's in what a path may miss. -/
def StaleByte.swap (b : StaleByte) : StaleByte :=
  { b with
    cls := if b.cls = 0 then 4 else if b.cls = 4 then 0 else b.cls
    late := b.late &&& 0b101110#6 ||| (if b.late.getLsbD 0 then 0b010000#6 else 0) ||| (if b.late.getLsbD 4 then 1 else 0)
    key := b.key ^^^ 4 }

/-- The state with the two paths exchanged. -/
def State.swapPath (s : State) : State := { s with die := { s.die with stale := s.die.stale.map StaleByte.swap } }

/-- A result with the two paths exchanged. -/
def Res.swapPath : Res → Res
  | .ok s => .ok s.swapPath
  | .okCk s => .okCk s.swapPath
  | .jump s t => .jump s.swapPath t
  | .gone s => .gone s.swapPath
  | .exc s e => .exc s.swapPath e

/-- An encoder instruction reads and writes by the path `en`: the core's own sees its writes, and it the core's (R229). -/
def onEncoder (body : State → Res) (s : State) : Res := (body s.swapPath).swapPath

/-- Elements in ascending address. -/
def insertElem (addr : Nat → Nat) (j : Nat) : List Nat → List Nat
  | [] => [j]
  | i :: is => if addr j ≤ addr i then j :: i :: is else i :: insertElem addr j is

/-- Sorts elements by address. -/
def sortElems (addr : Nat → Nat) : List Nat → List Nat
  | [] => []
  | j :: js => insertElem addr j (sortElems addr js)

/-- Row 7 of R126 for the encoder: ADPF on a differentiable page outside OFF (R228). -/
def State.encAd (s : State) (l : Loc) : Except Exc Unit := need (!(l.onAd && (s.fwd || s.rev))) (.trap cADPF l.va)

/-- The checks of one element that the encoder reads or writes. -/
def State.encElem (s : State) (w : BitVec 32) (sh : Shape) (f : Nat) (x : Want) (j : Nat) : Except Exc Elem :=
  match s.elemCheck w sh f x j with
  | .error e => .error e
  | .ok e => match s.encAd e.loc with
    | .error x => .error x
    | .ok _ => .ok e

/-- The checks of elements `js` of an operand of the encoder, in ascending address (R227). -/
def State.encElems (s : State) (w : BitVec 32) (sh : Shape) (f : Nat) (x : Want) (js : List Nat) : Except Exc (List Elem) :=
  match mapE (s.encElem w sh f x) (sortElems (fun j => (sh.addr f j).toNat) js) with
  | .error e => .error e
  | .ok _ => mapE (s.encElem w sh f x) js

/-- Elements `js` of an operand of the encoder, checked. -/
def State.encOperand (s : State) (w : BitVec 32) (h : BitVec 256) (dst : Bool) (x : Want) (js : List Nat) : Except Exc Opnd :=
  let sh := Shape.of h dst
  match s.resolveFmt w sh x with
  | .error e => .error e
  | .ok f => match s.encElems w sh f x js with
    | .error e => .error e
    | .ok els => .ok ⟨sh, f, els⟩

/-- The first byte of every granule that `n` bytes from `a` on touch, and how many bytes lie there. -/
def granuleCuts (a : Word) (n : Nat) : Nat → List (Word × Nat)
  | 0 => []
  | fuel + 1 =>
    let k := min n (65536 - a.toNat % 65536)
    if n = 0 then [] else (a, k) :: granuleCuts (a + word k) (n - k) fuel

/-- The bytes of a dictionary: every byte checked (R210). -/
def State.dictRead (s : State) (w : BitVec 32) (sh : Shape) (n : Nat) : Except Exc (List (Loc × Nat)) :=
  mapE (fun (p : Word × Nat) =>
    match s.access sh.space p.1 (illopdH w) 1 askLoad noCheck (fun e =>
        need (if sh.fmt = 0 then e.fmt == 2 else e.fmt != 6) (.trap cFMTF p.1)) with
    | .error e => .error e
    | .ok l => match s.encAd l with
      | .error e => .error e
      | .ok _ => .ok (l, p.2)) (granuleCuts sh.base n 8)

/-- The home of each byte of a piece, under the handle's swizzle. Log entry 43 (DEDUCED). -/
def State.pieceHomes (s : State) (swz : Nat) (p : Loc × Nat) : List (Nat × Nat) :=
  if p.1.space = 1 && swz != 0 then
    (List.range p.2).map (fun i => (s.spA (swizzle swz (p.1.va.toNat + i)), 1))
  else [(p.1.home, p.2)]

/-- The parts of a run of bytes in each line, for the check of poison. -/
def lineCuts (u : Nat × Nat) : List (Nat × Nat) :=
  (List.range ((u.1 % 64 + u.2 + 63) / 64)).map (fun i =>
    let lo := max u.1 ((u.1 / 64 + i) * 64)
    (lo, min (u.1 + u.2) ((u.1 / 64 + i + 1) * 64) - lo))

/-- `pdict` (R210), after the checkpoint of R208; FMT 0 outside SPACE 0 raises ILLOPD. Log entry 128 (DEDUCED). -/
def pdictBody (w : BitVec 32) (h : BitVec 256) (s : State) : Res :=
  withS s.checkpointHere (fun s =>
    let sh := Shape.of h false
    let n := hDim h 1
    let ok := hKind h == 2 && hRank h == 2 && hDim h 0 == 64 && decide (1 ≤ n) && decide (n ≤ 256) &&
      (hFmt h == 2 || (hFmt h == 0 && hSpace h == 0)) && hSpace h != 2
    withE s (checks [need ok (illopdH w), need (sh.base.toNat % 128 == 0) (.trap cALIGN sh.base),
        need (hSpace h == 0 || inSpace (hSpace h) (sh.base + word (132 * n - 1))) (illopdH w)]) (fun _ =>
      withE s (s.dictRead w sh (132 * n)) (fun ps =>
        withE s (checks (ps.map (fun p => s.loadPoison ((s.pieceHomes sh.swz p).flatMap lineCuts))))
          (fun _ =>
            let units := ps.flatMap (s.pieceHomes sh.swz)
            let e : Enc := { s.core.enc with dict := Memory.put [] 0 (s.unitBytes units), n := n }
            let t := ps.foldl (fun s p => s.afterUnits p.1 (s.pieceHomes sh.swz p)) s
            withE s (need e.sound (illopdH w)) (fun _ => .ok { t with core := { t.core with enc := e } })))))

/-! ### Configuration (R212, R222) -/

/-- `pimg` (R222), after the checkpoint of R208. -/
def pimgBody (w : BitVec 32) (h : BitVec 256) (s : State) : Res :=
  withS s.checkpointHere (fun s =>
    let f := hFmt h
    let blocks := f != 6 || (hDim h 0 % 8 == 0 && hStride h 1 % 8 == 0 && hStride h 2 % 8 == 0 &&
      (hBase h).toNat % (if hSpace h = 0 then 4 else 16) == 0)
    let ok := hKind h == 3 && hRank h == 3 && decide (1 ≤ hDim h 0) && decide (hDim h 0 ≤ 64) &&
      decide (65 ≤ hDim h 1) && decide (hDim h 1 ≤ 320) && decide (1 ≤ hDim h 2) && hStride h 0 == 1 &&
      (f == 2 || f == 4 || f == 6 || (f == 0 && hSpace h == 0)) && hSpace h != 2 && blocks
    withE s (need ok (illopdH w)) (fun _ =>
      .ok { s with core := { s.core with enc := { s.core.enc with img := some h } } }))

/-- A threshold: neither NaN nor below zero (R212). -/
def thresholdOk (x : Nat) : Bool := x = 2 ^ 31 || decide (x ≤ 0x7F800000)

/-- −0 is stored as +0. -/
def plusZero (x : Nat) : BitVec 32 := if x = 2 ^ 31 then 0 else BitVec.ofNat 32 x

/-- `pthr` (R212), after the checkpoint of R208. -/
def pthrBody (w : BitVec 32) (a b : Word) (s : State) : Res :=
  withS s.checkpointHere (fun s =>
    let theta := fieldOf a 0 32
    let phi := fieldOf a 32 32
    withE s (checks [need (thresholdOk theta && thresholdOk phi) (illopd w 17),
        need (decide (1 ≤ b.toNat) && decide (b.toNat ≤ 16)) (illopd w 23)]) (fun _ =>
      .ok { s with core := { s.core with enc :=
        { s.core.enc with theta := plusZero theta, phi := plusZero phi, kmax := b.toNat } } }))

/-! ### Records (R213 to R216) -/

/-- The requirements on a code buffer (R214): its counts lie where a ring's do, though R52 calls those bits of a KIND 4 handle
reserved. Log entry 122 (DEDUCED). -/
def codeBufferOk (h : BitVec 256) : Bool :=
  hKind h == 4 && hSpace h == 1 && hFmt h == 12 && hRank h == 1 && hDim h 0 == 64 && (hBase h).toNat % 256 == 0 &&
    decide (1 ≤ hCap h) && decide (hCap h ≤ 1024) && decide ((hBase h).toNat + 256 * hCap h ≤ Config.spSize) &&
    decide (hFilled h ≤ hCap h)

/-- The storage of the record in slot `i` of a code buffer, under the handle's swizzle (R47, R214). Log entries 43 (DEDUCED),
44 (DEDUCED). -/
def State.recordElem (s : State) (h : BitVec 256) (i : Nat) : Elem :=
  let a := (hBase h).toNat + 256 * (i % hCap h)
  ⟨⟨s.spA a, 1, word a, none⟩, (unitsOf a 256).map (fun u => (s.spA (swizzle (hSwz h) u.1), u.2)), 0⟩

/-- The records of a code buffer as an operand. -/
def State.recordOpnd (s : State) (h : BitVec 256) (is : List Nat) : Opnd :=
  ⟨Shape.of h true, 12, is.map (s.recordElem h)⟩

/-- The bytes of a record (R215); words are 32 bits. -/
def recordBytes (kind seg : Nat) (p0 p1 : List Nat) : List Byte :=
  let pad := fun (p : List Nat) => bytesOf 112 (natOfBytes (p.flatMap (bytesOf 4)))
  bytesOf 16 (seg % 256 + kind * 2 ^ 8 + p0.length * 2 ^ 32 + p1.length * 2 ^ 40) ++ pad p0 ++ bytesOf 16 0 ++ pad p1

/-- The words of an escape payload: FIRST and 32 BF16 elements (R216). -/
def escapeWords (first : Nat) (xs : List Nat) : List Nat :=
  first :: (List.range 16).map (fun i => xs.getD (2 * i) 0 + xs.getD (2 * i + 1) 0 * 2 ^ 16)

/-- A code word (R32). -/
def codeWord (coef atom seg : Nat) : Nat := coef * 2 ^ 16 + atom * 2 ^ 8 + seg % 256

/-! ### The greedy pursuit (R217 to R220) -/

/-- How the coding of a segment ended. -/
structure SegCode where
  words : List Nat
  m : Nat
  esc : Bool
  e : Nat
  deriving DecidableEq, Repr

/-- The lowest index with the largest magnitude; a NaN ranks below every number. -/
def bestAtom : List Nat → Nat → Option (Nat × Nat) → Option (Nat × Nat)
  | [], _, b => b
  | c :: cs, k, b =>
    let v := decodeF fp32 c
    let better := match b with
      | none => true
      | some p => ltV (decodeF fp32 p.2).abs v.abs
    bestAtom cs (k + 1) (if !v.isNan && better then some (k, c) else b)

/-- The loop of R217: `r` the residual, `t` the threshold. -/
def pursue (enc : Enc) (seg t : Nat) : Nat → List Nat → Nat → List Nat → SegCode
  | 0, _, e, ws => ⟨ws, ws.length, false, e⟩
  | fuel + 1, r, e, ws =>
    if ltV (decodeF fp32 t) (decodeF fp32 e) then
      let rv := r.map (decodeF fp32)
      let cs := (List.range enc.n).map (fun k => encDot rv (enc.atom k))
      match bestAtom cs 0 none with
      | none => ⟨ws, ws.length, true, e⟩
      | some (k, c) =>
        let a := toBf16 (decodeF fp32 (encMul (decodeF fp32 c) (enc.q k)))
        let av := decodeF bf16 a
        if !(decodeF fp32 c).isFin || !av.isFin then ⟨ws, ws.length, true, e⟩
        else if av.isZero then ⟨ws, ws.length, false, e⟩
        else
          let r := List.zipWith (fun x d => encSub x (encMul av d)) r (enc.atom k)
          let rv := r.map (decodeF fp32)
          pursue enc seg t fuel r (encDot rv rv) (ws ++ [codeWord a k seg])
    else ⟨ws, ws.length, false, e⟩

/-- Codes a segment of FP32 elements; with it e0 (R217). -/
def codeSegment (enc : Enc) (seg : Nat) (x : List Nat) : SegCode × Nat :=
  let xv := x.map (decodeF fp32)
  if xv.any (fun v => !v.isFin) then (⟨[], 0, true, 0⟩, 0)
  else
    let e0 := encDot xv xv
    if decodeF fp32 e0 = .inf false then (⟨[], 0, true, e0⟩, e0)
    else if (decodeF fp32 e0).isZero then (⟨[], 0, false, e0⟩, e0)
    else
      let t := encMul (decodeF fp32 enc.theta.toNat) (decodeF fp32 e0)
      let c := pursue enc seg t enc.kmax x e0 []
      let e := decodeF fp32 c.e
      let limit := decodeF fp32 (encMul (decodeF fp32 enc.phi.toNat) (decodeF fp32 e0))
      if c.esc then (c, e0) else ({ c with esc := e.isNan || ltV limit e }, e0)

/-- The record of a coded segment (R218). -/
def segmentRecord (seg : Nat) (x : List Nat) (c : SegCode) : List Byte :=
  if c.esc then
    let raws := x.map (fun v => toBf16 (decodeF fp32 v))
    recordBytes 2 seg (escapeWords 0 (raws.take 32)) (escapeWords 32 (raws.drop 32))
  else recordBytes 1 seg c.words []

/-- RATIO (R220). -/
def segmentRatio (x : List Nat) (c : SegCode) (e0 : Nat) : Nat :=
  let v0 := decodeF fp32 e0
  let v := decodeF fp32 c.e
  if x.any (fun w => !(decodeF fp32 w).isFin) || v0 == .inf false || v.isNan then fp32.nan
  else if v0.isZero then 0
  else frQuiet (divV v v0).1

/-- LAST after a segment (R220). -/
def segmentLast (nseg : Nat) (x : List Nat) (c : SegCode) (e0 : Nat) : Word :=
  word (segmentRatio x c e0 * 2 ^ 32 + (if c.esc then 2 ^ 16 else 0) + nseg % 256 * 2 ^ 8 + c.m)

/-- Adds to a count of ESTAT, modulo 2^16 (R220). -/
def bumpEstat (e : Word) (lo n : Nat) : Word :=
  word (e.toNat - fieldOf e lo 16 * 2 ^ lo + (fieldOf e lo 16 + n) % 2 ^ 16 * 2 ^ lo)

/-- ESTAT after a segment (R220). -/
def segmentEstat (e : Word) (c : SegCode) : Word :=
  let e := bumpEstat e 32 1
  if c.esc then bumpEstat e 16 1 else bumpEstat e 0 c.m

/-- The elements of a source of the encoder, from `from'` on, checked (R227, R228). -/
def State.encSource (s : State) (w : BitVec 32) (h : BitVec 256) (from' : Nat) : Except Exc Opnd :=
  s.encOperand w h false srcWant ((List.range (Shape.of h false).n).drop from')

/-- The elements of a scratchpad source before `n`, which a resumed `penc` has coded: its records may lie over them (R227). -/
def State.encDone (s : State) (w : BitVec 32) (h : BitVec 256) (n : Nat) : Opnd :=
  match s.encOperand w h false srcWant (if hSpace h = 1 then List.range n else []) with
  | .ok o => o
  | .error _ => ⟨Shape.of h false, 0, []⟩

/-- The values of segment `i` as FP32, where the operand's elements begin at element `from'` (R213, R217). -/
def State.segmentOf (s : State) (a : Opnd) (from' n i : Nat) : List Nat :=
  (List.range 64).map (fun j => if 64 * i + j < n then frQuiet (s.val a (64 * i + j - from')) else 0)

/-- One segment of `penc`: read, code, write, count. -/
def encodeSegment (d : Reg) (a : Opnd) (from' n nseg s0 : Nat) (s : State) (i : Nat) : State :=
  let x := s.segmentOf a from' n i
  let seg := s0 + i
  let r := codeSegment s.core.enc seg x
  let h := s.rdH d
  let s := s.putUnits (s.recordElem h (hProd h)).units (segmentRecord seg x r.1)
  let s := s.wrH d (addProd h 1)
  let s := s.count 9 (if r.1.esc then 0 else r.1.m)
  let s := s.count 10 (if r.1.esc then 1 else 0)
  let c := s.run.ctx
  s.withCtx { c with last := segmentLast nseg x r.1 r.2, estat := segmentEstat c.estat r.1 }

/-- `penc` (R217, R219), from the segment at which a pre-emption stopped it on (R228); S[B] is judged before H[D], and that
before A. Log entries 11 (DEDUCED), 129 (DESIGN CHOICE), 137 (DESIGN CHOICE). -/
def pencBody (w : BitVec 32) (d : Reg) (ha : BitVec 256) (b : Word) (s : State) : Res :=
  let hd := s.rdH d
  let n := (Shape.of ha false).n
  let nseg := (n + 63) / 64
  let s0 := b.toNat
  let from' := 64 * s.run.part
  withE s (checks [need (decide (s0 < 256) && decide (s0 + nseg ≤ 256)) (illopd w 23),
      need (codeBufferOk hd && decide (nseg - s.run.part ≤ hFree hd) && s.core.enc.n != 0) (illopdH w),
      handleCheck w ha false srcWant]) (fun _ =>
    withE s (s.encSource w ha from') (fun a => withE s (s.sourcePoison a) (fun _ =>
      if n = 0 then .ok (s.withCtx { s.run.ctx with last := 0 })
      else
        let o := s.recordOpnd hd ((List.range nseg).map (fun i => (hProd hd + 16384 - s.run.part + i) % 16384))
        withT (s.destRoom w o [a, s.encDone w ha from']) (fun p =>
          let s := p.1
          endPart (s.stopPoint 1 nseg) (fun s => if p.2 then .okCk s else .ok s)
            ((s.span 1 nseg).foldl (encodeSegment d a from' n nseg s0) (s.readOperand a))))))

/-! ### Images and windows (R222, R224 to R226) -/

/-- What an image row must be (R222). -/
def imgWant : Want := ⟨[3], askLoad, anyFmt, fun f => f == 2 || f == 4 || f == 6, true, false⟩

/-- Two rows of a table from element 0 and from element `e0` on: the elements of the second are L to 2L − 1. -/
def rowShape (h : BitVec 256) (e0 : Nat) : Shape :=
  { Shape.of h false with kind := 0, n := 2 * hDim h 0, dims := [2, hDim h 0], strides := [e0, 1], tid := 0 }

/-- The format of a table: its handle's, or that of the page of its element 0 (R33, R222). Log entry 136 (DESIGN CHOICE). -/
def State.imgFmt (s : State) (w : BitVec 32) (h : BitVec 256) : Except Exc Nat :=
  if hFmt h ≠ 0 then .ok (hFmt h)
  else match s.access 0 (hBase h) (illopdH w) 1 askLoad (lateAlign (hBase h))
      (fun e => need (imgWant.permit e.fmt.toNat) (.trap cFMTF (hBase h))) with
    | .error e => .error e
    | .ok l => .ok l.fmt

/-- The first element of row (seg, k) of a table. -/
def rowStart (h : BitVec 256) (r : Nat × Nat) : Nat := r.1 * hStride h 2 + r.2 * hStride h 1

/-- Row (seg, k) of a table as an operand, every element checked (R222, R227): of a table whose page gives the format, the page is
judged and the shape is not. Log entries 43 (DEDUCED), 127 (DESIGN CHOICE). -/
def State.imgRow (s : State) (w : BitVec 32) (h : BitVec 256) (r : Nat × Nat) : Except Exc Opnd :=
  match s.imgFmt w h with
  | .error e => .error e
  | .ok f =>
    let sh := rowShape h (rowStart h r)
    match mapE (fun i => s.encElem w sh f imgWant (hDim h 0 + i)) (List.range (hDim h 0)) with
    | .error e => .error e
    | .ok els => .ok ⟨sh, f, els⟩

/-- The rows of a table that an instruction reads, checked in ascending address (R227). Log entry 136 (DESIGN CHOICE). -/
def State.imgRows (s : State) (w : BitVec 32) (h : BitVec 256) (rs : List (Nat × Nat)) : Except Exc (List Opnd) :=
  match mapE (fun k => s.imgRow w h (rs.getD k (0, 0))) (sortElems (fun k => rowStart h (rs.getD k (0, 0))) (List.range rs.length)) with
  | .error e => .error e
  | .ok _ => mapE (s.imgRow w h) rs

/-- The values of a row. -/
def State.rowValues (s : State) (o : Opnd) : List FVal := o.els.map (s.elemValue o)

/-- The packet of a bound window of the kinds allowed, an escape packet being sound (R89, R216, R224 to R226). -/
def State.windowPacket (s : State) (w : BitVec 32) (r : Reg) (bit : Nat) (kinds : List Nat) : Except Exc Packet :=
  match s.rdW r with
  | none => .error (illopd w bit)
  | some i =>
    let p := (s.slot i).pkt
    let w0 := (pairWord p 0).toNat
    if kinds.contains p.kind.toNat && (p.kind != 2 || (p.len == 17 && (w0 == 0 || w0 == 32))) then .ok p
    else .error (illopd w bit)

/-- The words of a packet that its LEN covers. -/
def packetWords (p : Packet) : List Nat := (List.range p.len.toNat).map (fun i => (pairWord p i).toNat)

/-- COEF, ATOM and SEG of a code word (R32). -/
def wordCoef (x : Nat) : FVal := decodeF bf16 (x / 2 ^ 16 % 2 ^ 16)
def wordAtom (x : Nat) : Nat := x / 2 ^ 8 % 256
def wordSeg (x : Nat) : Nat := x % 256

/-- Element j of an escape payload, raw (R216). -/
def escapeElem (p : Packet) (j : Nat) : Nat := (pairWord p (1 + j / 2)).toNat / 2 ^ (16 * (j % 2)) % 2 ^ 16

/-- The image table that is bound (R224, R226). -/
def State.boundImg (s : State) (w : BitVec 32) : Except Exc (BitVec 256) :=
  match s.core.enc.img with
  | some h => .ok h
  | none => .error (illopdH w)

/-- N of a table: its rows of atoms. -/
def imgN (h : BitVec 256) : Nat := hDim h 1 - 64

/-- The words of a packet that name a row of the table, and how many do not (R224, R226). -/
def validWords (h : BitVec 256) (ws : List Nat) : List Nat × Nat :=
  let ok := ws.filter (fun x => decide (wordAtom x < imgN h) && decide (wordSeg x < hDim h 2))
  (ok, ws.length - ok.length)

/-- What `pacc` adds: coefficients and rows, and the words skipped (R224). -/
def paccTerms (h : BitVec 256) (p : Packet) : List (FVal × Nat × Nat) × Nat :=
  let v := validWords h (packetWords p)
  (v.1.map (fun x => (wordCoef x, wordSeg x, wordAtom x)), v.2)

/-- What `pesc` adds (R224). -/
def pescTerms (h : BitVec 256) (p : Packet) : List (FVal × Nat × Nat) × Nat :=
  let seg := p.seg.toNat
  if hDim h 2 ≤ seg then ([], 1)
  else ((List.range 32).map (fun j =>
    (decodeF bf16 (escapeElem p j), seg, imgN h + (pairWord p 0).toNat + j)), 0)

/-- The accumulator operand: an FP32 tensor of the scratchpad, or, for `pdec`, of any space. -/
def fp32Dst : Want := ⟨[0], askStore, fun f => f == 1, fun f => f == 1, true, false⟩

/-- Counts skipped words (R220). -/
def State.countOorw (s : State) (n : Nat) : State :=
  s.withCtx { s.run.ctx with estat := bumpEstat s.run.ctx.estat 48 n }

/-- Writes FP32 encodings over the elements of an operand. -/
def State.putAll (s : State) (o : Opnd) (vs : List Nat) : State :=
  ((List.range vs.length).zip vs).foldl (fun s (p : Nat × Nat) => s.putElem o p.1 p.2) s

/-- Adds one scaled row to the accumulator (R224). -/
def addRow (ys : List Nat) (t : FVal × List FVal) : List Nat :=
  List.zipWith (fun y v => encAdd y (encMul t.1 v)) ys t.2

/-- `pacc` and `pesc` (R224): `terms` lists the coefficients with their rows; the window is judged before H[D] and IMG. Log
entry 129 (DESIGN CHOICE). -/
def applyBody (w : BitVec 32) (kind : Nat) (terms : BitVec 256 → Packet → List (FVal × Nat × Nat) × Nat)
    (hd : BitVec 256) (r : Reg) (s : State) : Res :=
  withE s (s.windowPacket w r 17 [kind]) (fun p => withE s (s.boundImg w) (fun img =>
    withE s (checks [handleCheck w hd true fp32Dst,
        need (hSpace hd == 1 && (Shape.of hd true).n == hDim img 0) (illopdH w)]) (fun _ =>
      withE s (s.encOperand w hd true fp32Dst (List.range (hDim img 0))) (fun d =>
        let ts := terms img p
        withE s (s.imgRows w img (ts.1.map (·.2))) (fun rows =>
          withE s (checks (s.sourcePoison d :: rows.map s.sourcePoison)) (fun _ =>
            withT (s.destRoom w d (d :: rows)) (fun q =>
              let s := q.1
              let ys := d.els.map s.elemRaw
              let zs := ((ts.1.map (·.1)).zip (rows.map s.rowValues)).foldl addRow ys
              let s := rows.foldl State.readOperand (s.readOperand d)
              .okCk ((s.putAll d zs).countOorw ts.2))))))))

/-- The rebuilt elements of a code packet (R225). -/
def rebuild (e : Enc) (ws : List Nat) : List Nat :=
  let valid := ws.filter (fun x => decide (wordAtom x < e.n))
  (List.range 64).map (fun j =>
    encSum (valid.map (fun x => encMul (wordCoef x) (decodeF bf16 (e.atomRaw (wordAtom x) j)))))

/-- `pdec` (R225): of an escape packet only the elements that it writes are checked; the window is judged before H[D]. Log
entry 129 (DESIGN CHOICE). -/
def pdecBody (w : BitVec 32) (hd : BitVec 256) (r : Reg) (s : State) : Res :=
  withE s (s.windowPacket w r 17 [1, 2]) (fun p =>
    withE s (checks [handleCheck w hd true fp32Dst,
        need ((Shape.of hd true).n == 64 && s.core.enc.n != 0) (illopdH w)]) (fun _ =>
      let f := if p.kind = 2 then (pairWord p 0).toNat else 0
      let n := if p.kind = 2 then 32 else 64
      withE s (s.encOperand w hd true fp32Dst ((List.range n).map (fun j => f + j))) (fun d =>
        withT (s.destRoom w d []) (fun q =>
          if p.kind = 2 then .ok (q.1.putAll d ((List.range 32).map (fun j => frQuiet (decodeF bf16 (escapeElem p j)))))
          else
            let ws := packetWords p
            .ok ((q.1.putAll d (rebuild s.core.enc ws)).countOorw
              (ws.filter (fun x => decide (s.core.enc.n ≤ wordAtom x))).length)))))

/-- The elements of a list once each, in the order of first occurrence. -/
def distinct : List (Nat × Nat) → List (Nat × Nat) → List (Nat × Nat)
  | [], acc => acc
  | x :: xs, acc => distinct xs (if acc.contains x then acc else acc ++ [x])

/-- The rows that `pgrad` reads, as (k, s), and what it skips (R226). -/
def pgradRows (h : BitVec 256) (p : Packet) : List (Nat × Nat) × Nat :=
  if p.kind = 1 then
    let v := validWords h (packetWords p)
    (distinct (v.1.map (fun x => (wordAtom x, wordSeg x))) [], v.2)
  else if hDim h 2 ≤ p.seg.toNat then ([], 1)
  else ((List.range 32).map (fun j => (imgN h + (pairWord p 0).toNat + j, p.seg.toNat)), 0)

/-- The record of `pgrad` from the sums of its rows (R226). -/
def pgradRecord (p : Packet) (rows : List (Nat × Nat)) (bs : List Nat) : List Byte :=
  let raws := bs.map (fun b => toBf16 (decodeF fp32 b))
  if p.kind = 1 then
    recordBytes 1 p.seg.toNat (List.zipWith (fun b (r : Nat × Nat) => codeWord b r.1 r.2) raws rows) []
  else recordBytes 2 p.seg.toNat (escapeWords (pairWord p 0).toNat raws) []

/-- `pgrad` (R226): the window is judged before the handles. Log entry 129 (DESIGN CHOICE). -/
def pgradBody (w : BitVec 32) (d : Reg) (ha : BitVec 256) (r : Reg) (s : State) : Res :=
  let hd := s.rdH d
  withE s (s.windowPacket w r 23 [1, 2]) (fun p => withE s (s.boundImg w) (fun img =>
    withE s (checks [need (codeBufferOk hd && decide (1 ≤ hFree hd)) (illopdH w), handleCheck w ha false srcWant,
        need ((Shape.of ha false).n == hDim img 0) (illopdH w)]) (fun _ =>
      withE s (s.encSource w ha 0) (fun a =>
        let rs := pgradRows img p
        withE s (s.imgRows w img (rs.1.map (fun x => (x.2, x.1)))) (fun rows =>
          withE s (checks (s.sourcePoison a :: rows.map s.sourcePoison)) (fun _ =>
            withT (s.destRoom w (s.recordOpnd hd [hProd hd]) (a :: rows)) (fun q =>
              let s := q.1
              let g := (List.range a.sh.n).map (fun i => decodeF fp32 (frQuiet (s.val a i)))
              let bs := rows.map (fun o => encDot (s.rowValues o) g)
              let s := rows.foldl State.readOperand (s.readOperand a)
              let s := s.putUnits (s.recordElem hd (hProd hd)).units (pgradRecord p rs.1 bs)
              let s := (s.wrH d (addProd hd 1)).countOorw rs.2
              if q.2 then .okCk s else .ok s)))))))

/-! ### Instructions -/

/-- `pdict` (R210). -/
def execPdict (a : Reg) (s : State) : Host.Outcome State Fault Refusal :=
  runBody 4 s (onEncoder (fun s => pdictBody (rrr 0 0x140 0 0 a 0) (s.rdH a) s))

/-- `pimg` (R222). -/
def execPimg (a : Reg) (s : State) : Host.Outcome State Fault Refusal :=
  runBody 4 s (fun s => pimgBody (rrr 0 0x141 0 0 a 0) (s.rdH a) s)

/-- `pthr` (R212). -/
def execPthr (a b : Reg) (s : State) : Host.Outcome State Fault Refusal :=
  runBody 4 s (fun s => pthrBody (rrr 0 0x142 0 b a 0) (s.rd a) (s.rd b) s)

/-- `penc` (R217). -/
def execPenc (d a b : Reg) (s : State) : Host.Outcome State Fault Refusal :=
  runBody 4 s (onEncoder (fun s => pencBody (rrr 0 0x143 0 b a d) d (s.rdH a) (s.rd b) s))

/-- `pacc` (R224). -/
def execPacc (d a : Reg) (s : State) : Host.Outcome State Fault Refusal :=
  runBody 4 s (onEncoder (fun s => applyBody (rrr 0 0x144 0 0 a d) 1 paccTerms (s.rdH d) a s))

/-- `pesc` (R224). -/
def execPesc (d a : Reg) (s : State) : Host.Outcome State Fault Refusal :=
  runBody 4 s (onEncoder (fun s => applyBody (rrr 0 0x145 0 0 a d) 2 pescTerms (s.rdH d) a s))

/-- `pdec` (R225). -/
def execPdec (d a : Reg) (s : State) : Host.Outcome State Fault Refusal :=
  runBody 4 s (onEncoder (fun s => pdecBody (rrr 0 0x146 0 0 a d) (s.rdH d) a s))

/-- `pgrad` (R226). -/
def execPgrad (d a b : Reg) (s : State) : Host.Outcome State Fault Refusal :=
  runBody 4 s (onEncoder (fun s => pgradBody (rrr 0 0x147 0 b a d) d (s.rdH a) b s))

/-- `pstat` (R221). -/
def execPstat (d : Reg) (s : State) : Host.Outcome State Fault Refusal :=
  runBody 4 s (fun s => .ok (s.wr d s.run.ctx.last))

end Sys2Proof.Machine
end

