-- ==== Sys2Proof/Machine/Walk.lean ====
section
/-!
DEFINITION. Machine/Walk.lean: what a completed walk leaves: a TLB entry, and the frames that it binds to the capability of
the page they serve (spec/14 R318, R319; spec/01 R29; spec/11 R256; spec/12 R302).
-/

namespace Sys2Proof.Machine

/-- The halves of a granule of its frames that an entry binds to the granule of its elements (R29, R256). -/
def TlbEntry.bindsFrames (e : TlbEntry) : List (Nat × Nat) :=
  let z := if fmtSize e.fmt.toNat = 0 then 1 else fmtSize e.fmt.toNat
  let bytes := if e.fmt = 6 then 32768 else 65536 * 4 / z
  let first := if e.fmt = 6 then 0 else e.va * 65536 % e.fpage * 4 / z
  if e.frames.isEmpty then []
  else (List.range ((bytes + 32767) / 32768)).map (fun k => (e.frameByte (first + 32768 * k) / 32768, e.pa / 65536))

/-- The number of the core's own package (R6). -/
def State.ownPkg (s : State) : BitVec 22 := BitVec.ofNat 22 (s.phys.toNat / 2 ^ 12)

/-- A home in another package grants a lease of a granule to a package that has not failed (R333, R435). Log entry
80 (DEDUCED). -/
def State.grantLease (s : State) (pkg : BitVec 22) (a : Nat) : State :=
  if a / 2 ^ 42 != pkg.toNat && !s.pkg.failed.contains pkg then
    let g := s.granule a
    s.setGranule a { g with
      leases := if g.leases.contains pkg then g.leases else g.leases ++ [pkg]
      recalled := g.recalled.filter (fun p => p != pkg) }
  else s

/-- The page of an entry: two parts of one page share it (R302). -/
def TlbEntry.page (e : TlbEntry) : BitVec 16 × BitVec 16 × Nat × Nat := (e.part, e.asid, e.va * 65536 / e.psize, e.psize)

/-- The set of the second-level TLB that a page belongs to: one of 256 (R302). Log entry 112 (DEDUCED). -/
def TlbEntry.set (e : TlbEntry) : Nat := Config.tlbSet (e.va * 65536 / e.psize) e.psize % 256

/-- The pages of some entries, each once. -/
def tlbPages : List TlbEntry → List (BitVec 16 × BitVec 16 × Nat × Nat)
  | [] => []
  | e :: es => if es.any (fun d => d.page == e.page) then tlbPages es else e.page :: tlbPages es

/-- Enters a part of a page among at most `ways` pages: a new page replaces one of them when there is no room; which is free
(R302, R319). Log entry 112 (DEDUCED). -/
def enterTlb (ways fresh : Nat) (mates : TlbEntry → Bool) (e : TlbEntry) (l : List TlbEntry) : List TlbEntry :=
  let pages := tlbPages (l.filter mates)
  let l := l.filter (fun d => !(d.page == e.page && d.va == e.va))
  if pages.contains e.page || pages.length < ways then e :: l
  else
    let out := pages[Config.tlbVictim fresh pages.length % pages.length]?
    e :: l.filter (fun d => !(mates d && some d.page == out))

/-- The private TLB of an access takes an entry: 32 pages for fetches, 64 for data (R319). Log entry 112 (DEDUCED). -/
def State.fillPrivate (s : State) (kind : AccessKind) (e : TlbEntry) : State :=
  match kind with
  | .fetch => { s with core := { s.core with itlb := enterTlb 32 s.fresh (fun _ => true) e s.core.itlb } }
  | _ => { s with core := { s.core with dtlb := enterTlb 64 s.fresh (fun _ => true) e s.core.dtlb } }

/-- Binds the frames of a page to it, as scale frames or as adjoint frames (R29, R256). -/
def State.bindFrames (s : State) (e : TlbEntry) : State :=
  let halves := e.bindsFrames.map Prod.fst
  { s with die := { s.die with
    frames := e.bindsFrames.foldl (fun l (p : Nat × Nat) => assocSet p.1 p.2 l) s.die.frames
    scales := if e.fmt = 6 then insertAll halves s.die.scales else s.die.scales.filter (fun h => !halves.contains h) } }

/-- Enters a translation in the second-level TLB, eight pages to a set (R302), with the leases that its walk brings (R435).
Log entry 112 (DEDUCED). -/
def State.fillTlb (s : State) (e : TlbEntry) : State :=
  let s := (e.pa :: e.frames).foldl (fun s a => s.grantLease s.ownPkg a) s
  State.bindFrames { s with core := { s.core with
    tlb := enterTlb 8 s.fresh (fun d => d.set == e.set) e s.core.tlb } } e

/-- The part of a page that a cached part of the same page gives for another granule of it: no table is read again for the
page (R302, R319); rights and grant are the granule's own. Log entry 112 (DEDUCED). -/
def State.pagePart (s : State) (e : TlbEntry) (va : Word) : Except WalkFault TlbEntry :=
  let v := va.toNat % 2 ^ 56 / 65536
  let at' := fun (a : Nat) => a + 65536 * v - 65536 * e.va
  let pa := at' e.pa
  let l : Leaf := ⟨{ Pte.of 0 with fmt := e.fmt.toNat, ad := e.ad, frame := e.frame }, e.lvl1.toNat, e.fpage⟩
  match s.walkFrames e.frame (frameBlocks l (65536 * v)) with
  | .error f => .error f
  | .ok frames =>
    let (r, w, am) := s.accessRights s.phys.toNat pa
    .ok { e with va := v, pa := pa, ipa := at' e.ipa, frames := frames, accR := r, accW := w, accA := am
                 grant := s.grantOf pa }

/-- A cached part of the page of a virtual address, in any TLB. -/
def State.pageCached (s : State) (va : Word) : Option TlbEntry :=
  (s.core.tlb ++ s.core.dtlb ++ s.core.itlb).find? (fun e => e.part == s.pkg.part && e.asid == s.core.asid &&
    e.va * 65536 / e.psize == va.toNat % 2 ^ 56 / e.psize)

/-- What a miss of the private TLBs finds: the granule's entry in the second-level TLB, a part of its cached page, or what a
walk makes (R302, R318). -/
def State.lookup (s : State) (va : Word) : Except WalkFault TlbEntry :=
  match s.core.tlb.find? (s.serves va) with
  | some e => .ok e
  | none => match s.pageCached va with
    | some e => s.pagePart e va
    | none => s.walkEntry va

/-- Fills the TLBs for an address that its private TLB misses; a failing walk leaves nothing (R318). Log entry 113 (DEDUCED). -/
def State.ensureTlb (s : State) (va : Word) (kind : AccessKind) : State :=
  match s.tlbFind va kind with
  | some _ => s
  | none => match s.lookup va with
    | .ok e => State.fillPrivate (if (s.core.tlb.find? (s.serves va)).isSome then s else s.fillTlb e) kind e
    | .error _ => s

/-- The fault of a walk that failed, for an access that waited for it (R320). Log entry 113 (DEDUCED). -/
def State.walkFault (s : State) (va : Word) (kind : AccessKind) : Exc :=
  match s.lookup va with
  | .error f => match f.poison with
    | some l => .poison l
    | none => .page (s.faultRec s.run.ctx.pc va kind f)
  | .ok _ => .wait (.walk va kind)

/-- Whether an address lies on a differentiable page; one that does not translate lies on none (R255). Log entry
29 (DEDUCED). -/
def State.adPage (s : State) (va : Word) : Bool :=
  match s.tlbFind va .read with
  | some e => e.ad
  | none => match s.lookup va with
    | .ok e => e.ad
    | .error _ => false

end Sys2Proof.Machine
end

