-- ==== Sys2Proof/Machine/Engine.lean ====
section
/-!
DEFINITION. Machine/Engine.lean: the data engines: issue, units, faults and their delivery, and the instructions that watch
them (spec/15 R351 to R364; spec/06 R170, R171; spec/11 R277; spec/04 R98).
-/

namespace Sys2Proof.Machine

/-! ### The units of a command (R352 to R356) -/

/-- The access-path class of a command's engine (R72, R363): copy 1, gather 2, collective 5 for `halo`. -/
def EngOp.cls (op : EngOp) : Nat := if op = .gath then 2 else if op = .halo then 5 else 1

/-- The state as a command's accesses meet it: past the log, under the level of the issuing instruction, with ADMODE
checked at issue (R277, R357). -/
def State.engineView (s : State) (c : Cmd) : State :=
  let s := s.viewPath c.op.cls c.ch.toNat
  { s with run := { s.run with
      act := none, log := [], adj := []
      ctx := { s.run.ctx with pc := c.pc, priv := c.priv, admode := 0 } } }

/-- The access classes of a command (R357): ACCESS is 3. -/
def engLoad : Ask := { askLoad with kind := .engine }
def engStore : Ask := { askStore with kind := .engine }
/-- What a command asks of a source and of a destination; format rules are checked apart. Only the copy engine writes BFP24 pages
(R30). Log entry 121 (DEDUCED). -/
def engWant (op : EngOp) (q : Ask) : Want := ⟨[0, 1], q, fun _ => true, fun _ => true, true, op != .gath⟩

/-- The dimensions of the slots that a copy moves with a ring operand: k slots of DIM0 elements (R353). -/
def ringSlots (ring other : BitVec 256) : Nat := product (hDims other) / hDim ring 0

/-- The number of units of a command (R352). -/
def Cmd.units (c : Cmd) : Nat :=
  match c.op with
  | .cp =>
    if c.ringD.isSome then ringSlots c.hd c.ha - c.skip
    else if c.ringA.isSome then ringSlots c.ha c.hd - c.skip
    else (product (hDims c.hd) + 15) / 16
  | .halo => (product (hDims c.hd) + 15) / 16
  | .cpt => product ((hDims c.ha).dropLast)
  | .gath => c.idx.length - c.skip

/-- The context of the activation that issued a command: the running one, or one that gave way by `yield`. -/
def State.ownerCtx (s : State) (owner : Nat) : Ctx :=
  if (s.run.act.map (·.serial)) = some owner then s.run.ctx
  else match s.net.queue.find? (fun q => match q.kind with
      | .yielded v => v.act.serial == owner
      | _ => false) with
    | some q => (match q.kind with
      | .yielded v => v.snap
      | _ => s.run.ctx)
    | none => s.run.ctx

/-- The destination as a unit sees it: the slot at PROD of the engaged register (R170), or the receiver's scratchpad. -/
def State.dShape (s : State) (c : Cmd) : Shape :=
  let sh := Shape.of c.hd true
  match c.ringD with
  | some r => { sh with slot := hProd (s.ownerCtx c.owner).h[r.toFin] % hCap c.hd }
  | none => if c.op = .halo then { sh with base := sh.base &&& 0x3FFFF } else sh

/-- The source as a unit sees it: the slot at CONS of the engaged register. -/
def State.aShape (s : State) (c : Cmd) : Shape :=
  let sh := Shape.of c.ha false
  match c.ringA with
  | some r => { sh with slot := hCons (s.ownerCtx c.owner).h[r.toFin] % hCap c.ha }
  | none => sh

/-- Whether the index of unit `u` of a gather names a row of the table (R355). -/
def Cmd.inside (c : Cmd) (u : Nat) : Bool :=
  let x := c.idx.getD (c.skip + u) 0
  decide (0 ≤ x) && decide (x < hDim c.ha 0)

/-- The pairs of destination and source elements of unit `u`; none stands for the zeros of an index out of range (R355). Log
entries 25 (DEDUCED), 26 (DEDUCED). -/
def Cmd.pairs (c : Cmd) (u : Nat) : List (Nat × Option Nat) :=
  match c.op with
  | .cp =>
    if c.ringD.isSome then (List.range (hDim c.hd 0)).map (fun i => (i, some ((c.skip + u) * hDim c.hd 0 + i)))
    else if c.ringA.isSome then (List.range (hDim c.ha 0)).map (fun i => ((c.skip + u) * hDim c.ha 0 + i, some i))
    else (List.range (min 16 (product (hDims c.hd) - 16 * u))).map (fun i => (16 * u + i, some (16 * u + i)))
  | .halo => (List.range (min 16 (product (hDims c.hd) - 16 * u))).map (fun i => (16 * u + i, some (16 * u + i)))
  | .cpt =>
    let dims := (hDims c.ha).reverse
    let n := dims.getD 0 0
    let r := dims.getD 1 1
    (List.range n).map (fun j => (u / r * (r * n) + j * r + u % r, some (u * n + j)))
  | .gath =>
    let n := hDim c.ha 1
    let x := c.idx.getD (c.skip + u) 0
    (List.range n).map (fun k => ((if c.ringD.isSome then k else (c.skip + u) * n + k),
      if c.inside u then some (x.toNat * n + k) else none))

/-- Whether formats may meet in a command: equal ones move bits, the block and code formats nothing else (R353, R354). Log
entry 24 (DEDUCED). -/
def engPair (op : EngOp) (d a : Nat) : Bool :=
  if d = a then op != .cpt || (d != 6 && d != 14) else arithFmt' d && arithFmt' a
where
  arithFmt' (f : Nat) : Bool := f != 6 && f != 12 && f != 14

/-- The block rules of an operand in a command: a gather's rows are whole E2M1 blocks (R157, R158, R355). Log entry
25 (DEDUCED). -/
def engBlock (op : EngOp) (h : BitVec 256) (f : Nat) : Bool :=
  if op = .gath && f = 6 && hKind h = 0 then
    hDim h 1 % 8 == 0 && hStride h 1 == 1 && hStride h 0 % 8 == 0 &&
      (hBase h).toNat % (if hSpace h = 0 then 4 else 16) == 0
  else (Shape.of h true).blockOk f

/-! ### Running a unit (R357) -/

/-- The fault that an exception of a unit is; a wait is none. -/
def State.engFault (v : State) (unit : Nat) : Exc → Option EngFault
  | .trap c a => some ⟨BitVec.ofNat 6 c, a, unit, none⟩
  | .page r => some ⟨r.cause, r.va, unit, some r⟩
  | .poison l => some ⟨BitVec.ofNat 6 cPOISON, word (64 * l), unit, none⟩
  | .wait (.walk a _) => (match v.walkFault a .engine with
    | .page r => some ⟨r.cause, r.va, unit, some r⟩
    | .poison l => some ⟨BitVec.ofNat 6 cPOISON, word (64 * l), unit, none⟩
    | _ => none)
  | _ => none

/-- The format of an operand: its handle's, the one the channel has kept, or that of the page of element 0 (R357). Log entry
27 (DEDUCED). -/
def State.engFormat (v : State) (c : Cmd) (h : BitVec 256) (sh : Shape) (kept : Option (BitVec 4)) (q : Ask) :
    Except Exc Nat :=
  match kept with
  | some f => .ok f.toNat
  | none =>
    if sh.fmt ≠ 0 then .ok sh.fmt
    else match v.access sh.space sh.base (illopdH 0) 1 q (lateAlign sh.base)
        (fun e => need (e.fmt != 0 && engBlock c.op h e.fmt.toNat) (.trap cFMTF sh.base)) with
      | .error e => .error e
      | .ok l => match l.entry with
        | some e => .ok e.fmt.toNat
        | none => .error (.trap cFMTF sh.base)

/-- A destination element of `halo`: a place in the receiver's scratchpad (R356). -/
def State.haloElem (s : State) (c : Cmd) (sh : Shape) (f j : Nat) : Elem :=
  let core := (s.physOf (fieldOf c.hd 18 34)).getD 0
  let a := sh.addr f j
  ⟨⟨spHomeOf core a.toNat, 2, a, none⟩,
    (unitsOf a.toNat (storeSize sh f)).map (fun u => (spHomeOf core (swizzle sh.swz u.1), u.2)), sh.sub f j⟩

/-- A store of an engine to a home in another package must lie under a lease (R333). -/
def State.engLease (s : State) (e : Elem) : Except Exc Unit :=
  need (e.loc.space != 0 || !s.remote e.loc.home || s.leaseOk s.lcore e.loc.home) (s.leaseFault e.loc.va .engine)

/-- The bytes that one element's storage takes of raw bits, unit by unit. -/
def spread : List (Nat × Nat) → List Byte → ByteMap → ByteMap
  | [], _, m => m
  | u :: us, bs, m => spread us (bs.drop u.2) (m.put u.1 (bs.take u.2))

/-- Writes one element into the map of a unit (R353): moved bits, a block, a mantissa with its exponent, zeros, or a
converted value with its flags. Log entry 26 (DEDUCED). -/
def State.engMove (v : State) (d a : Opnd) (de : Elem) (ae : Option Elem) (acc : ByteMap × Flags) : ByteMap × Flags :=
  let scale := fun (b : Nat) (m : ByteMap) => match de.loc.entry with
    | some t => m.put (t.scaleByte de.loc.va) (bytesOf 1 b)
    | none => m
  match ae with
  | none =>
    if d.fmt = 6 then (scale 0 (spread de.units (List.replicate (storeSize d.sh 6) 0) acc.1), acc.2)
    else (spread de.units (List.replicate (fmtSize d.fmt) 0) acc.1, acc.2)
  | some e =>
    if d.fmt = 6 then
      if de.sub = 0 then
        let b := v.blockRaw e
        let bs := if de.loc.entry.isSome then bytesOf 4 b.1
          else if e.loc.entry.isSome then bytesOf 4 b.1 ++ bytesOf 12 b.2 else bytesOf 16 (v.elemRaw e)
        (scale b.2 (spread de.units bs acc.1), acc.2)
      else acc
    else if d.fmt = 14 then
      let line := v.elemRaw e
      let home := (de.units.headD (0, 0)).1
      let at' := fun (o n : Nat) (x : Nat) (m : ByteMap) =>
        if de.units.length = 1 then m.put (home + o) (bytesOf n x)
        else (List.range n).foldl (fun m k =>
          m.put (((de.units.getD ((o + k) / 8) (0, 0)).1) + (o + k) % 8) (bytesOf 1 (x / 2 ^ (8 * k)))) m
      (at' 48 16 (line / 2 ^ 384 % 256) (at' (3 * de.sub) 3 (line / 2 ^ (24 * e.sub)) acc.1), acc.2)
    else if d.fmt = a.fmt then (spread de.units (bytesOf (fmtSize d.fmt) (v.elemRaw e)) acc.1, acc.2)
    else
      let r := encodeVal d.fmt .rne false (v.elemValue a e)
      (spread de.units (bytesOf (fmtSize d.fmt) r.1) acc.1, acc.2 ||| r.2)

/-- What a unit does: the bytes it writes, its flags, whether its index was out of range, and the formats it resolved. -/
structure UnitWork where
  bytes : ByteMap
  flags : Flags
  oor : Bool
  fmtD : Option (BitVec 4)
  fmtA : Option (BitVec 4)
  homes : List Nat

/-- The checks and the reads of a unit with elements: every source element as a load, then every destination element as a
store. Log entry 24 (DEDUCED). -/
def State.unitElems (v : State) (c : Cmd) (ch : Chan) (u : Nat) : Except Exc UnitWork :=
  let ds := v.dShape c
  let as := v.aShape c
  let ps := c.pairs u
  let srcs := ps.filterMap (·.2)
  let keepA := if hFmt c.ha != 0 then none else ch.fmtA
  match (if srcs.isEmpty then .ok 0 else v.engFormat c c.ha as keepA engLoad) with
  | .error e => .error e
  | .ok fa =>
    match mapE (fun j => v.elemCheck 0 as fa (engWant c.op engLoad) j) srcs with
    | .error e => .error e
    | .ok aes =>
      match v.engFormat c c.hd ds (if hFmt c.hd != 0 then none else ch.fmtD) engStore with
      | .error e => .error e
      | .ok fd =>
        if !srcs.isEmpty && !engPair c.op fd fa then .error (.trap cFMTF (if hFmt c.ha = 0 then as.base else ds.base))
        else
          match mapE (fun (p : Nat × Option Nat) => if c.op = .halo then .ok (v.haloElem c ds fd p.1)
              else v.elemCheck 0 ds fd (engWant c.op engStore) p.1) ps with
          | .error e => .error e
          | .ok des =>
            let d : Opnd := ⟨ds, fd, des⟩
            let a : Opnd := ⟨as, fa, aes⟩
            match checks (v.sourcePoison a :: des.map v.engLease) with
            | .error e => .error e
            | .ok _ =>
              let src := if srcs.isEmpty then des.map (fun _ => (none : Option Elem)) else aes.map some
              let r := (des.zip src).foldl (fun acc p => v.engMove d a p.1 p.2 acc) (([] : ByteMap), (0 : Flags))
              .ok ⟨r.1, r.2, c.op == .gath && !c.inside u, some (BitVec.ofNat 4 fd),
                if srcs.isEmpty then ch.fmtA else some (BitVec.ofNat 4 fa),
                des.map (·.loc.home) ++ aes.map (·.loc.home)⟩

/-- The checks and the reads of unit `u`; one without elements has none, and its index still counts (R53, R355). Log entry
24 (DEDUCED). -/
def State.unitWork (v : State) (c : Cmd) (ch : Chan) (u : Nat) : Except Exc UnitWork :=
  if (c.pairs u).isEmpty then .ok ⟨[], 0, c.op == .gath && !c.inside u, ch.fmtD, ch.fmtA, []⟩ else v.unitElems c ch u

/-- Walks for every address that unit `u` may name (R357): its operands' BASEs, then its elements. -/
def State.unitWalks (s : State) (c : Cmd) (ch : Chan) (u : Nat) : State :=
  let ds := s.dShape c
  let as := s.aShape c
  let touch := fun (s : State) (sh : Shape) (js : List Nat) (kept : Option (BitVec 4)) (want : Bool) =>
    if sh.space = 0 && want then
      let s := s.ensureTlb sh.base .engine
      let f := if sh.fmt ≠ 0 then sh.fmt else
        (kept.map (·.toNat)).getD (((s.tlbFind sh.base .engine).map (·.fmt.toNat)).getD 0)
      js.foldl (fun s j => s.ensureTlb (sh.addr f j) .engine) s
    else s
  let ps := c.pairs u
  let srcs := ps.filterMap (·.2)
  let s := touch s as srcs ch.fmtA (!srcs.isEmpty)
  touch s ds (ps.map (·.1)) ch.fmtD (c.op != .halo && !ps.isEmpty)

/-- FL bits 3:0 of flags: NX, UF, OF, NV (R361). -/
def flBits (f : Flags) : BitVec 4 :=
  BitVec.ofNat 4 ((if f.getLsbD 0 then 1 else 0) + (if f.getLsbD 2 then 2 else 0) + (if f.getLsbD 3 then 4 else 0) +
    (if f.getLsbD 4 then 8 else 0))

/-- Moves the count that an engine owns on by `n` slots in a context. -/
def advanceRing (c : Cmd) (n : Nat) (x : Ctx) : Ctx :=
  let x := match c.ringD with
    | some r => { x with h := x.h.set r.toFin (addProd x.h[r.toFin] n) }
    | none => x
  match c.ringA with
  | some r => { x with h := x.h.set r.toFin (addCons x.h[r.toFin] n) }
  | none => x

/-- The completion of a command in a context: SEQ advances (R351). -/
def completeIn (c : Cmd) (x : Ctx) : Ctx :=
  { x with seq := x.seq.set c.ch.toFin (x.seq[c.ch.toFin] + 1), units := x.units.set c.ch.toFin c.units }

/-- Whether two images are of one command. -/
def Cmd.same (a b : Cmd) : Bool := a.ch == b.ch && a.num == b.num && a.owner == b.owner

/-- The completion of a command in a snapshot that lists it: an abort will not run it again (R98), so the snapshot counts
it, and the slots it covered. Log entry 32 (DEDUCED). -/
def completeSnap (c : Cmd) (x : Ctx) : Ctx :=
  match x.reissue.find? (fun d => d.same c) with
  | some d => let y := completeIn c (advanceRing d d.units x)
    { y with reissue := x.reissue.filter (fun e => !e.same c) }
  | none => x

/-- Applies a change to the context of a command's activation, and another to its snapshot. -/
def State.withOwner (s : State) (owner : Nat) (f g : Ctx → Ctx) : State :=
  if (s.run.act.map (·.serial)) = some owner then
    { s with run := { s.run with ctx := f s.run.ctx, snap := g s.run.snap } }
  else { s with net := { s.net with queue := s.net.queue.map (fun q => match q.kind with
      | .yielded v => if v.act.serial = owner then { q with kind := .yielded { v with snap := g (f v.snap) } } else q
      | _ => q) } }

/-- The command at the head of a channel has completed. Log entry 32 (DEDUCED). -/
def State.completeCmd (s : State) (i : BitVec 3) (c : Cmd) : State :=
  let v := s.chan i
  let running := (s.run.act.map (·.serial)) = some c.owner
  let s := s.withOwner c.owner (completeIn c) (if running then completeSnap c else fun x =>
    { x with reissue := x.reissue.filter (fun e => !e.same c) })
  s.setChan i (v.withQueue v.queue.tail)

/-- Whether the command at the head waits for space or for fill in its ring (R170). -/
def State.ringBlocked (s : State) (c : Cmd) : Bool :=
  let x := s.ownerCtx c.owner
  (match c.ringD with
    | some r => hFree x.h[r.toFin] == 0
    | none => false) ||
  (match c.ringA with
    | some r => hFilled x.h[r.toFin] == 0
    | none => false)

/-- Stops a channel with a fault (R358). -/
def State.stopChan (s : State) (i : BitVec 3) (f : EngFault) : State :=
  s.setChan i { s.chan i with pend := some f, funit := BitVec.ofNat 32 f.unit, fcause := f.cause }

/-- One unit of the command at the head of a channel (R357), which waits for refreshing banks (R312, R338); a held core's channels
stand still (R364, R408). Log entries 97 (DEDUCED), 106 (DEDUCED). -/
def State.engineUnit (s : State) (i : BitVec 3) : State :=
  let v := s.chan i
  match v.queue with
  | [] => s
  | c :: _ =>
    if v.pend.isSome || s.core.halt.isSome then s
    else if v.wp = c.units then s.completeCmd i c
    else if s.ringBlocked c then s
    else
      let s := s.unitWalks c v v.wp
      match (s.engineView c).unitWork c v v.wp with
      | .error e => (match (s.engineView c).engFault v.wp e with
        | some f => s.stopChan i f
        | none => s)
      | .ok w =>
        if w.homes.any (fun a => decide (a < Config.csHome) && (s.granule a).mig) then s
        else
          let s := s.awaitHomes (w.homes ++ w.bytes.map Prod.fst)
          let s := ((s.noteFrom c.op.cls c.ch.toNat c.num (· / 8) (w.bytes.map Prod.fst)).putMap w.bytes).withOwner c.owner (advanceRing c 1) id
          let s := s.setChan i { v with wp := v.wp + 1, fmtD := w.fmtD, fmtA := w.fmtA, fl := v.fl ||| flBits w.flags
                                        oor := if w.oor then v.oor + 1 else v.oor }
          if v.wp + 1 = c.units then s.completeCmd i c else s

/-! ### Issuing a command (R353 to R356, R362) -/

/-- Checks 1 and 2 of R126 for an element at issue: the second only where the handle gives the format. -/
def issueElem (w : BitVec 32) (sh : Shape) (limit : Nat) (j : Nat) : Except Exc Unit :=
  let a := sh.addr sh.fmt j
  checks [need (if limit = 0 then inSpace sh.space a else decide (a.toNat + storeSize sh sh.fmt ≤ limit)) (illopdH w),
    need (sh.fmt == 0 || a.toNat % fmtAlign sh.fmt == 0) (.trap cALIGN a)]

/-- The slots that a ring operand of `k` slots will use, from its count on. -/
def slotShapes (sh : Shape) (h : BitVec 256) (k : Nat) : List Shape :=
  if sh.kind = 1 then (List.range (min k (hCap h))).map (fun i => { sh with slot := (sh.slot + i) % hCap h }) else [sh]

/-- Checks 1 and 2 for every element of an operand. -/
def issueOperand (w : BitVec 32) (sh : Shape) (h : BitVec 256) (k limit : Nat) : Except Exc Unit :=
  checks ((slotShapes sh h k).flatMap (fun sh => (List.range sh.n).map (issueElem w sh limit)))

/-- The rule of R353 about formats that both handles give. Log entry 24 (DEDUCED). -/
def issueFormats (op : EngOp) (hd ha : BitVec 256) : Except Exc Unit :=
  need (hFmt hd == 0 || hFmt ha == 0 || engPair op (hFmt hd) (hFmt ha)) (.trap cFMTF (hBase ha))

/-- ADMODE at issue (R277): the first element of an operand on a differentiable page. Log entry 29 (DEDUCED). -/
def State.issueAd (s : State) (sh : Shape) (h : BitVec 256) (k : Nat) (on : Bool) : Except Exc Unit :=
  if on && sh.space = 0 then
    let f := if sh.fmt ≠ 0 then sh.fmt else (match s.lookup sh.base with
      | .ok e => e.fmt.toNat
      | .error _ => 0)
    checks ((slotShapes sh h k).flatMap (fun sh => (List.range sh.n).map (fun j =>
      need (!s.adPage (sh.addr f j)) (.trap cADPF (sh.addr f j)))))
  else .ok ()

/-- The checks that every command makes at issue after its own (R357): rows 1 and 2 for D and A, a destination in SPACE 3,
the formats, and ADMODE. Log entries 27 (DEDUCED), 28 (DEDUCED). -/
def State.issueRows (s : State) (op : EngOp) (w : BitVec 32) (hd ha : BitVec 256) (k : Nat) : Except Exc Unit :=
  let ds := Shape.of hd true
  let as := Shape.of ha false
  let dsh := if op = .halo then { ds with base := ds.base &&& 0x3FFFF } else ds
  checks [issueOperand w dsh hd k (if op = .halo then Config.spSize else 0), issueOperand w as ha k 0,
    need (ds.space != 3) (.trap cACCF ds.base), issueFormats op hd ha,
    s.issueAd ds hd k (op != .halo && (s.fwd || s.rev)), s.issueAd as ha k s.rev]

/-- Queues a command (R351, R362): it waits for room in its channel. -/
def State.queueCmd (s : State) (c : Cmd) : Res :=
  let v := s.chan c.ch
  if 4 ≤ v.queue.length then .exc s (.wait (.engineRoom c.ch))
  else
    let x := s.run.ctx
    .ok ((s.setChan c.ch { v with queue := v.queue ++ [c] }).withCtx
      { x with iss := x.iss.set c.ch.toFin (x.iss[c.ch.toFin] + 1) })

/-- The image of a command that the running activation issues now. -/
def State.image (s : State) (op : EngOp) (ch : BitVec 3) (hd ha : BitVec 256) (rd ra : Option (BitVec 5)) (idx : List Int) :
    Cmd where
  owner := (s.run.act.map (·.serial)).getD 0
  priv := s.run.ctx.priv
  skip := 0
  op := op
  ch := ch
  num := s.run.ctx.iss[ch.toFin] + 1
  hd := hd
  ha := ha
  idx := idx
  ringD := rd
  ringA := ra
  pc := s.run.ctx.pc
  prog := none

/-- An operand's handle rules in a command (R53, R157, R158). -/
def engHandle (op : EngOp) (h : BitVec 256) (kinds : List Nat) : Bool :=
  handleOk h kinds && (hFmt h == 0 || engBlock op h (hFmt h))

/-- The ring register of an operand, if it is a ring. -/
def ringOf (r : Reg) (h : BitVec 256) : Option (BitVec 5) := if hKind h = 1 then some (r.setWidth 5) else none

/-- Issues a command whose own checks are `own`. Log entry 28 (DEDUCED). -/
def issue (op : EngOp) (ch : BitVec 3) (w : BitVec 32) (d a : Reg) (k : Nat) (own : Except Exc Unit) (s : State) : Res :=
  let c := s.image op ch (s.rdH d) (s.rdH a) (ringOf d (s.rdH d)) (ringOf a (s.rdH a)) []
  withE s own (fun _ => withE s (need (decide (c.units < 2 ^ 32)) (illopdH w)) (fun _ =>
    withE s (s.issueRows op w (s.rdH d) (s.rdH a) k) (fun _ => s.queueCmd c)))

/-- `cp` (R353), after its checkpoint. -/
def cpBody (ch : BitVec 3) (w : BitVec 32) (d a : Reg) (s : State) : Res :=
  withS s.checkpointAck (fun s =>
    let hd := s.rdH d
    let ha := s.rdH a
    let ringD := hKind hd == 1
    let ringA := hKind ha == 1
    let k := if ringD then ringSlots hd ha else if ringA then ringSlots ha hd else 0
    let counts :=
      if ringD then product (hDims ha) == k * hDim hd 0 && k != 0
      else if ringA then product (hDims hd) == k * hDim ha 0 && k != 0
      else product (hDims hd) == product (hDims ha)
    issue .cp ch w d a k
      (need (engHandle .cp hd [0, 1] && engHandle .cp ha [0, 1] && !(ringD && ringA) && counts) (illopdH w)) s)

/-- `cpt` (R354). -/
def cptBody (ch : BitVec 3) (w : BitVec 32) (d a : Reg) (s : State) : Res :=
  withS s.checkpointAck (fun s =>
    let hd := s.rdH d
    let ha := s.rdH a
    let x := (hDims ha).reverse
    let y := (hDims hd).reverse
    let shape := decide (2 ≤ x.length) && x.length == y.length && x.drop 2 == y.drop 2 &&
      x.getD 0 0 == y.getD 1 0 && x.getD 1 0 == y.getD 0 0
    let blocks := fun (h : BitVec 256) => hFmt h == 6 || hFmt h == 14
    issue .cpt ch w d a 0
      (need (engHandle .cpt hd [0] && engHandle .cpt ha [0] && shape && !blocks hd && !blocks ha) (illopdH w)) s)

/-- `halo` (R356). -/
def haloBody (ch : BitVec 3) (w : BitVec 32) (d a : Reg) (s : State) : Res :=
  withS s.checkpointAck (fun s =>
    let hd := s.rdH d
    let ha := s.rdH a
    let base := hBase hd
    let core := fieldOf hd 18 34
    issue .halo ch w d a 0
      (need (engHandle .halo hd [0] && engHandle .halo ha [0] && hSpace ha == 1 && hSpace hd == 1 &&
        decide (core < s.ncores) && decide (base.toNat < 2 ^ 52) && product (hDims hd) == product (hDims ha)) (illopdH w)) s)

/-- The index operand of `gath` (R355). -/
def idxWant : Want := ⟨[0], askLoad, fmtIsInt, fmtIsInt, false, false⟩

/-- `gath` (R355): the indices are read at issue through the `ls` path. -/
def gathBody (ch : BitVec 3) (w : BitVec 32) (d a b : Reg) (s : State) : Res :=
  withS s.checkpointAck (fun s =>
    let hd := s.rdH d
    let ha := s.rdH a
    let hb := s.rdH b
    let m := hDim hb 0
    let table := hRank ha == 2 && hSpace ha != 2
    let indices := hRank hb == 1 && hSpace hb == 1 && decide (1 ≤ m) && decide (m ≤ 8)
    let dest := if hKind hd = 1 then hDim hd 0 == hDim ha 1
      else hRank hd == 2 && hDim hd 0 == m && hDim hd 1 == hDim ha 1
    withE s (checks [need (engHandle .gath hd [0, 1] && engHandle .gath ha [0] && table && dest && indices) (illopdH w),
        handleCheck w hb false idxWant]) (fun _ =>
      withE s (s.issueRows .gath w hd ha m) (fun _ =>
        withE s (s.operand w hb false idxWant) (fun o =>
          withE s (s.sourcePoison o) (fun _ =>
            let idx := (List.range m).map (fun j => intOf o.fmt (s.raw o j))
            (s.readOperand o).queueCmd (s.image .gath ch hd ha (ringOf d hd) none idx))))))

/-! ### Faults and watching (R358 to R361) -/

/-- Whether a channel has stopped with a fault of the running activation. -/
def State.pending (s : State) (i : BitVec 3) : Option EngFault :=
  if (s.chan i).queue.head?.map (·.owner) = s.run.act.map (·.serial) then (s.chan i).pend else none

/-- Discards the faulting command and those behind it: SEQ := ISS (R358). -/
def State.discardChan (s : State) (i : BitVec 3) : State :=
  let v := s.chan i
  let x := s.run.ctx
  let last := (v.queue.getLast?.map (·.units)).getD 0
  (s.setChan i (v.withQueue [])).withCtx
    { x with seq := x.seq.set i.toFin x.iss[i.toFin], units := x.units.set i.toFin last }

/-- Delivers a pending fault of a channel (R358). -/
def State.deliver (s : State) (i : BitVec 3) (f : EngFault) : Res :=
  match f.pf with
  | some r => .exc s (.page r)
  | none =>
    if f.cause.toNat = cPOISON then .exc s (.poison (f.addr.toNat / 64))
    else .exc (s.discardChan i) (.trap f.cause.toNat f.addr)

/-- CPWP (R359). -/
def State.cpwpValue (s : State) (i : BitVec 3) : Word :=
  let x := s.run.ctx
  let n := x.iss[i.toFin]
  let q := x.seq[i.toFin]
  if n = 0 then 0
  else if q = n then word (q % 2 ^ 32 * 2 ^ 32 + x.units[i.toFin])
  else
    let own := (s.chan i).queue.head?.map (·.owner) = s.run.act.map (·.serial)
    word ((q + 1) % 2 ^ 32 * 2 ^ 32 + if own then (s.chan i).wp else 0)

/-- STATUS of a channel (R361). -/
def Chan.status (c : Chan) : Word :=
  word (c.funit.toNat * 2 ^ 32 + c.oor.toNat * 2 ^ 16 + c.fl.toNat * 2 ^ 8 + (if c.pend.isSome then 128 else 0) +
    (if c.queue.isEmpty then 0 else 64) + c.fcause.toNat)

/-- A read that the replay log records (R467). -/
def readReplayed (k : ReplaySource) (d : Reg) (v : Word) (s : State) : Res :=
  withReplay s k (fun s =>
    let v := s.replayed k v
    .ok ((s.record k v.toNat).wr d v))

/-- `cpwait` (R360). -/
def cpwaitBody (i : BitVec 3) (s : State) : Res :=
  match s.pending i with
  | some f => s.deliver i f
  | none => if s.run.ctx.seq[i.toFin] = s.run.ctx.iss[i.toFin] then .ok (s.observe i.toNat s.run.ctx.iss[i.toFin]) else .exc s (.wait (.engine i))

/-- `engseq` (R361). -/
def engseqBody (w : BitVec 32) (d : Reg) (a : Word) (s : State) : Res :=
  let i : BitVec 3 := a.setWidth 3
  let sel := fieldOf a 4 2
  withE s (need (a.toNat == i.toNat + 16 * sel && sel != 3) (illopd w 17)) (fun _ =>
    match (if sel = 2 then none else s.pending i) with
    | some f => s.deliver i f
    | none =>
      if sel = 0 then readReplayed .engseq d (word s.run.ctx.seq[i.toFin]) (s.observe i.toNat s.run.ctx.seq[i.toFin])
      else if sel = 1 then readReplayed .engseq d (word s.run.ctx.iss[i.toFin]) s
      else withReplay s .engseq (fun s =>
        let v := s.replayed .engseq (s.chan i).status
        .ok (((s.record .engseq v.toNat).setChan i { s.chan i with oor := 0, fl := 0 }).wr d v)))

/-! ### Instructions -/

/-- `cp` (R353). -/
def execCp (d a : Reg) (c : BitVec 3) (s : State) : Host.Outcome State Fault Refusal :=
  runBody 4 s (cpBody c (rrr 0 0x186 c 0 a d) d a)

/-- `cpt` (R354). -/
def execCpt (d a : Reg) (c : BitVec 3) (s : State) : Host.Outcome State Fault Refusal :=
  runBody 4 s (cptBody c (rrr 0 0x187 c 0 a d) d a)

/-- `gath` (R355). -/
def execGath (d a b : Reg) (c : BitVec 3) (s : State) : Host.Outcome State Fault Refusal :=
  runBody 4 s (gathBody c (rrr 0 0x188 c b a d) d a b)

/-- `halo` (R356). -/
def execHalo (d a : Reg) (c : BitVec 3) (s : State) : Host.Outcome State Fault Refusal :=
  runBody 4 s (haloBody c (rrr 0 0x18C c 0 a d) d a)

/-- `cpwp` (R359). -/
def execCpwp (d : Reg) (c : BitVec 3) (s : State) : Host.Outcome State Fault Refusal :=
  runBody 4 s (fun s => readReplayed .cpwp d (s.cpwpValue c) (s.observe c.toNat (s.run.ctx.seq[c.toFin] + 1)))

/-- `cpwait` (R360). -/
def execCpwait (c : BitVec 3) (s : State) : Host.Outcome State Fault Refusal :=
  runBody 4 s (cpwaitBody c)

/-- `engseq` (R361). -/
def execEngseq (d a : Reg) (s : State) : Host.Outcome State Fault Refusal :=
  runBody 4 s (fun s => engseqBody (rrr 0 0x18B 0 0 a d) d (s.rd a) s)

/-- ENGINE_UNIT: a channel runs a unit of the command at its head; a pre-empted core's channels stand still (R357). -/
def execEngineUnit (c : BitVec 3) (s : State) : Host.Outcome State Fault Refusal :=
  .next (if s.core.halt == some .preempt then s else s.engineUnit c)

end Sys2Proof.Machine
end

