-- ==== Sys2Proof/Machine/Matrix.lean ====
section
/-!
DEFINITION. Machine/Matrix.lean: row 10 columns 9 to 13 and the matrix unit's commands (spec/09 R232 to R251).
-/

namespace Sys2Proof.Machine

/-! ### The descriptor (R235) -/

/-- OP. -/
def dOp (h : BitVec 256) : Nat := fieldOf h 0 4
/-- ACC. -/
def dAcc (h : BitVec 256) : BitVec 2 := h.extractLsb' 4 2
/-- BFMT. -/
def dBfmt (h : BitVec 256) : Nat := fieldOf h 8 4
/-- SAT. -/
def dSat (h : BitVec 256) : Bool := h.getLsbD 12
/-- WOFF. -/
def dWoff (h : BitVec 256) : Nat := fieldOf h 16 16
/-- BAND. -/
def dBand (h : BitVec 256) : Nat := fieldOf h 32 16

/-- The bytes of a depth step of a format (R237). -/
def stepSize (f : Nat) : Nat := if f = 2 then 512 else if f = 4 then 256 else 160

/-- The formats of B and of A (R235, R236). -/
def mxFmt (f : Nat) : Bool := f == 2 || f == 4 || f == 6
/-- The formats that STACC writes (R236). -/
def staccFmt (f : Nat) : Bool := f == 1 || f == 2 || f == 3 || f == 4 || f == 5

/-- A BF16 value that is positive and finite. -/
def bandOk (b : Nat) : Bool :=
  match decodeF bf16 b with
  | .fin neg m _ => !neg && m != 0
  | _ => false

/-- The rules of R235 and R236 for a descriptor: reserved fields, OP, BFMT, BAND and WOFF. -/
def descOk (h : BitVec 256) : Bool :=
  let op := dOp h
  let mul := op == 1 || op == 2
  fieldOf h 48 208 == 0 && fieldOf h 13 3 == 0 && fieldOf h 6 2 == 0 && decide (op ≤ 5) &&
    (if mul then mxFmt (dBfmt h) else dBfmt h == 0) &&
    (if mul && dBfmt h == 6 then bandOk (dBand h) else dBand h == 0) &&
    (if mul || op == 0 then dWoff h % 32 == 0 else dWoff h == 0) &&
    (op == 3 || !dSat h) && (op != 0 && op != 5 || dAcc h == 0)

/-! ### Issuing (R234, R236) -/

/-- What a command asks of its operand; CODE32 is left to the format rules, which raise FMTF. -/
def mxSrc : Want := ⟨[0], { askLoad with kind := .engine }, fun f => mxFmt f || f == 12, mxFmt, false, false⟩
def mxDst : Want := ⟨[0], { askStore with kind := .engine }, fun f => staccFmt f || f == 12, staccFmt, false, false⟩

/-- The storage of each element, or of each E2M1 block, with the home of its scale (R238). -/
def Opnd.sources (o : Opnd) : List (Nat × Nat) :=
  ((List.range o.els.length).zip o.els).filterMap (fun (p : Nat × Elem) =>
    if o.fmt = 6 && p.1 % 8 != 0 then none
    else
      let a := (p.2.units.headD (0, 0)).1
      some (a, match p.2.loc.entry with
        | some t => if o.fmt = 6 then t.scaleByte p.2.loc.va else 0
        | none => a + 4))

/-- The checks of an operand of `n` elements: R53, R236 and every check of R126 (R234). -/
def State.mxOperand (s : State) (w : BitVec 32) (h : BitVec 256) (dst : Bool) (x : Want) (shape : Bool) : Except Exc Opnd :=
  match checks [need shape (illopdH w), handleCheck w h dst x] with
  | .error e => .error e
  | .ok _ => s.operand w h dst x

/-- The command that `mxq` queues, with its operand where it has one (R236). -/
def State.mxCommand (s : State) (w : BitVec 32) (ha hb : BitVec 256) : Except Exc (MxCmd × Option Opnd) :=
  let n := (Shape.of ha false).n
  let steps := n % 256 == 0 && decide (1 ≤ n)
  let cmd := fun (f : Nat) (l : List (Nat × Nat)) => (⟨s.run.mx.iss + 1, ha, hb, BitVec.ofNat 4 f, l⟩ : MxCmd)
  match dOp hb with
  | 0 =>
    let fits := fun (f : Nat) => decide (dWoff hb + n / 256 * stepSize f ≤ 65536)
    match s.mxOperand w ha false mxSrc (hSpace ha != 2 && steps && (hFmt ha == 0 || fits (hFmt ha))) with
    | .error e => .error e
    | .ok o =>
      if fits o.fmt then .ok (cmd o.fmt o.sources, some o) else .error (illopdH w)
  | 3 =>
    match s.mxOperand w ha true mxDst (hSpace ha == 1 && n == 256 && (!dSat hb || hFmt ha == 4 || hFmt ha == 5)) with
    | .error e => .error e
    | .ok o => .ok (cmd o.fmt [], none)
  | 4 => .ok (cmd 0 [], none)
  | 5 =>
    if hSpace ha == 1 && (hBase ha).toNat % 8 == 0 && inSpace 1 (hBase ha) then .ok (cmd 0 [], none)
    else .error (illopdH w)
  | _ =>
    match s.mxOperand w ha false mxSrc
        (hSpace ha == 1 && steps && decide (dWoff hb + n / 256 * stepSize (dBfmt hb) ≤ 65536)) with
    | .error e => .error e
    | .ok o => .ok (cmd o.fmt [], some o)

/-- Sets the read-set bits of the scratchpad lines that a command reads (R95, R234). Log entry 70 (DEDUCED). -/
def State.mxReads (s : State) (o : Opnd) : State :=
  o.els.foldl (fun s e => if e.loc.space = 1 then e.units.foldl (fun s u => s.markRead (u.1 - s.spA 0) u.2) s else s) s

/-- `mxq` (R234), after its checkpoint. Log entry 70 (DEDUCED). -/
def mxqBody (w : BitVec 32) (a b : Reg) (s : State) : Res :=
  withS s.checkpointAck (fun s =>
    let hb := s.rdH b
    withE s (need (descOk hb) (illopdH w)) (fun _ =>
      withE s (s.mxCommand w (s.rdH a) hb) (fun c =>
        if 16 ≤ s.run.mx.queue.length then .exc s (.wait .matrixRoom)
        else
          let s := match c.2 with
            | some o => s.mxReads o
            | none => s
          let m := s.run.mx
          .okCk (s.withMx { m with queue := m.queue ++ [c.1], iss := m.iss + 1 }))))

/-! ### Running a command (R237 to R243) -/

/-- Element q of the step at byte `o` of the weight buffer (R237). -/
def stepElem (wb : Memory) (f band o q : Nat) : FVal :=
  if f = 2 then decodeF bf16 (wb.nat (o + 2 * q) 2)
  else if f = 4 then decodeF e4m3 (wb.nat (o + q) 1)
  else e2m1Element (wb.nat (o + q / 2) 1 / 16 ^ (q % 2) % 16) (wb.nat (o + 128 + q / 8) 1) (decodeF bf16 band)

/-- The flag bits of MXST (R242). -/
def mxFlags (f : Flags) : BitVec 4 :=
  BitVec.ofNat 4 ((if f.getLsbD 0 then 1 else 0) + (if f.getLsbD 2 then 2 else 0) + (if f.getLsbD 3 then 4 else 0) +
    (if f.getLsbD 4 then 8 else 0))

/-- An exact sum of exact products (R239), whose special values are judged over the step as a whole (R240). -/
def exactDot (ps : List (FVal × FVal)) : FVal × Flags :=
  let ts := ps.map (fun p => mulV p.1 p.2)
  let fl := ts.foldl (fun f t => f ||| t.2) (0 : Flags)
  let vs := ts.map (·.1)
  if vs.contains (.inf false) && vs.contains (.inf true) then (.nan false, fl ||| flNV)
  else if vs.any (·.isNan) then (.nan false, fl)
  else match vs with
    | [] => (.fin false 0 0, fl)
    | v :: vs => (vs.foldl (fun acc v => (addV .rne acc v).1) v, fl)

/-- One element of a depth step: RoundFP32(W + p) (R239, R240). -/
def depthElem (w : BitVec 32) (ps : List (FVal × FVal)) : BitVec 32 × Flags :=
  let p := exactDot ps
  let r := addV .rne (decodeF fp32 w.toNat) p.1
  let v := roundF fp32 .rne false r.1
  (BitVec.ofNat 32 v.1, p.2 ||| r.2 ||| v.2)

/-- One depth step over all 256 elements: `a m u` and `b u j` are the factors. -/
def depthStep (a b : Nat → Nat → FVal) (ws : List (BitVec 32)) : List (BitVec 32) × Flags :=
  let r := ((List.range 256).zip ws).map (fun (x : Nat × BitVec 32) =>
    depthElem x.2 ((List.range 16).map (fun u => (a (x.1 / 16) u, b u (x.1 % 16)))))
  (r.map (·.1), r.foldl (fun f x => f ||| x.2) 0)

/-- How the steps of a multiplication go: the copy W, the flags, the reruns, and whether a step mismatched twice. -/
structure MxRun where
  w : List (BitVec 32)
  flags : Flags
  reruns : Nat
  failed : Bool
  deriving DecidableEq, Repr

/-- The steps of a multiplication; `mis` lists the mismatching ones, once or twice (R239, R246). Log entry 46 (DEDUCED). -/
def mulSteps (a b : Nat → Nat → Nat → FVal) (mis : List Nat) : List Nat → MxRun → MxRun
  | [], r => r
  | t :: ts, r =>
    let k := (mis.filter (· == t)).length
    let r := if k = 0 then r else { r with reruns := r.reruns + 1 }
    if 2 ≤ k then { r with failed := true }
    else
      let x := depthStep (a t) (b t) r.w
      mulSteps a b mis ts { r with w := x.1, flags := r.flags ||| x.2 }

/-- A canonical NaN in every element (R246). -/
def nanAcc : List (BitVec 32) := List.replicate 256 (BitVec.ofNat 32 fp32.nan)

/-- The number of the command whose fault is pending (R247). -/
def MxFault.seq : MxFault → Nat
  | .mxe n _ _ _ => n
  | .mmx n _ => n
  | .capf n _ => n

/-- Pending faults stand in the order of their commands (R247). Log entry 48 (DEDUCED). -/
def insertFault (f : MxFault) : List MxFault → List MxFault
  | [] => [f]
  | g :: l => if f.seq < g.seq then f :: g :: l else g :: insertFault f l

/-- Poisons an accumulator and makes an MXE pending (R246, R247). -/
def Mx.poison (m : Mx) (acc : BitVec 2) (seq : Nat) (storage : Bool) (op : BitVec 4) : Mx :=
  { m with
    acc := m.acc.set acc.toFin nanAcc
    pois := m.pois ||| (1#4 <<< acc.toNat)
    pending := insertFault (.mxe seq storage acc op) m.pending }

/-- The command at the head retires (R243). -/
def Mx.retire (m : Mx) : Mx := { m with queue := m.queue.tail, seq := m.seq + 1, prog := none }

/-- How far the command at the head has come, starting from a copy of its accumulator (R239, R251). -/
def Mx.progress (m : Mx) (acc : BitVec 2) : MxProg := m.prog.getD ⟨0, m.acc[acc.toFin], 0, 0⟩

/-- Adds reruns, saturating at 15 (R242). Log entry 46 (DEDUCED). -/
def Mx.addReruns (m : Mx) (n : Nat) : Mx := { m with rerun := min 15 (m.rerun + n) }

/-- The operand of a queued command in the scratchpad. -/
def State.mxOpnd (s : State) (c : MxCmd) (dst : Bool) (x : Want) : Opnd :=
  let sh := Shape.of c.opnd dst
  ⟨sh, c.fmt.toNat, (mapE (s.elemCheck 0 sh c.fmt.toNat x) (List.range sh.n)).toOption.getD []⟩

/-- Whether an uncorrectable error has struck step `t` of a multiplication in the weight buffer (R237, R246). -/
def State.stepStruck (s : State) (d : BitVec 256) (t : Nat) : Bool :=
  let lo := dWoff d + t * stepSize (dBfmt d)
  s.core.wbad.any (fun a => decide (lo ≤ a) && decide (a < lo + stepSize (dBfmt d)))

/-- MMA and MMAT on the operand `o`, `n` depth steps of them (R239, R246, R251); an error in the weight buffer has the outcome
of a second mismatch (R246). Log entry 48 (DEDUCED). -/
def State.mxProduct (s : State) (c : MxCmd) (o : Opnd) (mis : List Nat) (n : Nat) : State :=
  let k := o.sh.n / 16
  let d := c.desc
  let f := dBfmt d
  let v := s.viewPath 3
  let a := fun t m u => if dOp d = 1 then v.val o (m * k + 16 * t + u) else v.val o ((16 * t + u) * 16 + m)
  let b := fun t u j => stepElem s.core.wb f (dBand d) (dWoff d + t * stepSize f) (16 * u + j)
  let p := s.run.mx.progress (dAcc d)
  let stop := min (k / 16) (p.done + n)
  let ts := (List.range stop).drop p.done
  let good := ts.takeWhile (fun t => !s.stepStruck d t)
  let x := mulSteps a b mis good ⟨p.w, p.flags, p.reruns, false⟩
  let storage := !x.failed && decide (good.length < ts.length)
  let r := { x with failed := x.failed || storage }
  if !r.failed && stop < k / 16 then s.withMx { s.run.mx with prog := some ⟨stop, r.w, r.flags, r.reruns⟩ }
  else
    let m := s.run.mx.addReruns r.reruns
    let m := { m with flags := m.flags ||| mxFlags r.flags }
    let m := if r.failed then m.poison (dAcc d) c.num storage (BitVec.ofNat 4 (dOp d))
      else { m with acc := m.acc.set (dAcc d).toFin r.w }
    s.withMx m.retire

/-- MMA and MMAT: a poisoned line of the operand is reported, as every read of one is (R336, R428). Log entry 46 (DEDUCED). -/
def State.mxMul (s : State) (c : MxCmd) (mis : List Nat) (n : Nat) : State :=
  let o := s.mxOpnd c false mxSrc
  match s.sourcePoison o with
  | .error (.poison line) => (s.withMx s.run.mx.retire).poisonFault line
  | _ => s.mxProduct c o mis n

/-- A part of an LDW: bytes of the buffer, the home that gives them, and the element or block they belong to. -/
structure LdwPart where
  dst : Nat
  src : Nat
  len : Nat
  idx : Nat
  deriving DecidableEq, Repr

/-- The parts of an LDW in ascending byte order (R237, R238): each element's bytes, or, for E2M1, the words of a step's 32
blocks and then their scales. -/
def MxCmd.parts (c : MxCmd) : List LdwPart :=
  let z := fmtSize c.fmt.toNat
  let src := fun i => c.homes.getD i (0, 0)
  let woff := dWoff c.desc
  if c.fmt = 6 then
    (List.range (c.homes.length / 32)).flatMap (fun t =>
      (List.range 32).map (fun k => ⟨woff + 160 * t + 4 * k, (src (32 * t + k)).1, 4, 32 * t + k⟩) ++
      (List.range 32).map (fun k => ⟨woff + 160 * t + 128 + k, (src (32 * t + k)).2, 1, 32 * t + k⟩))
  else (List.range c.homes.length).map (fun i => ⟨woff + z * i, (src i).1, z, i⟩)

/-- The parts that lie in the units of 64 buffer bytes from `lo` on and below `hi` (R238). -/
def MxCmd.unitParts (c : MxCmd) (lo hi : Nat) : List LdwPart :=
  c.parts.filter (fun p => decide (dWoff c.desc + 64 * lo ≤ p.dst) && decide (p.dst < dWoff c.desc + 64 * hi))

/-- Where an LDW stops: nowhere, at a line whose capability fails, or at poison (R251). -/
inductive LdwEnd where
  | done
  | refused (cause i : Nat)
  | poison (line : Nat)
  deriving DecidableEq, Repr

/-- Whether the home of a part passes: a SPACE 0 source's capability is checked again as it is read (R251). Log entry
134 (DESIGN CHOICE). -/
def State.ldwCheck (s : State) (global : Bool) (p : LdwPart) : LdwEnd :=
  let refusal := capRefusal (s.capAt p.src) s.lcore .load
  match (if global then refusal else none) with
  | some c => .refused c p.idx
  | none => if s.poisoned (p.src / 64) then .poison (p.src / 64) else .done

/-- Copies parts in order until one fails (R238, R251). -/
def State.ldwCopy (s : State) (global : Bool) : List LdwPart → Memory → Memory × LdwEnd
  | [], wb => (wb, .done)
  | p :: l, wb =>
    match s.ldwCheck global p with
    | .done => State.ldwCopy s global l (wb.put p.dst ((List.range p.len).map (fun k => s.memByte (p.src + k))))
    | e => (wb, e)

/-- The bytes of the buffer that an LDW has written are good again (R246). Log entry 48 (DEDUCED). -/
def clearStruck (ps : List LdwPart) (l : List Nat) : List Nat :=
  l.filter (fun a => !ps.any (fun p => decide (p.dst ≤ a) && decide (a < p.dst + p.len)))

/-- LDW, `n` units of 64 bytes of it, which wait for refreshing banks (R151, R238, R251); a source line that has become SYNC or a
reducing window since `mxq` makes a CAPF pending. Log entries 45 (DEDUCED), 134 (DESIGN CHOICE). -/
def State.mxLdw (s : State) (c : MxCmd) (n : Nat) : State :=
  let sh := Shape.of c.opnd false
  let f := c.fmt.toNat
  let p := s.run.mx.progress 0
  let total := (sh.n / 256 * stepSize f + 63) / 64
  let stop := min total (p.done + n)
  let ps := c.unitParts p.done stop
  let s := s.awaitHomes (ps.map (·.src))
  let v := s.viewPath 3
  let r := v.ldwCopy (decide (sh.space = 0)) ps s.core.wb
  let good := ps.takeWhile (fun p => v.ldwCheck (decide (sh.space = 0)) p == .done)
  let s := { s with core := { s.core with wb := r.1, wbad := clearStruck good s.core.wbad } }
  match r.2 with
  | .done =>
    if stop < total then s.withMx { s.run.mx with prog := some { p with done := stop } } else s.withMx s.run.mx.retire
  | .refused cause i =>
    let va := sh.addr f (if f = 6 then 8 * i else i)
    let m := s.run.mx
    s.withMx ({ m with pending := insertFault (if cause = cMMX then .mmx c.num va else .capf c.num va) m.pending } : Mx).retire
  | .poison line => (s.withMx s.run.mx.retire).poisonFault line

/-- The bytes that an operand's units cover. -/
def Opnd.cover (o : Opnd) : ByteMap :=
  o.els.foldl (fun m e => e.units.foldl (fun m u => ByteMap.put m u.1 (List.replicate u.2 0)) m) []

/-- The unit stores an element of its destination in the scratchpad (R241, R250). -/
def State.mxPut (s : State) (o : Opnd) (j raw : Nat) : State := s.putUnitsAs 3 (o.el j).units (bytesOf (fmtSize o.fmt) raw)

/-- STACC, `n` units of 64 bytes of it (R241, R251): a line that it writes whole loses its poison (R336). -/
def State.mxStacc (s : State) (c : MxCmd) (n : Nat) : State :=
  let o := s.mxOpnd c true mxDst
  let p := s.run.mx.progress (dAcc c.desc)
  let acc := s.run.mx.acc[(dAcc c.desc).toFin]
  let per := 64 / max 1 (fmtSize o.fmt)
  let stop := min 256 (per * (p.done + n))
  let r := eachElem (fun s j =>
    let v := encodeVal o.fmt .rne (dSat c.desc) (decodeF fp32 (acc.getD j 0).toNat)
    (s.mxPut o j v.1, v.2)) ((List.range stop).drop (per * p.done)) s p.flags
  let s := r.1
  if stop < 256 then s.withMx { s.run.mx with prog := some { p with done := p.done + n, flags := r.2 } }
  else
    let s := { s with die := { s.die with poison := clearPoison o.cover s.die.poison } }
    let m := s.run.mx
    s.withMx ({ m with flags := m.flags ||| mxFlags r.2 } : Mx).retire

/-- ZERO (R241). -/
def State.mxZero (s : State) (c : MxCmd) : State :=
  let m := s.run.mx
  let a := dAcc c.desc
  s.withMx ({ m with acc := m.acc.set a.toFin (List.replicate 256 0), pois := m.pois &&& ~~~(1#4 <<< a.toNat) } : Mx).retire

/-- MXST with the number of a CHK (R242). -/
def Mx.status (m : Mx) (num : Nat) : Nat :=
  num % 2 ^ 32 * 2 ^ 32 + m.pois.toNat * 2 ^ 12 + m.rerun * 2 ^ 8 + m.flags.toNat

/-- CHK (R242). Log entry 49 (DEDUCED). -/
def State.mxChk (s : State) (c : MxCmd) : State :=
  let m := s.run.mx
  let s := s.putAs 3 (s.spA (hBase c.opnd).toNat) (bytesOf 8 (m.status c.num))
  s.withMx ({ m with rerun := 0, flags := 0 } : Mx).retire

/-- The unit does `n` of its steps on the command at the head of its queue (R243): depth steps, or units of 64 bytes; it stands
still while the core is held (R251). Log entry 106 (DEDUCED). -/
def State.mxRun (s : State) (mis : List Nat) (n : Nat) : State :=
  match s.run.mx.queue with
  | [] => s
  | c :: _ =>
    if s.core.halt.isSome then s
    else match dOp c.desc with
      | 0 => s.mxLdw c n
      | 3 => s.mxStacc c n
      | 4 => s.mxZero c
      | 5 => s.mxChk c
      | _ => s.mxMul c mis n

/-- The steps that the unit does in a turn (R243). -/
def State.mxTurn (s : State) : State := s.mxRun [] (1 + Config.unitSteps s.fresh)

/-- A step of the unit that the table names by the command's OP: the command runs to its end; no command takes more steps than it
has elements. -/
def State.mxEvent (s : State) (op : Nat) (mis : List Nat) : State :=
  match s.run.mx.queue with
  | [] => s
  | c :: _ => if dOp c.desc = op then s.mxRun mis (1 + (Shape.of c.opnd false).n) else s

/-! ### Watching and reading (R244 to R249) -/

/-- The trap of a pending fault (R247). -/
def MxFault.exc : MxFault → Exc
  | .mxe seq storage acc op =>
    .trap cMXE (word (seq % 2 ^ 32 * 2 ^ 32 + (if storage then 2 ^ 8 else 0) + acc.toNat * 2 ^ 4 + op.toNat))
  | .mmx _ va => .trap cMMX va
  | .capf _ va => .trap cCAPF va

/-- Delivers the first pending fault, or continues (R247). -/
def withMxFault (s : State) (k : State → Res) : Res :=
  match s.run.mx.pending with
  | [] => k s
  | f :: l => .exc (s.withMx { s.run.mx with pending := l }) f.exc

/-- `mxwait` (R245). -/
def mxwaitBody (w : BitVec 32) (v : Word) (s : State) : Res :=
  withE s (need (decide (v.toNat ≤ s.run.mx.iss)) (illopd w 17)) (fun _ =>
    if v.toNat ≤ s.run.mx.seq then withMxFault s (fun s => .ok (s.observe 8 v.toNat)) else .exc s (.wait .matrix))

/-- Whether a queued command targets an accumulator (R248). -/
def MxCmd.targets (c : MxCmd) (a : BitVec 2) : Bool := dOp c.desc != 0 && dOp c.desc != 5 && dAcc c.desc == a

/-- Element x of an accumulator. -/
def State.accElem (s : State) (a : BitVec 2) (x : Nat) : Word := zext (s.run.mx.acc[a.toFin].getD x 0)

/-- `accmv` (R248). -/
def accmvBody (w : BitVec 32) (d : Reg) (a : BitVec 2) (x : Word) (s : State) : Res :=
  withE s (need (decide (x.toNat ≤ 255)) (illopd w 23)) (fun _ =>
    if s.run.mx.queue.any (fun c => c.targets a) then .exc s (.wait .matrix)
    else withMxFault s (fun s => .ok (s.wr d (s.accElem a x.toNat))))

/-- Whether a replay waits for the unit to come to the count that the log holds for this `accpk`: the element and its count are
of one instant (R249, R467). Log entry 130 (DEDUCED). -/
def State.mxBehind (s : State) : Bool :=
  s.dbg.replayMode && decide (s.run.mx.seq < (s.replayed .accpk (word s.run.mx.seq)).toNat) && !s.run.mx.queue.isEmpty

/-- `accpk` (R249). Log entry 130 (DEDUCED). -/
def accpkBody (w : BitVec 32) (d : Reg) (a : BitVec 2) (x : Word) (s : State) : Res :=
  withE s (need (decide (x.toNat ≤ 255)) (illopd w 23)) (fun _ =>
    withMxFault s (fun s =>
      if s.mxBehind then .exc s (.wait .matrix)
      else withReplay s .accpk (fun s =>
        .ok (((s.record .accpk s.run.mx.seq).wr d (s.accElem a x.toNat)).wr (d + 1) (word s.run.mx.seq)))))

/-! ### Instructions -/

/-- `mxq` (R234). -/
def execMxq (a b : BitVec 5) (s : State) : Host.Outcome State Fault Refusal :=
  runBody 4 s (mxqBody (hhh 0 0x149 0 b a 0) (a.setWidth 6) (b.setWidth 6))

/-- `mxseq` (R244). -/
def execMxseq (d : Reg) (s : State) : Host.Outcome State Fault Refusal :=
  runBody 4 s (fun s => readReplayed .mxseq d (word s.run.mx.seq) s)

/-- `mxwait` (R245). -/
def execMxwait (a : Reg) (s : State) : Host.Outcome State Fault Refusal :=
  runBody 4 s (fun s => mxwaitBody (rrr 0 0x14B 0 0 a 0) (s.rd a) s)

/-- `accmv` (R248). -/
def execAccmv (d a b : Reg) (s : State) : Host.Outcome State Fault Refusal :=
  runBody 4 s (fun s => accmvBody (rrr 0 0x14C 0 b a d) d (a.setWidth 2) (s.rd b) s)

/-- `accpk` (R249). -/
def execAccpk (d a b : Reg) (s : State) : Host.Outcome State Fault Refusal :=
  runBody 4 s (fun s => accpkBody (rrr 0 0x14D 0 b a d) d (a.setWidth 2) (s.rd b) s)

/-- MX_LDW: the unit runs an LDW (R238). -/
def execMxLdw (s : State) : Host.Outcome State Fault Refusal :=
  .next (s.mxEvent 0 [])

/-- MX_MMA: the unit runs an MMA; `mis` lists the depth steps whose checksums mismatch (R239). -/
def execMxMma (mis : List Nat) (s : State) : Host.Outcome State Fault Refusal :=
  .next (s.mxEvent 1 mis)

/-- MX_MMAT: the unit runs an MMAT (R239). -/
def execMxMmat (mis : List Nat) (s : State) : Host.Outcome State Fault Refusal :=
  .next (s.mxEvent 2 mis)

/-- MX_STACC: the unit runs a STACC (R241). -/
def execMxStacc (s : State) : Host.Outcome State Fault Refusal :=
  .next (s.mxEvent 3 [])

/-- MX_ZERO: the unit runs a ZERO (R241). -/
def execMxZero (s : State) : Host.Outcome State Fault Refusal :=
  .next (s.mxEvent 4 [])

/-- MX_CHK: the unit runs a CHK (R242). -/
def execMxChk (s : State) : Host.Outcome State Fault Refusal :=
  .next (s.mxEvent 5 [])

end Sys2Proof.Machine
end

