-- ==== Sys2Proof/Machine/Activation.lean ====
section
/-!
DEFINITION. Machine/Activation.lean: packets and their placement, the start and the end of activations, sending, and the
events of commits and ordered activations (spec/04 R79 to R116; spec/05 R118; spec/18 R402).
-/

namespace Sys2Proof.Machine

/-- Ends a wait of the running activation, if it is the one it waits for. -/
def State.endWait (s : State) (w : Wait) : State :=
  if s.run.stall = some w then { s with run := { s.run with stall := none } } else s

/-! ### Placement (R80 to R86, R108, R148, R285) -/

/-- The 32 slots in ascending number. -/
def slotNumbers : List (BitVec 5) := (List.range 32).map (BitVec.ofNat 5)

/-- The lowest slot that a test picks. -/
def State.pickSlot (s : State) (p : Slot → Bool) : Option (BitVec 5) := slotNumbers.find? (fun i => p (s.slot i))

/-- Whether another core holds a stream to this core for a tag: set-ups of others wait (R347). -/
def State.streamBlocks (s : State) (src : CoreNum) (tag : BitVec 16) : Bool :=
  s.net.rcircs.any (fun c => c.tag == tag && c.src != src && c.stream)

/-- Whether a queued set-up waits for a circuit or stream to close, not for a slot (R347). -/
def State.setupBlocked (s : State) (r : SetupReq) : Bool :=
  s.streamBlocks r.src r.tag || (!r.perPacket && r.stream && s.net.rcircs.any (fun c => c.tag == r.tag && c.src != r.src))

/-- Whether a slot is granted to the set-up of a packet. -/
def Slot.grantedTo (v : Slot) (p : Packet) : Bool :=
  v.st == .reserved && v.circ.isNone && v.pkt.src == p.src && v.pkt.tag == p.tag

/-- The slot a packet lands in (R82): one reserved to its circuit, for which it waits while all are filled (R348); one granted to
its set-up; or the lowest FREE one, which its set-up reserves as it arrives, unless a stream or an earlier set-up comes first
(R347, R349). Log entry 50 (DEDUCED). -/
def State.landing (s : State) (p : Packet) : Option (BitVec 5) :=
  match (if p.onCircuit then s.rcirc p.src p.tag else none) with
  | some c => s.pickSlot (fun v => v.st == .reserved && v.circ == some c.id)
  | none => (s.pickSlot (fun v => v.grantedTo p)).orElse (fun _ =>
    if s.streamBlocks p.src p.tag || s.net.setups.any (fun r => !s.setupBlocked r) then none
    else s.pickSlot (fun v => v.st == .free))

/-- The set-up of a packet that found no slot joins the queue, once (R349). Log entry 50 (DEDUCED). -/
def State.queueSetup (s : State) (p : Packet) : State :=
  if p.onCircuit || s.net.setups.any (fun r => r.perPacket && r.src == p.src && r.tag == p.tag) then s
  else { s with net := { s.net with setups := s.net.setups ++ [⟨p.src, p.tag, 1, 1, false, true⟩] } }

/-- A transfer of a circuit is used up at the receiver (R348). -/
def State.useTransfer (s : State) (id : Nat) : State :=
  { s with net := { s.net with rcircs := s.net.rcircs.map (fun c =>
      if c.id == id && (!c.stream || c.closing) then { c with left := c.left - 1 } else c) } }

/-- The valid bind entry of a tag (R80). -/
def State.bindOf (s : State) (t : BitVec 16) : Option BindEntry :=
  s.net.binds.toList.find? (fun e => e.valid && e.tag == t)

/-- A packet that no instruction can send (R84). -/
def packetMalformed (p : Packet) : Bool :=
  decide (6 ≤ p.kind.toNat) || decide (28 < p.len.toNat) || (p.kind == 5 && p.len == 0)

/-- A packet that joins a queue ends an `idle` of its priority or a lower one (R148). -/
def State.wakeIdle (s : State) (prio : BitVec 2) : State :=
  match s.run.act with
  | some a =>
    if s.run.stall = some .idle && decide (prio.toNat ≤ a.prio.toNat) then
      { s with run := { s.run with idleDone := true, stall := none } }
    else s
  | none => s

/-- Binds the packet of a slot to an entry and queues it; a tag binding may take it at once (R80, R85, R86, R285). -/
def State.bindSlot (s : State) (i : BitVec 5) (e : BindEntry) : State :=
  let v := s.slot i
  let s := s.setSlot i { v with
    bound := some e
    bindings := if v.pkt.kind = 5 then v.pkt.len.toNat else 1
    arrival := s.arrivalNow }
  let s := (s.queuePacket i e.prio s.arrivalNow).joinStreams
  if s.net.queue.any (fun q => q.slot == i) then s.wakeIdle e.prio else s

/-- An ordered packet takes the next placement number (R100). -/
def State.number (s : State) (p : Packet) : State × Nat :=
  if p.ts = 0 then (s, 0)
  else ({ s with core := { s.core with place := s.core.place + 1 } }, s.core.place + 1)

/-- A packet lands in slot `i`: it is discarded, held unbound, or bound and queued (R80, R81, R84). -/
def State.land (s : State) (i : BitVec 5) (p : Packet) : State :=
  let circ := (s.slot i).circ
  let s := match circ with
    | some id => s.useTransfer id
    | none => s
  if packetMalformed p then
    let s := { s with net := { s.net with malformed := s.net.malformed + 1 } }
    (s.setSlot i { Slot.empty with circ := circ }).releaseSlot i
  else
    let n := s.number p
    let s := n.1.setSlot i { Slot.empty with
      st := .queued
      pkt := { p with payload := p.payload.take p.len.toNat }
      circ := circ
      place := n.2 }
    match s.bindOf p.tag with
    | some e => s.bindSlot i e
    | none =>
      let s := { s with net := { s.net with unboundCount := s.net.unboundCount + 1 } }
      s.report (.unbound i)

/-- Places a packet if a slot can take it, else its set-up waits; the flag says whether it was placed. Log entry
50 (DEDUCED). -/
def State.place? (s : State) (p : Packet) : State × Bool :=
  match s.landing p with
  | some i => (s.land i p, true)
  | none => (s.queueSetup p, false)

/-- Whether arriving packets wait in the input buffers: the core is halted (R408, R464, R465), or its partition holds
packets until the quantum ends (R402). -/
def State.holdsArrivals (s : State) : Bool := s.core.halt.isSome || s.det

/-- The packets on their way from the core to itself. -/
def State.ownFlight (s : State) : List Packet := s.net.flight.filter (fun p => p.dest == s.lcore)

/-- A packet that the core sent itself arrives: the oldest of those on their way only (R99). -/
def State.arriveOwn (s : State) (p : Packet) : State :=
  if (s.ownFlight.filter (fun q => q.kind != 3)).head? != some p || s.holdsArrivals then s
  else
    let r := s.place? p
    if r.2 then { r.1 with net := { r.1.net with flight := r.1.net.flight.erase p } } else r.1

/-- A packet arrives: it is placed, or waits behind the earlier ones of its sender (R99). -/
def State.arrive (s : State) (p : Packet) : State :=
  let wait := fun (s : State) => { s with net := { s.net with waiting := s.net.waiting ++ [p] } }
  if p.src == s.lcore then s.arriveOwn p
  else if s.holdsArrivals || s.net.waiting.any (fun q => q.src == p.src && q.kind != 3) then wait s
  else
    let r := s.place? p
    if r.2 then r.1 else wait r.1

/-- Held unbound packets whose tag now has an entry are bound (R80, R81). Log entry 51 (DEDUCED). -/
def State.bindHeld (s : State) : State :=
  slotNumbers.foldl (fun s i =>
    let v := s.slot i
    if v.st == .queued && v.bound.isNone then
      (match s.bindOf v.pkt.tag with
        | some e => s.bindSlot i e
        | none => s)
    else s) s

/-- Writes a bind entry over the valid one of its tag, or else into the first that is not valid. -/
def State.installBind (s : State) (e : BindEntry) : State :=
  let l := s.net.binds.toList
  match (l.findIdx? (fun v => v.valid && v.tag == e.tag)).orElse (fun _ => l.findIdx? (fun v => !v.valid)) with
  | some k => { s with net := { s.net with binds := s.net.binds.setIfInBounds k e } }
  | none => s

/-- Removes every bind entry that a test names. -/
def State.dropBinds (s : State) (p : BindEntry → Bool) : State :=
  { s with net := { s.net with binds := s.net.binds.map (fun e => if e.valid && p e then BindEntry.empty else e) } }

/-- The firmware answers an unbound arrival (R81): an entry, or none to discard the packet. In deterministic mode the
packet queues when the quantum ends (R403). Log entry 51 (DEDUCED). -/
def State.answerUnbound (s : State) (i : BitVec 5) (entry : Option BindEntry) : State :=
  match entry with
  | some e =>
    let s := s.installBind e
    if s.det then s else s.bindHeld
  | none => if (s.slot i).st == .queued && (s.slot i).bound.isNone then s.releaseSlot i else s

/-! ### The start of an activation (R86 to R88, R111, R118, R411, R412) -/

/-- TVEC of an entry of the kernel table (R118). -/
def State.ktabOf (s : State) (k : BitVec 4) : Word := s.net.ktab[k.toFin]

/-- Applies the invalidations that wait for the next start (R466). -/
def State.applyInvalidations (s : State) : State :=
  let s := s.seeCode s.core.inval
  { s with core := { s.core with
      icache := s.core.icache.filter (fun p => !s.core.inval.contains (p.addr / 64))
      inval := [] } }

/-- The context at a start (R87): what the table of R87 does not reset goes on from the core (R22, R79, R190, R348, R401,
R448). -/
def startCtx (c : Ctx) (pc : Word) (slot : BitVec 5) : Ctx :=
  { Ctx.reset with
    pc := pc
    w := Ctx.reset.w.set 0 (some slot)
    seed := c.seed
    fntol := c.fntol
    circidle := c.circidle
    estat := c.estat
    epc := c.epc
    tcause := c.tcause
    tval := c.tval
    tscratch := c.tscratch
    last := c.last
    top := c.top
    lic := c.lic
    sigk := c.sigk }

/-- The activation that a queued packet starts (R80, R88). -/
def Slot.act (v : Slot) (q : QItem) (e : BindEntry) (serial : Nat) : Act where
  slot := q.slot
  tag := v.pkt.tag
  kind := v.pkt.kind
  seg := v.pkt.seg
  prio := e.prio
  entry := e.entry
  ksel := e.ksel
  part := e.part
  arg := actArg v.pkt q.word
  ts := v.pkt.ts
  place := v.place
  arrival := q.arrival
  speculative := v.pkt.ts != 0
  serial := serial

/-- Records the order of starts, again ones among them, in the replay log: the header and the serial number (R467). Log entry
63 (DEDUCED). -/
def State.recordStart (s : State) (serial : Nat) (p : Packet) : State :=
  ((s.record .start (packetHeader p)).record .start (packetHeader p / 2 ^ 64)).record .start serial

/-- Starts an activation from its packet (R87). Log entry 63 (DEDUCED). -/
def State.startFresh (s : State) (q : QItem) : State :=
  let v := s.slot q.slot
  let e := v.bound.getD BindEntry.empty
  let serial := s.core.serial + 1
  let c := startCtx s.run.ctx e.entry q.slot
  let s := s.setSlot q.slot { v with st := .held }
  let s := { s with
    core := { s.core with serial := serial, tvec := s.ktabOf e.ksel }
    run := { Run.reset with
      act := some (v.act q e serial), ctx := c, acks := s.run.acks, owed := s.run.owed, path := s.run.path.leave } }
  let s := if v.pkt.src = s.lcore then s.receive else s
  let s := s.recordStart serial v.pkt
  let s := (s.traceAct kSTART (body2 c.lic s.core.retired.toNat)).count 5 1
  s.checkpointNow c.pc

/-- Starts an activation again from its snapshot (R111, R412); one that parked reissues its commands (R98). Log entries
47 (DEDUCED), 63 (DEDUCED). -/
def State.startAgain (s : State) (q : QItem) (v : Saved) (again : Bool) : State :=
  let c := s.run.ctx
  let s := s.recordStart v.act.serial (s.slot q.slot).pkt
  let snap := { v.snap with lic := c.lic, top := c.top, sigk := c.sigk }
  let s := { s with
    core := { s.core with tvec := s.ktabOf v.act.ksel }
    run := { Run.reset with
      act := some { v.act with arrival := q.arrival }, ctx := snap, snap := snap, mx := v.mx, store := v.store
      pins := v.pins, streams := v.streams, acks := s.run.acks, owed := s.run.owed, snapTvec := s.ktabOf v.act.ksel
      path := s.run.path.leave } }
  let s := if again then s.reissue snap.reissue else s
  s.joinStreams

/-- The serial number that an entry runs under. -/
def State.itemSerial (s : State) (q : QItem) : Nat :=
  match q.kind with
  | .fresh => s.core.serial + 1
  | .yielded v => v.act.serial
  | .returned v => v.act.serial

/-- Whether the log's next start is that of an entry: its header, then its serial number (R467). -/
def State.startFed (s : State) (q : QItem) : List (BitVec 128) → Bool
  | lo :: hi :: ser :: _ =>
    fieldOf lo 64 64 + fieldOf hi 64 64 * 2 ^ 64 == packetHeader (s.slot q.slot).pkt && fieldOf ser 64 64 == s.itemSerial q % 2 ^ 64
  | _ => true

/-- The entry that starts next: in replay mode the one that the log names for this place, for which the core waits (R86, R467).
Log entry 63 (DEDUCED). -/
def State.startItem (s : State) : Option QItem :=
  if s.dbg.replayMode && !s.det then
    let fed := s.dbg.replay.filter (s.isEntry .start)
    firstItem s.det (s.net.queue.filter (fun q => s.startFed q fed))
  else s.nextItem

/-- Whether a start waits for the replay log, which takes three entries of it (R467, R468). -/
def State.startStalls (s : State) : Bool :=
  s.replays .start && !s.dbg.replayMode && !s.dbg.replayOff && s.dbg.replayFull == 1 && !s.dbg.replay.isEmpty &&
    decide (s.dbg.replayCap < s.dbg.replay.length + 3)

/-- Starts the next queued activation, if the core is free to (R86, R87, R412, R464) and the replay log has room (R468). -/
def State.startNext (s : State) : State :=
  if s.run.act.isSome || s.core.halt.isSome || s.core.stopping || s.startStalls then s
  else match s.startItem with
    | none => s
    | some q =>
      let s := (s.dequeue q).applyInvalidations
      match q.kind with
      | .fresh => s.startFresh q
      | .yielded v => s.startAgain q v false
      | .returned v => s.startAgain q v true

/-! ### Sending (R99, R104 to R107, R348) -/

/-- A packet leaves: on the open circuit of its key, which it may exhaust, or by a set-up of its own (R106, R348); one to the core
itself carries what the activation has observed (R386). -/
def State.sendOne (s : State) (p : Packet) : State :=
  let key : CircKey := ⟨p.dest, p.tag⟩
  let s := if p.dest = s.lcore then s.publish else s
  match s.net.circs.find? (fun c => c.key == key) with
  | none => { s with net := { s.net with flight := s.net.flight ++ [{ p with onCircuit := false }] } }
  | some c =>
    let d := { c with left := if c.stream then c.left else c.left - 1, idle := s.run.ctx.circidle
                      lastUse := s.cycle.toNat }
    let rest := s.net.circs.filter (fun c => c.key != key)
    { s with net := { s.net with
        circs := if !d.stream && d.left = 0 then rest else rest ++ [d]
        flight := s.net.flight ++ [{ p with onCircuit := true }] } }

/-- Rows 1 of R107 for a send descriptor: its reserved bits, DEST and LEN. -/
def descriptorOk (s : State) (d : Word) : Bool :=
  fieldOf d 60 4 == 0 && decide (fieldOf d 0 34 < s.ncores) && decide (fieldOf d 50 6 ≤ 28)

/-- A packet from the core to the DEST and TAG of a descriptor. -/
def State.packetTo (s : State) (d : Word) (kind len seg ts : Nat) (payload : List (BitVec 32)) : Packet where
  src := s.lcore
  dest := BitVec.ofNat 34 (fieldOf d 0 34)
  tag := BitVec.ofNat 16 (fieldOf d 34 16)
  len := BitVec.ofNat 6 len
  kind := BitVec.ofNat 4 kind
  seg := BitVec.ofNat 8 seg
  ts := BitVec.ofNat 48 ts
  payload := payload
  onCircuit := false

/-- The little-endian 32-bit words of bytes. -/
def wordsOf (n : Nat) (bs : List Byte) : List (BitVec 32) :=
  (List.range n).map (fun i => BitVec.ofNat 32 (natOfBytes ((bs.drop (4 * i)).take 4)))

/-- What a form of `send` makes: its packets, and the state after its reads. -/
structure Outgoing where
  packets : List Packet
  state : State

/-- FN 0: the packet of a window (R105, R107). -/
def makeWindow (w : BitVec 32) (d b : Word) (s : State) : Except Exc Outgoing :=
  let slot := s.rdW (b.setWidth 6)
  match checks [need (descriptorOk s d && fieldOf d 50 10 == 0) (illopd w 17), need (decide (b.toNat < 16) && slot.isSome)
      (illopd w 23)] with
  | .error e => .error e
  | .ok _ =>
    let p := (s.slot (slot.getD 0)).pkt
    if [0, 1, 2, 5].contains p.kind.toNat then
      .ok ⟨[s.packetTo d p.kind.toNat p.len.toNat p.seg.toNat 0 p.payload], s⟩
    else .error (illopd w 23)

/-- A scratchpad source of `n` bytes named by S[B] (R105, R107): its address and SEG. Log entry 61 (DEDUCED). -/
def spSource (w : BitVec 32) (b : Word) (n : Nat) (s : State) : Except Exc Nat :=
  let a := fieldOf b 0 18
  match checks [need (fieldOf b 18 30 == 0 && fieldOf b 56 8 == 0 && decide (a + n ≤ Config.spSize)) (illopd w 23),
      need (a % 4 == 0) (.trap cALIGN (word a))] with
  | .error e => .error e
  | .ok _ => match (if n = 0 then .ok () else s.poisonCheck (s.spA a) n) with
    | .error e => .error e
    | .ok _ => .ok a

/-- FN 1: a packet from scratchpad (R105, R107). Log entry 61 (DEDUCED). -/
def makeSp (w : BitVec 32) (d b : Word) (s : State) : Except Exc Outgoing :=
  let len := fieldOf d 50 6
  match need (descriptorOk s d && decide (fieldOf d 56 4 ≤ 2)) (illopd w 17) with
  | .error e => .error e
  | .ok _ => match spSource w b (4 * len) s with
    | .error e => .error e
    | .ok a => .ok ⟨[s.packetTo d (fieldOf d 56 4) len (fieldOf b 48 8) 0 (wordsOf len (s.seenBytes (s.spA a) (4 * len)))],
        s.markRead a (4 * len)⟩

/-- FN 2: the packets of the oldest record of a code buffer, whose CONS moves on (R105, R107, R216). -/
def makeCode (w : BitVec 32) (d b : Word) (s : State) : Except Exc Outgoing :=
  let r : Reg := b.setWidth 6
  let h := s.rdH r
  match checks [need (descriptorOk s d && fieldOf d 50 10 == 0) (illopd w 17), need (decide (b.toNat < 32)) (illopd w 23),
      need (codeBufferOk h && handleOk h [4] && hFilled h != 0) (illopdH w)] with
  | .error e => .error e
  | .ok _ =>
    let o := s.recordOpnd h [hCons h]
    match s.sourcePoison o with
    | .error e => .error e
    | .ok _ =>
      let x := natOfBytes ((s.recordElem h (hCons h)).units.flatMap (fun u => s.seenBytes u.1 u.2))
      let kind := x / 2 ^ 8 % 16
      let seg := x % 256
      let l0 := x / 2 ^ 32 % 64
      let l1 := x / 2 ^ 40 % 64
      if (kind = 1 || kind = 2) && decide (l0 ≤ 28) && decide (l1 ≤ 28) then
        let bs := bytesOf 256 x
        let p0 := s.packetTo d kind l0 seg 0 (wordsOf l0 (bs.drop 16))
        let p1 := s.packetTo d kind l1 seg 0 (wordsOf l1 (bs.drop 144))
        .ok ⟨if l1 = 0 then [p0] else [p0, p1], (s.readOperand o).wrH r (addCons h 1)⟩
      else .error (illopdH w)

/-- The pairs words of the non-zero values among 64 FP32 encodings, and the flags of rounding them (R85, R106). -/
def nzWords (seg : Nat) (xs : List (BitVec 32)) : List (BitVec 32) × Flags :=
  let ps := xs.zipIdx.filter (fun p => p.1 &&& 0x7FFFFFFF != 0)
  let rs := ps.map (fun p => (roundF bf16 .rne false (decodeF fp32 p.1.toNat), p.2))
  (rs.map (fun r => BitVec.ofNat 32 (r.1.1 * 2 ^ 16 + r.2 * 2 ^ 8 + seg)), rs.foldl (fun f r => f ||| r.1.2) 0)

/-- Cuts a list of words into pieces of 28. -/
def cut28 : Nat → List (BitVec 32) → List (List (BitVec 32))
  | 0, _ => []
  | _, [] => []
  | n + 1, l => l.take 28 :: cut28 n (l.drop 28)

/-- FN 3: the nz-pairs packets of 64 values (R105 to R107). Log entries 60 (DEDUCED), 61 (DEDUCED). -/
def makeNz (w : BitVec 32) (d b : Word) (s : State) : Except Exc Outgoing :=
  match need (descriptorOk s d && fieldOf d 50 10 == 0) (illopd w 17) with
  | .error e => .error e
  | .ok _ => match spSource w b 256 s with
    | .error e => .error e
    | .ok a =>
      let seg := fieldOf b 48 8
      let ws := nzWords seg (wordsOf 64 (s.seenBytes (s.spA a) 256))
      .ok ⟨(cut28 3 ws.1).map (fun l => s.packetTo d 5 l.length seg 0 l), (s.markRead a 256).raise ws.2⟩

/-- Whether packets to a DEST have not yet been acknowledged as placed. -/
def State.inFlight (s : State) (dest : CoreNum) : Bool := s.net.flight.any (fun p => p.dest == dest && p.kind != 3)

/-- The end of a `sendw` of `n` packets: DELIVERED says whether they have been placed (R106, R467). -/
def State.endSendw (s : State) (d : Reg) (n : Nat) (delivered : Bool) : State :=
  let v := s.replayed .sendw (word (n + (if delivered then 256 else 0)))
  let s := s.record .sendw v.toNat
  State.wr { s with run := { s.run with sent := none } } d v

/-- `sendw` while its packets are on their way (R106). -/
def awaitPlacement (d : Reg) (dest : CoreNum) (n : Nat) (s : State) : Res :=
  if s.inFlight dest then .exc s (.wait .placement) else .okCk (s.endSendw d n true)

/-- A `sendw` that a LINKF has named waits again for the packets that it has sent (R434). Log entry 84 (DEDUCED). -/
def State.resent (s : State) : State :=
  match s.run.lost.find? (fun u => u.pc == s.run.ctx.pc && u.sent.isSome) with
  | some u => { s with run := { s.run with sent := u.sent, lost := s.run.lost.erase u } }
  | none => s

/-- `send` (R106): the packets that a form makes leave together. -/
def sendBody (d : Reg) (make : State → Except Exc Outgoing) (s : State) : Res :=
  withS s.checkpointAck (fun s => withE s (make s) (fun o =>
    .okCk ((o.packets.foldl State.sendOne o.state).wr d (word o.packets.length))))

/-- `sendw` (R106): it waits for the placement of its packets; one that makes none writes 0. Log entry 60 (DEDUCED). -/
def sendwBody (d : Reg) (make : State → Except Exc Outgoing) (s : State) : Res :=
  match s.resent.run.sent with
  | some v => if s.run.served then .okCk (s.endSendw d v.2 false) else awaitPlacement d v.1 v.2 s.resent
  | none => withReplay s .sendw (fun s => withS s.checkpointAck (fun s => withE s (make s) (fun o =>
      match o.packets with
      | [] => .okCk (o.state.wr d 0)
      | p :: ps =>
        let t := (p :: ps).foldl State.sendOne o.state
        .exc { t with run := { t.run with sent := some (p.dest, ps.length + 1) } } (.wait .placement))))

/-- An acknowledgement that the oldest packet on its way to another core was placed (R106); in deterministic mode
placement waits for the quantum's end (R402). -/
def State.placementAck (s : State) : State :=
  if s.det then s
  else
    let s := match s.net.flight.find? (fun p => p.dest != s.lcore) with
      | some p => { s with net := { s.net with flight := s.net.flight.erase p } }
      | none => s
    match s.run.sent with
    | some v => if s.inFlight v.1 then s else s.endWait .placement
    | none => s

/-! ### Windows and claims (R108, R109) -/

/-- `relw` (R108). -/
def relwBody (d : Reg) (s : State) : Res :=
  withS s.checkpointAck (fun s =>
    match s.rdW d with
    | none => .okCk s
    | some i => .okCk ((s.wrW d none).dropBinding i))

/-- The first queued packet that `wcnt` may claim (R109). -/
def State.claimItem (s : State) : Option QItem :=
  match s.run.act with
  | none => none
  | some a => firstItem s.det (s.net.queue.filter (fun q => q.kind == .fresh && q.word == none &&
      (s.slot q.slot).pkt.tag == a.tag && (s.slot q.slot).pkt.kind != 5 && (s.slot q.slot).pkt.ts == a.ts))

/-- Claims packets into unbound windows from `i` on; the count of claims (R109). -/
def State.claim (s : State) (i : Nat) : Nat → State × Nat
  | 0 => (s, 0)
  | fuel + 1 =>
    if i < 16 && (s.rdW (BitVec.ofNat 6 i)).isNone then
      match s.claimItem with
      | none => (s, 0)
      | some q =>
        let s := (s.dequeue q).setSlot q.slot { s.slot q.slot with st := .held }
        let s := if (s.slot q.slot).pkt.src = s.lcore then s.receive else s
        let s := s.wrW (BitVec.ofNat 6 i) (some q.slot)
        let s := { s with run := { s.run with claimed := s.run.claimed ++ [⟨q.slot, q.arrival, q.prio⟩] } }
        let r := State.claim s (i + 1) fuel
        (r.1, r.2 + 1)
    else (s, 0)

/-- `wcnt` (R109). -/
def wcntBody (d a : Reg) (s : State) : Res :=
  let r := s.claim a.toNat 16
  .ok (r.1.wr d (word r.2))

/-! ### Checkpoints, yield, spawn (R110 to R113) -/

/-- `ckpt` (R110). -/
def ckptBody (s : State) : Res := withS (s.checkpointNext (s.run.ctx.pc + 4)) .ok

/-- Puts the running activation at the tail of its queue, with what it keeps (R111, R233). Log entry 55 (DEDUCED). -/
def State.giveWay (s : State) : State :=
  match s.run.act with
  | none => s
  | some a => (s.enqueue ⟨a.slot, a.prio, s.arrivalNow, 0, none, .yielded (s.savedAct a)⟩).clearRun

/-- `yield` (R111): the matrix queue empties first (R233); the activation starts again when its turn comes, at once when
no other is queued at its priority or above. Log entry 55 (DEDUCED). -/
def yieldBody (s : State) : Res :=
  if !s.run.mx.queue.isEmpty then .exc s (.wait .matrix)
  else
    let next := s.run.ctx.pc + 4
    withS (s.checkpointNext next) (fun s => .gone (s.retireTo next).giveWay)

/-- `tstamp` (R112). -/
def tstampBody (d : Reg) (s : State) : Res := .ok (s.wr d ((s.run.act.map (fun a => zext a.ts)).getD 0))

/-- `spawn` (R113). -/
def spawnBody (w : BitVec 32) (payload d b : Word) (s : State) : Res :=
  withS s.checkpointAck (fun s =>
    let dest := s.physOf (fieldOf d 0 34)
    let own := (s.run.act.map (·.ts.toNat)).getD 0
    let ts := b.toNat
    withE s (checks [
      need (descriptorOk s d && fieldOf d 56 4 == 0 && fieldOf d 50 6 == 2 &&
        (dest.map dieOf) == some (dieOf s.phys)) (illopd w 17),
      need (decide (0 < ts) && decide (ts < 2 ^ 48) && decide (own ≤ ts)) (illopd w 23)]) (fun _ =>
      .okCk (s.sendOne (s.packetTo d 0 2 0 ts (wordsOf 2 (bytesOf 8 payload.toNat))))))

/-! ### The end of an activation (R114, R115, R171) -/

/-- Whether a command belongs to the running activation. -/
def State.owns (s : State) (c : Cmd) : Bool := some c.owner == s.run.act.map (·.serial)

/-- Whether a channel still runs a command of the activation: one not complete and not stopped with a fault (R115). -/
def State.chanBusy (s : State) (i : BitVec 3) : Bool :=
  (s.chan i).queue.any s.owns && (s.pending i).isNone

/-- Whether some channel does. -/
def State.enginesBusy (s : State) : Bool := qregs.any s.chanBusy

/-- Cancels a command of the activation that waits for space or fill of its ring as the activation ends (R171). Log entry
54 (DEDUCED). -/
def State.cancelBlocked (s : State) : State :=
  qregs.foldl (fun s i =>
    let v := s.chan i
    match v.queue with
    | c :: cs =>
      if s.owns c && v.pend.isNone && v.wp != c.units && s.ringBlocked c then
        s.setChan i (v.withQueue cs)
      else s
    | [] => s) s

/-- The pending fault of the lowest-numbered channel (R358). -/
def State.firstPending (s : State) : Option (BitVec 3 × EngFault) :=
  (qregs.filterMap (fun i => (s.pending i).map (fun f => (i, f)))).head?

/-- `end` (R115). Log entries 52 (DEDUCED), 54 (DEDUCED). -/
def endBody (s : State) : Res :=
  let s := s.cancelBlocked
  if s.enginesBusy then .exc s (.wait .engines)
  else if !s.run.mx.queue.isEmpty then .exc s (.wait .matrix)
  else withMxFault s (fun s =>
    match s.firstPending with
    | some p => s.deliver p.1 p.2
    | none => withS (s.checkpoint s.run.ctx.pc) (fun s => .gone (s.retireTo s.run.ctx.pc).retireAct))

/-- Step 2 of `abort`: commands stopped with a fault, and those behind them, go; STATUS keeps its record (R114). -/
def State.cancelFaulted (s : State) : State :=
  qregs.foldl (fun s i => match s.pending i with
    | some _ => s.setChan i ((s.chan i).withQueue [])
    | none => s) s

/-- Step 1 of `abort` (R114): nothing is reissued and nothing resumes. Log entry 53 (DEDUCED). -/
def State.beginAbort (s : State) : State :=
  if s.run.retiring then s
  else let s := s.abortBase
    { s with run := { s.run with retiring := true } }

/-- `abort` (R114), and its drain while the activation retires, also of one that the firmware retires, where no instruction does
(R116, R401). Log entries 53 (DEDUCED), 54 (DEDUCED). -/
def abortBody (s : State) : Res :=
  let s := s.beginAbort.cancelFaulted.cancelBlocked
  let s := s.withMx { s.run.mx with pending := [] }
  if s.enginesBusy then .exc s (.wait .engines)
  else if !s.run.mx.queue.isEmpty then .exc s (.wait .matrix)
  else if s.run.struck then .gone s.retireAct
  else .gone (s.retireTo s.run.ctx.pc).retireAct

/-! ### Commits and ordered activations (R93, R94, R101 to R103) -/

/-- A home checks a held request and answers; it keeps an accepted one (R94). The core's own is one of its commit; another
core's add that would open a third round waits at its source (R439). -/
def State.holdRequest (s : State) (r : HeldReq) : State :=
  let asked := if r.core = s.lcore then
      (match s.run.commit with
        | some c => c.pending.contains r && !s.die.answers.any (fun a => a.1 == r)
        | none => false)
    else !(r.kind == .window && s.roundFull r.addr r.core.toNat)
  if asked then
    let v := s.heldVerdict r
    { s with die := { s.die with
        held := if v.1 then s.die.held ++ [r] else s.die.held
        answers := s.die.answers ++ [(r, v.1, v.2)] } }
  else s

/-- Forgets a held request and its answer. -/
def State.forget (s : State) (r : HeldReq) : State :=
  { s with die := { s.die with held := s.die.held.erase r, answers := s.die.answers.filter (fun a => a.1 != r) } }

/-- A home applies an add of another core; a poisoned line that it reads is reported (R278, R336). -/
def State.addOrPoison (s : State) (core : CoreNum) (a : Nat) (val : BitVec 32) : State :=
  if s.poisoned (a / 64) then s.report (.poison (word (a / 64 * 64)) 0) else s.applyCell core a (.add val)

/-- A home applies the held request of another core: the bytes of its line, or its cell (R94, R102, R103). Log entry
58 (DEDUCED). -/
def State.applyHeld (s : State) (r : HeldReq) (data : List (Nat × BitVec 8)) (val : BitVec 32) : State :=
  if r.core != s.lcore && s.die.held.contains r && !(r.kind == .window && s.roundFull r.addr r.core.toNat) then
    let s := (s.forget r).otherStore [r.addr / 64] (r.order.map (fun t => ⟨t.ts, r.core, t.place⟩))
    match r.kind with
    | .line =>
      let m : ByteMap := (data.filter (fun c => c.1 / 64 == r.addr / 64)).foldl (fun m c => ByteMap.set m c.1 c.2) []
      let s := s.keepCode (m.map Prod.fst)
      { s with die := { s.die with mem := s.die.mem.apply m, poison := clearPoison m s.die.poison } }
    | .set => s.applyCell r.core r.addr (.set val)
    | _ => s.addOrPoison r.core r.addr val
  else s

/-- A home drops the held request of another core (R94). -/
def State.dropHeld (s : State) (r : HeldReq) : State := if r.core != s.lcore then s.forget r else s

/-- The virtual address that a TLB entry gives a home address, for a report about a committed line. Log entry 59 (DEDUCED). -/
def State.vaOf (s : State) (a : Nat) : Word :=
  match (s.core.dtlb ++ s.core.tlb).find? (fun e => e.pa / 65536 == a / 65536) with
  | some e => word (e.va * 65536 + a % 65536)
  | none => word a

/-- Every held request of the core's commit has been answered (R94): it is granted, or drops everything and aborts, with
PAGEF for a lease and an internal restart for a capability. Log entry 59 (DEDUCED). -/
def State.settle (s : State) (c : Commit) : State :=
  match c.answered.find? (fun a => !a.2) with
  | none => State.endWait { s with run := { s.run with commit := some { c with granted := true } } } .hold
  | some a =>
    let s := { s with die := { s.die with held := s.die.held.filter (fun q => q.core != s.lcore) } }
    if c.lease then
      match s.leaseFault (s.vaOf a.1.addr) .write with
      | .page r => s.pageFault r
      | _ => s
    else s.raiseExc s.run.ctx.pc .restart

/-- An answer reaches the committing core (R94). -/
def State.holdAnswer (s : State) : State :=
  match s.run.commit with
  | none => s
  | some c =>
    match s.die.answers.find? (fun a => a.1.core == s.lcore) with
    | none => s
    | some a =>
      let c := { c with
        pending := c.pending.erase a.1
        answered := c.answered ++ [(a.1, a.2.1)]
        lease := c.lease || (!a.2.1 && a.2.2) }
      let s := { s with
        die := { s.die with answers := s.die.answers.erase a }
        run := { s.run with commit := some c } }
      if c.pending.isEmpty then s.settle c else s

/-- A home acknowledges a committed line (R93). Log entry 116 (DEDUCED). -/
def State.commitAck (s : State) : State :=
  let s := { s with run := { s.run with acks := s.run.acks - 1 } }
  if s.run.acks = 0 then s.endWait .acks else s

/-- The activations of the core that have started and are not on it: saved, yielded or returned to a queue, or parked. Log
entry 117 (DEDUCED). -/
def State.awayActs (s : State) : List Act :=
  s.saved.filterMap (·.run.act) ++ s.parked.map (·.saved.act) ++ s.net.queue.filterMap (fun q => match q.kind with
    | .fresh => none
    | .yielded v => some v.act
    | .returned v => some v.act)

/-- Whether an older ordered activation of the die, as far as its tags show it, or as it has left this core, has not committed
(R100, R101). Log entry 117 (DEDUCED). -/
def State.olderOpen (s : State) : Bool :=
  s.die.tags.any (fun t => t.key.lt s.ownKey) ||
    s.awayActs.any (fun a => a.ts != 0 && OrdKey.lt ⟨a.ts, s.lcore, a.place⟩ s.ownKey)

/-- The activation becomes the oldest uncommitted one of its die, if no older one is left (R100, R101). -/
def State.endSpeculation (s : State) : State :=
  if s.olderOpen then s
  else State.endWait { s with run := { s.run with act := s.run.act.map (fun a => { a with speculative := false }) } } .speculation

/-! ### Instructions and events -/

/-- `send` (R106). -/
def execSend (d a b : Reg) (s : State) : Host.Outcome State Fault Refusal :=
  runBody 4 s (fun s => sendBody d (makeWindow (rrr 0 0x109 0 b a d) (s.rd a) (s.rd b)) s)

/-- `send_sp` (R106). -/
def execSendSp (d a b : Reg) (s : State) : Host.Outcome State Fault Refusal :=
  runBody 4 s (fun s => sendBody d (makeSp (rrr 0 0x109 1 b a d) (s.rd a) (s.rd b)) s)

/-- `send_code` (R216). -/
def execSendCode (d a b : Reg) (s : State) : Host.Outcome State Fault Refusal :=
  runBody 4 s (fun s => sendBody d (makeCode (rrr 0 0x109 2 b a d) (s.rd a) (s.rd b)) s)

/-- `send_nz` (R106). -/
def execSendNz (d a b : Reg) (s : State) : Host.Outcome State Fault Refusal :=
  runBody 4 s (fun s => sendBody d (makeNz (rrr 0 0x109 3 b a d) (s.rd a) (s.rd b)) s)

/-- `sendw` (R106). -/
def execSendw (d a b : Reg) (s : State) : Host.Outcome State Fault Refusal :=
  runBody 4 s (fun s => sendwBody d (makeWindow (rrr 0 0x10A 0 b a d) (s.rd a) (s.rd b)) s)

/-- `sendw_sp` (R106). -/
def execSendwSp (d a b : Reg) (s : State) : Host.Outcome State Fault Refusal :=
  runBody 4 s (fun s => sendwBody d (makeSp (rrr 0 0x10A 1 b a d) (s.rd a) (s.rd b)) s)

/-- `sendw_code` (R106). -/
def execSendwCode (d a b : Reg) (s : State) : Host.Outcome State Fault Refusal :=
  runBody 4 s (fun s => sendwBody d (makeCode (rrr 0 0x10A 2 b a d) (s.rd a) (s.rd b)) s)

/-- `sendw_nz` (R106). -/
def execSendwNz (d a b : Reg) (s : State) : Host.Outcome State Fault Refusal :=
  runBody 4 s (fun s => sendwBody d (makeNz (rrr 0 0x10A 3 b a d) (s.rd a) (s.rd b)) s)

/-- `relw` (R108). -/
def execRelw (d : Reg) (s : State) : Host.Outcome State Fault Refusal :=
  runBody 4 s (relwBody d)

/-- `wcnt` (R109). -/
def execWcnt (d a : Reg) (s : State) : Host.Outcome State Fault Refusal :=
  runBody 4 s (wcntBody d a)

/-- `ckpt` (R110). -/
def execCkpt (s : State) : Host.Outcome State Fault Refusal :=
  runBody 4 s (ckptBody)

/-- `yield` (R111). -/
def execYield (s : State) : Host.Outcome State Fault Refusal :=
  runBody 4 s (yieldBody)

/-- `tstamp` (R112). -/
def execTstamp (d : Reg) (s : State) : Host.Outcome State Fault Refusal :=
  runBody 4 s (tstampBody d)

/-- `spawn` (R113). -/
def execSpawn (d a b : Reg) (s : State) : Host.Outcome State Fault Refusal :=
  runBody 4 s (fun s => spawnBody (rrr 0 0x110 0 b a d) (s.rd d) (s.rd a) (s.rd b) s)

/-- `abort` (R114). -/
def execAbort (s : State) : Host.Outcome State Fault Refusal :=
  runBody 4 s (abortBody)

/-- `end` (R115). -/
def execEndAct (s : State) : Host.Outcome State Fault Refusal :=
  runBody 4 s (endBody)

/-- A packet of a kind or length that no instruction sends is discarded and counted (R84). -/
def State.discardMalformed (s : State) : State := { s with net := { s.net with malformed := s.net.malformed + 1 } }

/-- PACKET_PLACEMENT: a packet arrives; sound wakes and sync packets go to the launch machinery and the barrier units by their own
rows (R80, R84). -/
def execPacketPlacement (p : Packet) (s : State) (num : Option (BitVec 16) := none) : Host.Outcome State Fault Refusal :=
  if p.kind = 3 || p.kind = 4 then .next (if packetMalformed p then s.discardMalformed else s)
  else .next (s.once p.src num (fun s => s.arrive p))

/-- UNBOUND_ARRIVAL_ANSWER (R81). -/
def execUnboundArrivalAnswer (slot : BitVec 5) (entry : Option BindEntry)
    (s : State) : Host.Outcome State Fault Refusal :=
  .next (s.answerUnbound slot entry)

/-- ACTIVATION_START (R87). -/
def execActivationStart (s : State) : Host.Outcome State Fault Refusal :=
  .next s.startNext

/-- PLACEMENT_ACKNOWLEDGEMENT (R106). -/
def execPlacementAcknowledgement (s : State) : Host.Outcome State Fault Refusal :=
  .next s.placementAck

/-- HELD_REQUEST (R94). -/
def execHeldRequest (r : HeldReq) (s : State) (num : Option (BitVec 16) := none) : Host.Outcome State Fault Refusal :=
  .next (s.once r.core num (fun s => s.holdRequest r))

/-- APPLY_NOTICE (R94). -/
def execApplyNotice (r : HeldReq) (data : List (Nat × BitVec 8)) (val : BitVec 32)
    (s : State) (num : Option (BitVec 16) := none) : Host.Outcome State Fault Refusal :=
  .next (s.once r.core num (fun s => s.applyHeld r data val))

/-- DROP_NOTICE (R94). -/
def execDropNotice (r : HeldReq) (s : State) (num : Option (BitVec 16) := none) : Host.Outcome State Fault Refusal :=
  .next (s.once r.core num (fun s => s.dropHeld r))

/-- HOLD_ANSWER (R94). -/
def execHoldAnswer (s : State) : Host.Outcome State Fault Refusal :=
  .next s.holdAnswer

/-- COMMIT_ACKNOWLEDGEMENT (R93). -/
def execCommitAcknowledgement (s : State) : Host.Outcome State Fault Refusal :=
  .next s.commitAck

/-- SPECULATION_END (R101). -/
def execSpeculationEnd (s : State) : Host.Outcome State Fault Refusal :=
  .next s.endSpeculation

end Sys2Proof.Machine
end

