-- ==== Sys2Proof/Machine/Adjoint.lean ====
section
/-!
DEFINITION. Machine/Adjoint.lean: row 11 columns 0 to 6: the mode of differentiable pages, direct access to adjoint cells,
and the marks of the tape (spec/11 R257, R258, R273 to R276).
-/

namespace Sys2Proof.Machine

/-- `admode` (R258): buffered entries go to memory, then a checkpoint under the new mode. -/
def admodeBody (w : BitVec 32) (m : BitVec 2) (s : State) : Res :=
  if m = 3 then .exc s (.trap cILLOP (zext w))
  else withE s s.spillAll (fun s =>
    let c := s.run.ctx
    match (s.withCtx { c with admode := m }).checkpointNext (c.pc + 4) with
    | .ok s => .ok s
    | .error x => .exc (x.1.withCtx { x.1.run.ctx with admode := c.admode }) x.2)

/-- The alignment of a cell instruction: to the element size of the page (R273). -/
def cellAlign (a : Word) (e : TlbEntry) : Except Exc Unit :=
  let z := fmtSize e.fmt.toNat
  need (z == 0 || a.toNat % z == 0) (.trap cALIGN a)

/-- The page checks of a cell instruction (R255, R273). -/
def cellFmt (a : Word) (e : TlbEntry) : Except Exc Unit := need (adFormat e.fmt.toNat) (.trap cFMTF a)

/-- The place of the element that a cell instruction names, all checks passed but poison (R126, R273). -/
def withCell (w : BitVec 32) (a : Word) (q : Ask) (s : State) (k : Loc → Res) : Res :=
  withE s (s.access 0 a (illopd w 17) 1 q (cellAlign a) (cellFmt a)) (fun l =>
    withE s (need (l.onAd && !s.inWindow l.cell) (.trap cADPF a)) (fun _ => k l))

/-- `adld` (R273). -/
def adldBody (w : BitVec 32) (d : Reg) (a : Word) (s : State) : Res :=
  withCell w a askLoad s (fun l => withE s (s.cellPoison l.cell) (fun _ =>
    .ok ((s.tagRead l.cell 4).wr d (zext (s.adjRead l.cell)))))

/-- `adst` (R273). -/
def adstBody (w : BitVec 32) (d : Reg) (a : Word) (s : State) : Res :=
  withCell w a askStore s (fun l => withS (s.storeRoom [] [l.cell]) (fun s =>
    .ok (s.adjSet l.cell ((s.rd d).setWidth 32))))

/-- `adclr` (R273). -/
def adclrBody (w : BitVec 32) (d : Reg) (a : Word) (s : State) : Res :=
  withCell w a askStore s (fun l => withE s (s.cellPoison l.cell) (fun _ =>
    withS (s.storeRoom [] [l.cell]) (fun s =>
      .ok (((s.tagRead l.cell 4).adjSet l.cell 0).wr d (zext (s.adjRead l.cell))))))

/-- A mark (R259). -/
def TapeEntry.markEntry : TapeEntry := ⟨0, true, 0, 0⟩

/-- `tmark` (R263, R274). -/
def tmarkBody (d : Reg) (s : State) : Res :=
  withS s.checkpointHere (fun s => withS (s.tapeRoom 1 (fun _ => 0)) (fun s =>
    withE s (s.push TapeEntry.markEntry) (fun t => .ok (t.wr d (word s.top)))))

/-- The virtual address of a data entry: bits 55:0 of a canonical one (R259, R315). -/
def TapeEntry.va (e : TapeEntry) : Word := e.addr.signExtend 64

/-- Undoes the entries above index `m`, the top one first (R275). `ck` is the state at the last checkpoint, which a fault
on a restore leaves. The result is the state with only the mark left above `m`. -/
def undoTo (ck s : State) : Nat → Except (State × Exc) State
  | 0 => .ok s
  | n + 1 =>
    match s.entry (s.top - 1) with
    | .error x => .error (ck, x)
    | .ok (s, e) =>
      if e.mark then undoTo ck (s.withTop (s.top - 1)) n
      else
        let z := 2 ^ e.size.toNat
        match s.access 0 e.va (.trap cILLOPD e.va) z askStore noCheck (storeFmt e.va z e.old.toNat) with
        | .error x => .error (ck, x)
        | .ok l =>
          let restore := fun (s : State) => (s.putBytes l.home (bytesOf z e.old.toNat)).withTop (s.top - 1)
          if s.logRoom [l.home] [] then undoTo ck (restore s) n
          else match s.checkpointHere with
            | .error x => .error x
            | .ok s => undoTo s (restore s) n

/-- `trew` (R275). -/
def trewBody (w : BitVec 32) (v : Word) (s : State) : Res :=
  withS s.checkpointHere (fun s =>
    let m := v.toNat
    withE s (need (decide (m < s.top)) (illopd w 17)) (fun _ => withE s (s.entry m) (fun p =>
      let s := p.1
      withE s (need p.2.mark (illopd w 17)) (fun _ => withS (undoTo s s (s.top - (m + 1))) (fun s =>
        match (s.withTop m).checkpointNext (s.run.ctx.pc + 4) with
        | .ok s => .ok s
        | .error x => .exc (x.1.withTop (m + 1)) x.2)))))

/-- `tstat` (R276). -/
def tstatBody (d : Reg) (s : State) : Res := .ok (s.wr d (word (s.top + s.core.tape.cp * 2 ^ 32)))

/-! ### Instructions -/

/-- `admode` (R258). -/
def execAdmode (m : BitVec 2) (s : State) : Host.Outcome State Fault Refusal :=
  runBody 4 s (admodeBody (ri15 0 0x160 (0#13 ++ m) 0) m)

/-- `adld` (R273). -/
def execAdld (d a : Reg) (i : BitVec 9) (s : State) : Host.Outcome State Fault Refusal :=
  runBody 4 s (fun s => adldBody (rri 0 0x161 i a d) d (s.rd a + sext i) s)

/-- `adld` with a literal (R273). -/
def execAdldLit (d a : Reg) (l : Word) (s : State) : Host.Outcome State Fault Refusal :=
  runBody 12 s (fun s => adldBody (rri 1 0x161 0 a d) d (s.rd a + l) s)

/-- `adst` (R273). -/
def execAdst (d a : Reg) (i : BitVec 9) (s : State) : Host.Outcome State Fault Refusal :=
  runBody 4 s (fun s => adstBody (rri 0 0x162 i a d) d (s.rd a + sext i) s)

/-- `adst` with a literal (R273). -/
def execAdstLit (d a : Reg) (l : Word) (s : State) : Host.Outcome State Fault Refusal :=
  runBody 12 s (fun s => adstBody (rri 1 0x162 0 a d) d (s.rd a + l) s)

/-- `adclr` (R273). -/
def execAdclr (d a : Reg) (i : BitVec 9) (s : State) : Host.Outcome State Fault Refusal :=
  runBody 4 s (fun s => adclrBody (rri 0 0x163 i a d) d (s.rd a + sext i) s)

/-- `adclr` with a literal (R273). -/
def execAdclrLit (d a : Reg) (l : Word) (s : State) : Host.Outcome State Fault Refusal :=
  runBody 12 s (fun s => adclrBody (rri 1 0x163 0 a d) d (s.rd a + l) s)

/-- `tmark` (R274). -/
def execTmark (d : Reg) (s : State) : Host.Outcome State Fault Refusal :=
  runBody 4 s (tmarkBody d)

/-- `trew` (R275). -/
def execTrew (a : Reg) (s : State) : Host.Outcome State Fault Refusal :=
  runBody 4 s (fun s => trewBody (rrr 0 0x165 0 0 a 0) (s.rd a) s)

/-- `tstat` (R276). -/
def execTstat (d : Reg) (s : State) : Host.Outcome State Fault Refusal :=
  runBody 4 s (tstatBody d)

end Sys2Proof.Machine
end

