-- ==== Sys2Proof/Machine/Atomic.lean ====
section
/-!
DEFINITION. Machine/Atomic.lean: row 5: atomics, relaxed-strong loads and stores, acquire and release, fences (spec/17 R369
to R385, R388).
-/

namespace Sys2Proof.Machine

/-! ### Where strong accesses go (R374, R375) -/

/-- Whether an address is the sync-scratch window (R374). Log entry 62 (DEDUCED). -/
def isSyncWindow (a : Word) : Bool := a.toNat / 2 ^ 16 == 0x800000000000

/-- Row 5 of R375: formats 6 and 14; 15 is refused on every page. -/
def strongFmt (a : Word) (e : TlbEntry) : Except Exc Unit := need (e.fmt != 6 && e.fmt != 14) (.trap cFMTF a)

/-- The checks of the table of R375 for an access of `n` bytes; `w` is the first word. Log entry 34 (DEDUCED). -/
def State.strongPlace (s : State) (w : BitVec 32) (a : Word) (n : Nat) (q : Ask) : Except Exc Loc :=
  if isSyncWindow a then
    match need (a.toNat % n == 0) (.trap cALIGN a) with
    | .error x => .error x
    | .ok _ => .ok ⟨s.csA (a.toNat % 2 ^ 16), 2, a, none⟩
  else
    match s.access 0 a (illopd w 17) n q noCheck (strongFmt a) with
    | .error x => .error x
    | .ok l =>
      match need (!(l.onAd && (s.fwd || s.rev))) (.trap cADPF a) with
      | .error x => .error x
      | .ok _ => .ok l

/-- The checks of R375 with the poison of the line after them. Log entry 34 (DEDUCED). -/
def State.strongAccess (s : State) (w : BitVec 32) (a : Word) (n : Nat) (q : Ask) : Except Exc Loc :=
  match s.strongPlace w a n q with
  | .error x => .error x
  | .ok l => match s.poisonCheck l.home n with
    | .error x => .error x
    | .ok _ => .ok l

/-! ### Atomics (R376 to R378) -/

/-- The value an operation writes for the old value, the operand and the comparand, all of `w` bits (R376 to R378). -/
def amoNew (op : AmoOp) (w : Nat) (old v cmp : Nat) : Nat :=
  let so := (BitVec.ofNat w old).toInt
  let sv := (BitVec.ofNat w v).toInt
  match op with
  | .add => (old + v) % 2 ^ w
  | .minS => if sv < so then v else old
  | .minZ => min old v
  | .maxS => if so < sv then v else old
  | .maxZ => max old v
  | .and => old &&& v
  | .or => old ||| v
  | .xor => old ^^^ v
  | .xchg => v
  | .cas => if old = cmp then v else old
  | .fadd => (addFp32 (BitVec.ofNat 32 old) (BitVec.ofNat 32 v)).toNat

/-- Whether an operation writes: `cas` only when equal (R376). -/
def amoWrites (op : AmoOp) (old cmp : Nat) : Bool := op != .cas || old == cmp

/-- The value of a register, or of a pair for 16 bytes (R377). -/
def State.rdWide (s : State) (r : Reg) (n : Nat) : Nat := s.storeValue r n

/-- The value that a strong access of `n` bytes returns, and its entries of the replay log: two for a pair (R467). Log entry
130 (DEDUCED). -/
def State.fedBack (s : State) (n v : Nat) : Nat × State :=
  let lo := (s.replayed .strong (word v)).toNat
  let s := s.record .strong lo
  if n = 16 then
    let hi := (s.replayed .strong (word (v / 2 ^ 64))).toNat
    (lo + 2 ^ 64 * hi, s.record .strong hi)
  else (lo, s)

/-- The registers that the reply to an atomic of `n` bytes writes (R377). -/
def amoReply (d : Reg) (n v : Nat) : List (Reg × Word) :=
  (d, word v) :: (if n = 16 then [(d + 1, word (v / 2 ^ 64))] else [])

/-- An atomic of `n` bytes: the checkpoint before it, the checks, its service, the read-modify-write at the home and the
reply (R376, R377, R385). Log entry 116 (DEDUCED). -/
def amoBody (w : BitVec 32) (op : AmoOp) (n : Nat) (d a b : Reg) (s : State) : Res :=
  withS s.checkpointAck (fun s => withResent s (fun s =>
    withE s (s.strongAccess w (s.rd a) n askAmo) (fun l =>
      withMigration s l.home (fun s => withService s (fun s => withReplay s .strong (fun s =>
        let old := s.die.mem.nat l.home n
        let v := s.rdWide b n
        let cmp := s.rdWide d n
        let new := amoNew op (8 * n) old v cmp
        let s := if amoWrites op old cmp then s.putHome l.home (bytesOf n new) else s
        let r := s.fedBack n old
        let s := (r.2.writeLoaded d n false (bytesOf n r.1)).asked 2 (amoReply d n r.1)
        .okCk { s with run := { s.run with owed := some (d, word r.1) } }))))))

/-! ### Relaxed-strong loads and stores (R379 to R381) -/

/-- `ldx` and `ldacq` (R379, R380): a logged byte of the line is committed first, and then the line is read. The loads and posted
stores of the core are performed in program order. Log entry 140 (DESIGN CHOICE). -/
def ldxBody (w : BitVec 32) (n : Nat) (d a : Reg) (s : State) : Res :=
  withE s (s.strongPlace w (s.rd a) n askStrongLoad) (fun l =>
    withS (if s.logLines.contains (l.home / 64) then s.checkpointHere else .ok s) (fun s =>
      withE s (s.poisonCheck l.home n) (fun _ =>
        withMigration s l.home (fun s => withService s (fun s => withReplay s .strong (fun s =>
          let r := (s.tagRead l.home n).fedBack n (s.seenNat l.home n)
          .ok (r.2.wr d (word r.1))))))))

/-- `stx` (R379): its home performs it as it retires. Log entry 140 (DESIGN CHOICE). -/
def stxBody (w : BitVec 32) (n : Nat) (d a : Reg) (s : State) : Res :=
  withS s.checkpointAck (fun s =>
    withE s (s.strongAccess w (s.rd a) n askStrongStore) (fun l =>
      withMigration s l.home (fun s => withService s (fun s =>
        .okCk (s.putHome l.home (bytesOf n (s.rd d).toNat))))))

/-- `strel` (R381): the checkpoint has waited for every earlier write. Log entries 86 (DEDUCED), 140 (DESIGN CHOICE). -/
def strelBody (w : BitVec 32) (d a : Reg) (s : State) : Res :=
  withS s.checkpointAck (fun s => withResent s (fun s =>
    withE s (s.strongAccess w (s.rd a) 8 askStrongStore) (fun l =>
      withMigration s l.home (fun s => withService s (fun s =>
        let s := (s.putHome l.home (bytesOf 8 (s.rd d).toNat)).asked 2 []
        .okCk { s with run := { s.run with owed := some (0, 0) } })))))

/-! ### Instructions -/

/-- `amo.add.32` (R376). The scope changes neither the access nor its atomicity (R379). -/
def execAmoAdd32 (d a b : Reg) (sc : BitVec 3) (s : State) : Host.Outcome State Fault Refusal :=
  runBody 4 s (amoBody (rrr 0 0x0A0 sc b a d) .add 4 d a b)

/-- `amo.add.64` (R376). The scope changes neither the access nor its atomicity (R379). -/
def execAmoAdd64 (d a b : Reg) (sc : BitVec 3) (s : State) : Host.Outcome State Fault Refusal :=
  runBody 4 s (amoBody (rrr 0 0x0A1 sc b a d) .add 8 d a b)

/-- `amo.minS.32` (R376). The scope changes neither the access nor its atomicity (R379). -/
def execAmoMinS32 (d a b : Reg) (sc : BitVec 3) (s : State) : Host.Outcome State Fault Refusal :=
  runBody 4 s (amoBody (rrr 0 0x0A2 sc b a d) .minS 4 d a b)

/-- `amo.minS.64` (R376). The scope changes neither the access nor its atomicity (R379). -/
def execAmoMinS64 (d a b : Reg) (sc : BitVec 3) (s : State) : Host.Outcome State Fault Refusal :=
  runBody 4 s (amoBody (rrr 0 0x0A3 sc b a d) .minS 8 d a b)

/-- `amo.minZ.32` (R376). The scope changes neither the access nor its atomicity (R379). -/
def execAmoMinZ32 (d a b : Reg) (sc : BitVec 3) (s : State) : Host.Outcome State Fault Refusal :=
  runBody 4 s (amoBody (rrr 0 0x0A4 sc b a d) .minZ 4 d a b)

/-- `amo.minZ.64` (R376). The scope changes neither the access nor its atomicity (R379). -/
def execAmoMinZ64 (d a b : Reg) (sc : BitVec 3) (s : State) : Host.Outcome State Fault Refusal :=
  runBody 4 s (amoBody (rrr 0 0x0A5 sc b a d) .minZ 8 d a b)

/-- `amo.maxS.32` (R376). The scope changes neither the access nor its atomicity (R379). -/
def execAmoMaxS32 (d a b : Reg) (sc : BitVec 3) (s : State) : Host.Outcome State Fault Refusal :=
  runBody 4 s (amoBody (rrr 0 0x0A6 sc b a d) .maxS 4 d a b)

/-- `amo.maxS.64` (R376). The scope changes neither the access nor its atomicity (R379). -/
def execAmoMaxS64 (d a b : Reg) (sc : BitVec 3) (s : State) : Host.Outcome State Fault Refusal :=
  runBody 4 s (amoBody (rrr 0 0x0A7 sc b a d) .maxS 8 d a b)

/-- `amo.maxZ.32` (R376). The scope changes neither the access nor its atomicity (R379). -/
def execAmoMaxZ32 (d a b : Reg) (sc : BitVec 3) (s : State) : Host.Outcome State Fault Refusal :=
  runBody 4 s (amoBody (rrr 0 0x0A8 sc b a d) .maxZ 4 d a b)

/-- `amo.maxZ.64` (R376). The scope changes neither the access nor its atomicity (R379). -/
def execAmoMaxZ64 (d a b : Reg) (sc : BitVec 3) (s : State) : Host.Outcome State Fault Refusal :=
  runBody 4 s (amoBody (rrr 0 0x0A9 sc b a d) .maxZ 8 d a b)

/-- `amo.and.32` (R376). The scope changes neither the access nor its atomicity (R379). -/
def execAmoAnd32 (d a b : Reg) (sc : BitVec 3) (s : State) : Host.Outcome State Fault Refusal :=
  runBody 4 s (amoBody (rrr 0 0x0AA sc b a d) .and 4 d a b)

/-- `amo.and.64` (R376). The scope changes neither the access nor its atomicity (R379). -/
def execAmoAnd64 (d a b : Reg) (sc : BitVec 3) (s : State) : Host.Outcome State Fault Refusal :=
  runBody 4 s (amoBody (rrr 0 0x0AB sc b a d) .and 8 d a b)

/-- `amo.or.32` (R376). The scope changes neither the access nor its atomicity (R379). -/
def execAmoOr32 (d a b : Reg) (sc : BitVec 3) (s : State) : Host.Outcome State Fault Refusal :=
  runBody 4 s (amoBody (rrr 0 0x0AC sc b a d) .or 4 d a b)

/-- `amo.or.64` (R376). The scope changes neither the access nor its atomicity (R379). -/
def execAmoOr64 (d a b : Reg) (sc : BitVec 3) (s : State) : Host.Outcome State Fault Refusal :=
  runBody 4 s (amoBody (rrr 0 0x0AD sc b a d) .or 8 d a b)

/-- `amo.xor.32` (R376). The scope changes neither the access nor its atomicity (R379). -/
def execAmoXor32 (d a b : Reg) (sc : BitVec 3) (s : State) : Host.Outcome State Fault Refusal :=
  runBody 4 s (amoBody (rrr 0 0x0AE sc b a d) .xor 4 d a b)

/-- `amo.xor.64` (R376). The scope changes neither the access nor its atomicity (R379). -/
def execAmoXor64 (d a b : Reg) (sc : BitVec 3) (s : State) : Host.Outcome State Fault Refusal :=
  runBody 4 s (amoBody (rrr 0 0x0AF sc b a d) .xor 8 d a b)

/-- `amo.xchg.32` (R376). The scope changes neither the access nor its atomicity (R379). -/
def execAmoXchg32 (d a b : Reg) (sc : BitVec 3) (s : State) : Host.Outcome State Fault Refusal :=
  runBody 4 s (amoBody (rrr 0 0x0B0 sc b a d) .xchg 4 d a b)

/-- `amo.xchg.64` (R376). The scope changes neither the access nor its atomicity (R379). -/
def execAmoXchg64 (d a b : Reg) (sc : BitVec 3) (s : State) : Host.Outcome State Fault Refusal :=
  runBody 4 s (amoBody (rrr 0 0x0B1 sc b a d) .xchg 8 d a b)

/-- `amo.cas.32` (R376). The scope changes neither the access nor its atomicity (R379). -/
def execAmoCas32 (d a b : Reg) (sc : BitVec 3) (s : State) : Host.Outcome State Fault Refusal :=
  runBody 4 s (amoBody (rrr 0 0x0B2 sc b a d) .cas 4 d a b)

/-- `amo.cas.64` (R376). The scope changes neither the access nor its atomicity (R379). -/
def execAmoCas64 (d a b : Reg) (sc : BitVec 3) (s : State) : Host.Outcome State Fault Refusal :=
  runBody 4 s (amoBody (rrr 0 0x0B3 sc b a d) .cas 8 d a b)

/-- `amo.cas.128` (R377). -/
def execAmoCas128 (d a b : Reg) (sc : BitVec 3) (s : State) : Host.Outcome State Fault Refusal :=
  runBody 4 s (amoBody (rrr 0 0x0B4 sc b a d) .cas 16 d a b)

/-- `amo.fadd.f32` (R378). -/
def execAmoFaddF32 (d a b : Reg) (sc : BitVec 3) (s : State) : Host.Outcome State Fault Refusal :=
  runBody 4 s (amoBody (rrr 0 0x0B5 sc b a d) .fadd 4 d a b)

/-- `ldx` of 4 bytes (R379). -/
def execLdx32 (d a : Reg) (sc : BitVec 3) (s : State) : Host.Outcome State Fault Refusal :=
  runBody 4 s (ldxBody (rrr 0 0x0B6 sc 0 a d) 4 d a)

/-- `ldx` of 8 bytes (R379). -/
def execLdx64 (d a : Reg) (sc : BitVec 3) (s : State) : Host.Outcome State Fault Refusal :=
  runBody 4 s (ldxBody (rrr 0 0x0B7 sc 0 a d) 8 d a)

/-- `stx` of 4 bytes (R379). -/
def execStx32 (d a : Reg) (sc : BitVec 3) (s : State) : Host.Outcome State Fault Refusal :=
  runBody 4 s (stxBody (rrr 0 0x0B8 sc 0 a d) 4 d a)

/-- `stx` of 8 bytes (R379). -/
def execStx64 (d a : Reg) (sc : BitVec 3) (s : State) : Host.Outcome State Fault Refusal :=
  runBody 4 s (stxBody (rrr 0 0x0B9 sc 0 a d) 8 d a)

/-- `ldacq` of 8 bytes (R380). -/
def execLdacq64 (d a : Reg) (sc : BitVec 3) (s : State) : Host.Outcome State Fault Refusal :=
  runBody 4 s (ldxBody (rrr 0 0x0BA sc 0 a d) 8 d a)

/-- `strel.64` (R381). -/
def execStrel64 (d a : Reg) (sc : BitVec 3) (s : State) : Host.Outcome State Fault Refusal :=
  runBody 4 s (strelBody (rrr 0 0x0BB sc 0 a d) d a)

/-- `fence` (R383): scope core only retires; a wider one commits the log and waits for every acknowledgement. Log entry
57 (DEDUCED). -/
def execFence (sc : BitVec 3) (s : State) : Host.Outcome State Fault Refusal :=
  runBody 4 s (fun s =>
    if sc = 0 then .ok s
    else withS (s.checkpointNext (s.run.ctx.pc + 4)) (fun s => withAcks s (fun s => .ok s)))

/-- `xfence` (R384): writes of the named classes become visible to the named classes; nothing is committed. Log entry
57 (DEDUCED). -/
def execXfence (_sc : BitVec 3) (m : Reg) (s : State) : Host.Outcome State Fault Refusal :=
  runBody 4 s (fun s => .ok { s with die := { s.die with stale := fenced m s.die.stale } })

/-- The old value that is owed reaches S[D] (R388). Log entries 86 (DEDUCED), 116 (DEDUCED). -/
def Run.reply (r : Run) : Run :=
  match r.owed with
  | some (d, v) =>
    { r with owed := none, ctx := if d = 0 then r.ctx else { r.ctx with s := r.ctx.s.set d.toFin v } }
  | none => r

/-- ATOMIC_REPLY (R388): the old value that is owed reaches S[D], in the oldest saved context that waits for one, else in the
running activation. -/
def execAtomicReply (s : State) : Host.Outcome State Fault Refusal :=
  match s.saved.findIdx? (fun v => v.run.owed.isSome) with
  | some i => .next { s with saved := s.saved.modify i (fun v => { v with run := v.run.reply }) }
  | none => .next { s with run := s.run.reply }

end Sys2Proof.Machine
end

