-- ==== Sys2Proof/Machine/Cluster.lean ====
section
/-!
DEFINITION. Machine/Cluster.lean: row 11 columns 7 to 18 and the events of the cluster: link directions and link queues,
stream registers, neighbour scratchpads, and barriers (spec/12 R280 to R301).
-/

namespace Sys2Proof.Machine

/-! ### Link directions and streams (R282 to R288) -/

/-- The fields of LINKDIR: NEXT and PREV (R282). -/
def linkNext (v : BitVec 4) : Nat := fieldOf v 0 2
def linkPrev (v : BitVec 4) : Nat := fieldOf v 2 2

/-- Whether a stream register has a binding. -/
def State.hasBind (s : State) (b : QBind) : Bool := qregs.any (fun r => (s.rdQ r).bind == b)

/-- What `lkset` refuses (R283). -/
def State.linkdirOk (s : State) (v : Word) : Bool :=
  let d : BitVec 4 := v.setWidth 4
  decide (v.toNat < 16) && linkNext d != 3 && linkPrev d != 3 &&
    !(linkNext d == 2 && s.hasBind .inPrev) && !(linkPrev d == 2 && s.hasBind .inNext) &&
    !(linkNext d != 1 && s.hasBind .outNext) && !(linkPrev d != 1 && s.hasBind .outPrev)

/-- `lkset` (R283). -/
def lksetBody (w : BitVec 32) (v : Word) (s : State) : Res :=
  withS s.checkpointHere (fun s => withE s (need (s.linkdirOk v) (illopd w 17)) (fun _ =>
    .ok { s with core := { s.core with linkdir := v.setWidth 4 } }))

/-- The binding that S[A] of `qbind` describes, if its fields are sound (R284, R285). -/
def bindRequest (v : Word) : Option QBind :=
  let src := fieldOf v 16 4
  let tag : BitVec 16 := v.setWidth 16
  if fieldOf v 20 44 != 0 || (src != 1 && tag != 0) then none
  else match src with
    | 0 => some .unbound
    | 1 => some (.tag tag)
    | 2 => some .inPrev
    | 3 => some .inNext
    | 4 => some .outNext
    | 5 => some .outPrev
    | _ => none

/-- Whether a binding can be made on register `d` (R285). -/
def State.bindOk (s : State) (d : BitVec 3) (b : QBind) : Bool :=
  let other := b == .unbound || !qregs.any (fun r => r != d && (s.rdQ r).bind == b)
  other && (match b with
    | .unbound => true
    | .tag t => (s.bindOf t).isSome
    | .inPrev => linkNext s.core.linkdir != 2
    | .inNext => linkPrev s.core.linkdir != 2
    | .outNext => linkNext s.core.linkdir == 1
    | .outPrev => linkPrev s.core.linkdir == 1)

/-- `qbind` (R285): the checkpoint first, then the old binding ends and the new one begins. -/
def qbindBody (w : BitVec 32) (d : BitVec 3) (v : Word) (s : State) : Res :=
  withS s.checkpointHere (fun s =>
    match bindRequest v with
    | none => .exc s (illopd w 17)
    | some b =>
      if s.bindOk d b then .ok ((s.endStream d).wrQ d ⟨b, 0, 0⟩).joinStreams
      else .exc s (illopd w 17))

/-- The out-link queue toward a neighbour, and the queue it feeds when the core is its own neighbour (R280). -/
def State.outLink (s : State) (next : Bool) : List LinkEntry := if next then s.net.outNext else s.net.outPrev
def State.inLink (s : State) (fromPrev : Bool) : List LinkEntry := if fromPrev then s.net.inPrev else s.net.inNext
/-- Replaces an out-link queue. -/
def State.setOut (s : State) (next : Bool) (l : List LinkEntry) : State :=
  { s with net := if next then { s.net with outNext := l } else { s.net with outPrev := l } }
/-- Replaces an in-link queue. -/
def State.setIn (s : State) (fromPrev : Bool) (l : List LinkEntry) : State :=
  { s with net := if fromPrev then { s.net with inPrev := l } else { s.net with inNext := l } }

/-- Whether an out-link queue holds its 8 entries (R281). A core alone in its ring is the receiver of its own queue. -/
def State.linkFull (s : State) (next : Bool) : Bool :=
  decide (8 ≤ (s.outLink next).length + (if s.ring.length ≤ 1 then (s.inLink next).length else 0))

/-- `qpush` (R287). -/
def qpushBody (w : BitVec 32) (d : BitVec 3) (a : Word) (s : State) : Res :=
  match (s.rdQ d).bind with
  | .outNext => push true
  | .outPrev => push false
  | _ => .exc s (illopd w 11)
where
  push (next : Bool) : Res :=
    withE s (checks [need (decide (a.toNat < Config.spSize)) (illopd w 17), need (a.toNat % 64 == 0) (.trap cALIGN a)])
      (fun _ =>
        if s.linkFull next then withS s.checkpointHere (fun s => .exc s (.wait (.link next)))
        else withE s (s.poisonCheck (s.spA a.toNat) 64) (fun _ =>
          .ok ((s.markRead a.toNat 64).setOut next
            (s.outLink next ++ [⟨s.seenBytes (s.spA a.toNat) 64, s.serial, false, false⟩]))))

/-- LINK_PASS_THROUGH: an entry arrives on the in-link from the neighbour; or the core's pass-through moves one; or the
neighbour takes the committed head of the out-link (R281, R282). Log entry 64 (DEDUCED). -/
def State.linkMove (s : State) (toNext : Bool) (arrival : Option (List Byte)) : State :=
  match arrival with
  | some bs =>
    if (s.inLink toNext).length < 8 && bs.length = 64 then s.setIn toNext (s.inLink toNext ++ [⟨bs, 0, true, false⟩]) else s
  | none =>
    let passes := (if toNext then linkNext s.core.linkdir else linkPrev s.core.linkdir) == 2
    match s.inLink toNext, passes && !s.linkFull toNext with
    | e :: es, true => ((s.setIn toNext es).setOut toNext (s.outLink toNext ++ [{ e with committed := true }])).selfLink
    | _, _ =>
      match s.outLink toNext with
      | e :: es => if e.committed && decide (1 < s.ring.length) then s.setOut toNext es else s
      | [] => s

/-- What waits on a link or a stream tests its condition again (R287, R288); in deterministic mode at a quantum's end
(R403). Log entry 64 (DEDUCED). -/
def State.testLinks (s : State) : State :=
  if s.det then s
  else match s.run.stall with
    | some (.link _) => { s with run := { s.run with stall := none } }
    | some (.stream _) => { s with run := { s.run with stall := none } }
    | _ => s

/-! ### Neighbour scratchpads (R289, R290) -/

/-- The checks of a neighbour's address: its home, or the trap. -/
def State.neighbourAddr (s : State) (w : BitVec 32) (next : Bool) (a : Word) : Except Exc Nat :=
  match checks [need (decide (a.toNat < Config.spSize)) (illopd w 17), need (a.toNat % 8 == 0) (.trap cALIGN a)] with
  | .error e => .error e
  | .ok _ => .ok (spHomeOf (s.neighbour next) a.toNat)

/-- `nxld` (R289, R303). -/
def nxldBody (w : BitVec 32) (d : Reg) (next : Bool) (a : Word) (s : State) : Res :=
  withE s (s.neighbourAddr w next a) (fun h => withE s (s.poisonCheck h 8) (fun _ =>
    .ok (s.wr d (word (s.die.mem.nat h 8)))))

/-- `nxst` (R289): the store enters the write log. -/
def nxstBody (w : BitVec 32) (d : Reg) (next : Bool) (a : Word) (s : State) : Res :=
  withE s (s.neighbourAddr w next a) (fun h =>
    withS (if s.logRoom [h] [] then .ok s else s.checkpointHere) (fun s =>
      .ok (s.logStore h (bytesOf 8 (s.rd d).toNat))))

/-! ### Barrier objects (R292, R293) -/

/-- The fields of a barrier object. -/
def objExpect (o : BitVec 128) : Nat := fieldOf o 0 16
def objCount (o : BitVec 128) : Nat := fieldOf o 16 16
def objPhase (o : BitVec 128) : Nat := fieldOf o 32 4

/-- An object with some fields replaced; the reserved bits stay. -/
def objWith (o : BitVec 128) (count phase ovr last comp total : Nat) : BitVec 128 :=
  BitVec.ofNat 128 (objExpect o + count % 2 ^ 16 * 2 ^ 16 + phase % 16 * 2 ^ 32 + ovr % 2 * 2 ^ 36 +
    fieldOf o 37 3 * 2 ^ 37 + last % 2 ^ 24 * 2 ^ 40 + comp % 2 ^ 32 * 2 ^ 64 + total % 2 ^ 32 * 2 ^ 96)

/-- The result of an arrival: the object it leaves, PHASE, COUNT, DONE, and whether it was refused (R292). -/
structure Arrival where
  obj : BitVec 128
  phase : Nat
  count : Nat
  done : Bool
  refused : Bool
  deriving DecidableEq, Repr

/-- Arrive (R292) by a core, with count n. -/
def arriveAt (o : BitVec 128) (n core : Nat) : Arrival :=
  let p := objPhase o
  let c := objCount o
  let ovr := fieldOf o 36 1
  let comp := fieldOf o 64 32
  let total := fieldOf o 96 32 + n
  if c + n = objExpect o then ⟨objWith o 0 (p + 1) ovr core (comp + 1) total, p, 0, true, false⟩
  else if c + n < objExpect o then ⟨objWith o (c + n) p ovr core comp total, p, c + n, false, false⟩
  else ⟨objWith o c p 1 (fieldOf o 40 24) comp (fieldOf o 96 32), p, c, false, true⟩

/-- The status word (R293). -/
def statusWord (count status : Nat) (done : Bool) (phase : Nat) : Word :=
  word (count % 2 ^ 16 * 2 ^ 32 + status * 2 ^ 8 + (if done then 16 else 0) + phase % 16)

/-- Where a barrier is: a hardware slot, of die or of cluster scope, or an object at a home address. -/
inductive ObjRef where
  | slot (die : Bool) (i : BitVec 6)
  | mem (home : Nat)
  deriving DecidableEq, Repr

/-- A hardware slot (R294); a cluster's slots number 32. -/
def State.barSlot (s : State) (die : Bool) (i : BitVec 6) : BarSlot :=
  if die then s.die.dieSlots[i.toFin] else s.die.clusterSlots[(i.setWidth 5).toFin]
/-- Replaces a hardware slot. -/
def State.setBarSlot (s : State) (die : Bool) (i : BitVec 6) (v : BarSlot) : State :=
  { s with die := if die then { s.die with dieSlots := s.die.dieSlots.set i.toFin v }
    else { s.die with clusterSlots := s.die.clusterSlots.set (i.setWidth 5).toFin v } }

/-- The object behind a reference. -/
def State.object (s : State) : ObjRef → BitVec 128
  | .slot die i => (s.barSlot die i).obj
  | .mem h => BitVec.ofNat 128 (s.die.mem.nat h 16)

/-- The arrivers of a phase, reported to the power firmware when it completes (R300, R406). -/
def State.noteArrival (s : State) (die : Bool) (i : BitVec 6) (core : CoreNum) (r : Arrival) : State :=
  let v := s.barSlot die i
  let order := if r.refused then v.order else v.order ++ [core]
  let s := s.setBarSlot die i { v with obj := r.obj, order := if r.done then [] else order }
  if r.done then s.report (.arrivals order) else s

/-- The home of a barrier takes an arrival. -/
def State.arriveRef (s : State) (o : ObjRef) (core : CoreNum) (r : Arrival) : State :=
  match o with
  | .slot die i => s.noteArrival die i core r
  | .mem h => s.putHome h (bytesOf 16 r.obj.toNat)

/-! ### Handles and operand checks (R294, R296) -/

/-- The handle of a slot of the core's cluster or die (R294). -/
def State.slotHandle (s : State) (die : Bool) (i : Nat) : Word :=
  let c := s.phys
  word (fieldOf c 12 22 * 2 ^ 24 + fieldOf c 10 2 * 2 ^ 22 + (if die then 256 else fieldOf c 4 6 * 2 ^ 16) + i)

/-- The slot that a handle names for this core, whatever the slot holds (R294). -/
def State.handleSlot (s : State) (h : Word) : Option (Bool × BitVec 6) :=
  let die := fieldOf h 8 1 == 1
  let i := fieldOf h 0 6
  if h = s.slotHandle die i && (die || decide (i < 32)) then some (die, BitVec.ofNat 6 i) else none

/-- Whether a slot is allocated to the core's partition. -/
def State.slotOurs (s : State) (die : Bool) (i : BitVec 6) : Bool :=
  (s.barSlot die i).used && (s.barSlot die i).part == s.pkg.part

/-- The checks of R294 for a slot handle in S[A], and its poison (R303). -/
def State.slotRef (s : State) (w : BitVec 32) (h : Word) : Except Exc ObjRef :=
  match s.handleSlot h with
  | none => .error (illopd w 17)
  | some (die, i) =>
    if !s.slotOurs die i then .error (illopd w 17)
    else if (s.barSlot die i).poisoned then .error (.poison (Config.unnamedLine s.fresh))
    else .ok (.slot die i)

/-- The checks of an object in the sync scratch (R296, R303). Log entry 62 (DEDUCED). -/
def State.csRef (s : State) (w : BitVec 32) (a : Word) : Except Exc ObjRef :=
  match checks [need (decide (a.toNat < Config.csSize)) (illopd w 17), need (a.toNat % 16 == 0) (.trap cALIGN a),
      s.poisonCheck (s.csA a.toNat) 16] with
  | .error e => .error e
  | .ok _ => .ok (.mem (s.csA a.toNat))

/-- The checks of an object on a SYNC page (R296, R324). Log entry 62 (DEDUCED). -/
def State.pageRef (s : State) (w : BitVec 32) (a : Word) (q : Ask) : Except Exc ObjRef :=
  match s.access 0 a (illopd w 17) 16 q noCheck (strongFmt a) with
  | .error e => .error e
  | .ok l => match checks [need (!(l.onAd && (s.fwd || s.rev))) (.trap cADPF a), s.poisonCheck l.home 16] with
    | .error e => .error e
    | .ok _ => .ok (.mem l.home)

/-- A migrating granule holds an access to a barrier object (R334). -/
def withObjMigration (s : State) (o : ObjRef) (k : State → Res) : Res :=
  match o with
  | .slot _ _ => k s
  | .mem h => withMigration s h k

/-! ### Slots, arrivals and waits (R295 to R300) -/

/-- The lowest-numbered free slot of a scope. -/
def State.freeSlot (s : State) (die : Bool) : Option (BitVec 6) :=
  ((List.range (if die then 64 else 32)).map (BitVec.ofNat 6)).find? (fun i => !(s.barSlot die i).used)

/-- A slot is allocated to a kernel of a partition (R295); the poison of one that was struck while it was free stays (R303). -/
def State.allotSlot (s : State) (die : Bool) (i : BitVec 6) (part : BitVec 16) (ksel : BitVec 4) (expect : Nat) : State :=
  s.setBarSlot die i ⟨true, part, ksel, BitVec.ofNat 128 expect, (s.barSlot die i).poisoned, []⟩

/-- A slot becomes free, and its poison with it (R303): a `bwait` that waits on it returns with STATUS 3 (R295, R301). -/
def State.freeBarSlot (s : State) (die : Bool) (i : BitVec 6) : State :=
  let s := s.setBarSlot die i BarSlot.empty
  if s.run.watch = some (die, i) then { s with run := { s.run with freed := true } } else s

/-- The slot that a reference names. -/
def ObjRef.slot? : ObjRef → Option (Bool × BitVec 6)
  | .slot die i => some (die, i)
  | .mem _ => none

/-- `balloc` (R295, R297). -/
def ballocBody (w : BitVec 32) (d : Reg) (s : State) : Res :=
  withS s.checkpointAck (fun s =>
    let v := s.rd d
    let die := fieldOf v 16 1 == 1
    withE s (need (decide (v.toNat < 2 ^ 17) && fieldOf v 0 16 != 0) (illopd w 11)) (fun _ =>
      withService s (fun s =>
        match s.freeSlot die with
        | none => .okCk (s.wr d (word (2 ^ 63)))
        | some i =>
          .okCk ((s.allotSlot die i s.pkg.part ((s.run.act.map (·.ksel)).getD 0) (fieldOf v 0 16)).wr d
            (s.slotHandle die i.toNat)))))

/-- `bfree` (R295, R297). -/
def bfreeBody (w : BitVec 32) (h : Word) (s : State) : Res :=
  withS s.checkpointAck (fun s =>
    match s.handleSlot h with
    | none => .exc s (illopd w 17)
    | some (die, i) =>
      if !s.slotOurs die i then .exc s (illopd w 17)
      else withService s (fun s => .okCk (s.freeBarSlot die i)))

/-- `barr` and `barr.m` (R296, R297): `ref` checks the object, `chk` traps a refused arrival. Log entry 23 (DEDUCED). -/
def barrBody (w : BitVec 32) (chk : Bool) (d : Reg) (a b : Word) (ref : State → Except Exc ObjRef) (s : State) : Res :=
  withS s.checkpointAck (fun s =>
    let n := b.toNat
    let count := need (decide (1 ≤ n) && decide (n ≤ 65535)) (illopd w 23)
    match ref s with
    | .error (.trap c v) => if c = cILLOPD then .exc s (.trap c v) else withE s count (fun _ => .exc s (.trap c v))
    | .error e => withE s count (fun _ => .exc s.tick e)
    | .ok o => withE s count (fun _ => withObjMigration s o (fun s => withService s (fun s => withReplay s .barrier (fun s =>
        let r := arriveAt (s.object o) n s.lcore.toNat
        let t := s.arriveRef o s.lcore r
        if r.refused && chk then .exc t (.trap cBAROVR a)
        else
          let t := if r.refused then t else if r.done then t.arriveView.acquireView else t.arriveView
          let v := t.replayed .barrier (statusWord r.count (if r.refused then 1 else 0) r.done r.phase)
          .okCk ((t.record .barrier v.toNat).wr d v))))))

/-- What a finished `bwait` or `btest` writes (R293, R298, R300), as the replay log records and feeds it from a source (R467).
Log entries 111 (DESIGN CHOICE), 130 (DEDUCED). -/
def watchEnd (d : Reg) (k : ReplaySource) (v : Word) (s : State) : Res :=
  let v := s.replayed k v
  .ok ((s.record k v.toNat).wr d v)

/-- The bound of a `bwait` has passed: in deterministic mode the replay log holds that it has (R404, R467, R468). -/
def watchTimeout (d : Reg) (v : Word) (s : State) : Res :=
  if s.det then withReplay s .barto (watchEnd d .barto v) else watchEnd d .barrier v s

/-- Whether a replay of deterministic mode holds the end of this wait by its bound (R467). Log entry 130 (DEDUCED). -/
def State.timeoutFed (s : State) : Bool := s.det && s.dbg.replayMode && s.dbg.replay.any (s.isEntry .barto)

/-- Whether the passing of cycles may end a bounded wait: in a replay of deterministic mode the log says where it does (R467).
Log entry 130 (DEDUCED). -/
def State.timeoutFree (s : State) : Bool := !(s.det && s.dbg.replayMode)

/-- `bwait` and `btest` (R298). `waited` is one more than the cycles that are left. Log entries 23 (DEDUCED), 104 (DEDUCED),
111 (DESIGN CHOICE). -/
def watchBody (w : BitVec 32) (wait : Bool) (d : Reg) (b : Word) (ref : State → Except Exc ObjRef) (s : State) : Res :=
  let fields := need (fieldOf b 4 28 == 0 && (wait || fieldOf b 32 32 == 0)) (illopd w 23)
  if wait && s.run.freed then
    watchEnd d .barrier (statusWord (Config.freedSlotCount s.fresh).toNat 3 false (Config.freedSlotPhase s.fresh).toNat) s.tick
  else match ref s with
  | .error (.trap c v) => if c = cILLOPD then .exc s (.trap c v) else withE s fields (fun _ => .exc s (.trap c v))
  | .error e => withE s fields (fun _ => .exc s.tick e)
  | .ok o => withE s fields (fun _ => withObjMigration s o (fun s => withService s (fun s => withReplay s .barrier (fun s =>
      let x := s.object o
      let unmet := statusWord (objCount x) 2 false (objPhase x)
      if wait && s.timeoutFed then watchTimeout d unmet s
      else if objPhase x != fieldOf b 0 4 then watchEnd d .barrier (statusWord (objCount x) 0 false (objPhase x)) s.acquireView
      else if !wait then watchEnd d .barrier unmet s
      else if left s = 0 && s.timeoutFree then watchTimeout d unmet s
      else .exc { s with run := { s.run with waited := left s + 1, served := false, watch := o.slot? } }
        (.wait .bwait)))))
where
  /-- The cycles left of the bound. -/
  left (s : State) : Nat := if s.run.waited = 0 then fieldOf b 32 32 else s.run.waited - 1

/-- `balloc` of another core at the sync units observed: the lowest free slot of the scope, or none (R295). Log entry
118 (DEDUCED). -/
def State.otherBalloc (s : State) (die : Bool) (part : BitVec 16) (ksel : BitVec 4) (expect : BitVec 16) : State × List Byte :=
  match s.freeSlot die with
  | none => (s, bytesOf 8 (2 ^ 63))
  | some i => (s.allotSlot die i part ksel expect.toNat, bytesOf 8 (s.slotHandle die i.toNat).toNat)

/-- `bfree` of another core at the sync units observed: a slot of its partition becomes free (R295). Log entry 118 (DEDUCED). -/
def State.otherBfree (s : State) (die : Bool) (part : BitVec 16) (i : BitVec 6) : State :=
  if (s.barSlot die i).used && (s.barSlot die i).part == part then s.freeBarSlot die i else s

/-- An arrival of another core at a slot (R294, R300): in deterministic mode the event is its service. One that meets a poisoned
slot reports POISON at its own core and does not count (R303). Log entry 65 (DEDUCED). -/
def State.syncArrival (s : State) (core : CoreNum) (die : Bool) (i : BitVec 6) (n : Nat) : State :=
  if (s.barSlot die i).used && !(s.barSlot die i).poisoned && decide (1 ≤ n) then
    s.noteArrival die i core (arriveAt (s.barSlot die i).obj n core.toNat)
  else s

/-! ### Instructions and events -/

/-- `lkset` (R283). -/
def execLkset (a : Reg) (s : State) : Host.Outcome State Fault Refusal :=
  runBody 4 s (fun s => lksetBody (rrr 0 0x167 0 0 a 0) (s.rd a) s)

/-- `lkget` (R283). -/
def execLkget (d : Reg) (s : State) : Host.Outcome State Fault Refusal :=
  runBody 4 s (fun s => .ok (s.wr d (zext s.core.linkdir)))

/-- `qbind` (R285). -/
def execQbind (d a : Reg) (s : State) : Host.Outcome State Fault Refusal :=
  runBody 4 s (fun s => qbindBody (rrr 0 0x169 0 0 a d) (d.setWidth 3) (s.rd a) s)

/-- `qpush` (R287). -/
def execQpush (d a : Reg) (s : State) : Host.Outcome State Fault Refusal :=
  runBody 4 s (fun s => qpushBody (rrr 0 0x16A 0 0 a d) (d.setWidth 3) (s.rd a) s)

/-- `nxld` (R289). -/
def execNxld (d a : Reg) (n : BitVec 1) (s : State) : Host.Outcome State Fault Refusal :=
  runBody 4 s (fun s => nxldBody (rrr 0 0x16B (0#2 ++ n) 0 a d) d (n == 1) (s.rd a) s)

/-- `nxst` (R289). -/
def execNxst (d a : Reg) (n : BitVec 1) (s : State) : Host.Outcome State Fault Refusal :=
  runBody 4 s (fun s => nxstBody (rrr 0 0x16C (0#2 ++ n) 0 a d) d (n == 1) (s.rd a) s)

/-- `balloc` (R295). -/
def execBalloc (d : Reg) (s : State) : Host.Outcome State Fault Refusal :=
  runBody 4 s (ballocBody (rrr 0 0x16D 0 0 0 d) d)

/-- `bfree` (R295). -/
def execBfree (a : Reg) (s : State) : Host.Outcome State Fault Refusal :=
  runBody 4 s (fun s => bfreeBody (rrr 0 0x16E 0 0 a 0) (s.rd a) s)

/-- `barr` (R296). -/
def execBarr (d a b : Reg) (c : BitVec 1) (s : State) : Host.Outcome State Fault Refusal :=
  runBody 4 s (fun s => barrBody (rrr 0 0x16F (0#2 ++ c) b a d) (c == 1) d (s.rd a) (s.rd b)
    (fun s => s.slotRef (rrr 0 0x16F (0#2 ++ c) b a d) (s.rd a)) s)

/-- `barr_m` (R296). -/
def execBarrM (d a b : Reg) (c : BitVec 1) (s : State) : Host.Outcome State Fault Refusal :=
  runBody 4 s (fun s => barrBody (rrr 0 0x170 (0#2 ++ c) b a d) (c == 1) d (s.rd a) (s.rd b)
    (fun s => s.pageRef (rrr 0 0x170 (0#2 ++ c) b a d) (s.rd a) askAmo) s)

/-- `barr_m_cs` (R296). -/
def execBarrMCs (d a b : Reg) (c : BitVec 1) (s : State) : Host.Outcome State Fault Refusal :=
  runBody 4 s (fun s => barrBody (rrr 0 0x170 (1#2 ++ c) b a d) (c == 1) d (s.rd a) (s.rd b)
    (fun s => s.csRef (rrr 0 0x170 (1#2 ++ c) b a d) (s.rd a)) s)

/-- `bwait` (R298). -/
def execBwait (d a b : Reg) (s : State) : Host.Outcome State Fault Refusal :=
  runBody 4 s (fun s => watchBody (rrr 0 0x171 0 b a d) true d (s.rd b)
    (fun s => s.slotRef (rrr 0 0x171 0 b a d) (s.rd a)) s)

/-- `bwait_cs` (R298). -/
def execBwaitCs (d a b : Reg) (s : State) : Host.Outcome State Fault Refusal :=
  runBody 4 s (fun s => watchBody (rrr 0 0x171 1 b a d) true d (s.rd b)
    (fun s => s.csRef (rrr 0 0x171 1 b a d) (s.rd a)) s)

/-- `bwait_gv` (R298). -/
def execBwaitGv (d a b : Reg) (s : State) : Host.Outcome State Fault Refusal :=
  runBody 4 s (fun s => watchBody (rrr 0 0x171 2 b a d) true d (s.rd b)
    (fun s => s.pageRef (rrr 0 0x171 2 b a d) (s.rd a) askStrongLoad) s)

/-- `btest` (R298). -/
def execBtest (d a b : Reg) (s : State) : Host.Outcome State Fault Refusal :=
  runBody 4 s (fun s => watchBody (rrr 0 0x172 0 b a d) false d (s.rd b)
    (fun s => s.slotRef (rrr 0 0x172 0 b a d) (s.rd a)) s)

/-- `btest_cs` (R298). -/
def execBtestCs (d a b : Reg) (s : State) : Host.Outcome State Fault Refusal :=
  runBody 4 s (fun s => watchBody (rrr 0 0x172 1 b a d) false d (s.rd b)
    (fun s => s.csRef (rrr 0 0x172 1 b a d) (s.rd a)) s)

/-- `btest_gv` (R298). -/
def execBtestGv (d a b : Reg) (s : State) : Host.Outcome State Fault Refusal :=
  runBody 4 s (fun s => watchBody (rrr 0 0x172 2 b a d) false d (s.rd b)
    (fun s => s.pageRef (rrr 0 0x172 2 b a d) (s.rd a) askStrongLoad) s)

/-- BARTO: the bound of a waiting `bwait` is reached (R298). -/
def execBarto (s : State) : Host.Outcome State Fault Refusal :=
  if s.run.stall = some .bwait then
    .next { s with run := { s.run with waited := 1, stall := if s.det then s.run.stall else none } }
  else .next s

/-- BARRIER_CHANGE_NOTICE: a waiting `bwait` reads again; in deterministic mode it does so at a quantum end (R298). -/
def execBarrierChangeNotice (s : State) : Host.Outcome State Fault Refusal :=
  .next (if s.det then s else s.endWait .bwait)

/-- LINK_PASS_THROUGH (R282). -/
def execLinkPassThrough (toNext : Bool) (arrival : Option (List Byte))
    (s : State) : Host.Outcome State Fault Refusal :=
  .next (s.linkMove toNext arrival).testLinks

/-- SYNC_PACKET (R294). -/
def execSyncPacket (core : BitVec 34) (die : Bool) (slot : BitVec 6) (n : BitVec 16)
    (s : State) : Host.Outcome State Fault Refusal :=
  .next (s.syncArrival core die slot n.toNat)

end Sys2Proof.Machine
end

