-- ==== Sys2Proof/Machine/Capability.lean ====
section
/-!
DEFINITION. Machine/Capability.lean: transferring and reading capabilities, and what a home does with the requests of other
cores and engines (spec/14 R310, R323 to R330; spec/04 R102, R103; spec/17 R369).
-/

namespace Sys2Proof.Machine

/-! ### A change of capability at the home (R327, R328, R332, R333) -/

/-- Every TLB of the core drops what a test names. -/
def State.dropTlb (s : State) (p : TlbEntry → Bool) : State :=
  let keep := fun (l : List TlbEntry) => l.filter (fun e => !p e)
  { s with core := { s.core with
    itlb := keep s.core.itlb, dtlb := keep s.core.dtlb, tlb := keep s.core.tlb, pages := keep s.core.pages } }

/-- Whether an entry holds a granule: as the granule of its elements or as one of its frames (R316, R435). -/
def TlbEntry.holds (e : TlbEntry) (granule : Nat) : Bool :=
  e.pa / 65536 == granule || e.frames.any (fun f => f / 65536 == granule)

/-- The recall of a granule completes (R325, R333): no TLB holds it and no lease of it is left. Log entry 79 (DEDUCED). -/
def State.recallGranule (s : State) (pa : Nat) : State :=
  let s := s.setGranule pa { s.granule pa with leases := [], recalled := [] }
  s.dropTlb (fun e => e.holds (pa / 65536))

/-- Whether a core may transfer a granule (R327): one held EXCL only by its holder. -/
def mayTransfer (cap : Cap) (core : CoreNum) : Bool :=
  match cap with
  | .excl c => c == core
  | _ => true

/-- Whether a change of state closes the reducing window of a granule (R440). -/
def closesWindow (old new : Cap) : Bool :=
  match old, new with
  | .reduce a, .reduce b => a != b
  | .reduce _, _ => true
  | _, _ => false

/-- Whether a change of state opens a window: its participants are the whole partition (R439). -/
def opensWindow (old new : Cap) : Bool :=
  match old, new with
  | .reduce a, .reduce b => a != b
  | _, .reduce _ => true
  | _, _ => false

/-- The home gives a granule a new state (R327, R328): an accepted contribution is applied first, TLB copies and leases
are recalled, hotness restarts. EXCL(c) to EXCL(c) changes nothing. -/
def State.changeCap (s : State) (pa : Nat) (new : Cap) (fmt : BitVec 4) : State :=
  let old := (s.granule pa).cap
  let held := match new with
    | .excl _ => true
    | _ => false
  if held && old == new then s
  else
    let s := if closesWindow old new then (s.drainWindow pa).leaveWindow pa else s
    let s := if old == new then s else s.recallGranule pa
    let s := s.setGranule pa { s.granule pa with cap := new, hot := 0 }
    if opensWindow old new then
      { s with die := { s.die with windows := s.die.windows ++ [⟨pa / 65536, fmt, 0, s.ncores⟩] } }
    else s

/-- Whether a home holds a request of a two-phase commit for a granule: a transfer, a migration switch and a lease recall
wait (R94). -/
def State.granuleHeld (s : State) (pa : Nat) : Bool := s.die.held.any (fun r => r.addr / 65536 == pa / 65536)

/-! ### capxfer (R326 to R329) -/

/-- The target state of a descriptor, if its fields are sound (R326, R329). -/
def xferTarget (n : Nat) (d : Word) : Option Cap :=
  let core := fieldOf d 0 34
  let ord := fieldOf d 37 1
  let state := fieldOf d 34 3
  if fieldOf d 38 10 != 0 || (state != 0 && core != 0) || (state != 3 && ord != 0) then none
  else match state with
    | 0 => if core < n then some (.excl (BitVec.ofNat 34 core)) else none
    | 1 => some .shared
    | 2 => some .sync
    | 3 => some (.reduce (ord == 1))
    | _ => none

/-- The translation of an address, cached or as a walk would make it. -/
def State.entryAt (s : State) (va : Word) (kind : AccessKind) : Option TlbEntry :=
  match s.tlbFind va kind with
  | some e => some e
  | none => (s.lookup va).toOption

/-- The format that the addresses of a command's operand need. -/
def State.operandFmt (s : State) (sh : Shape) (kept : Option (BitVec 4)) : Nat :=
  if sh.fmt ≠ 0 then sh.fmt
  else match kept with
    | some f => f.toNat
    | none => match s.entryAt sh.base .engine with
      | some e => e.fmt.toNat
      | none => 0

/-- Whether some elements of an operand lie in `n` granules from `lo` on; a ring counts with all its slots. -/
def operandIn (sh : Shape) (cap f : Nat) (js : List Nat) (lo n : Nat) : Bool :=
  sh.space == 0 && (List.range (if sh.kind = 1 then cap else 1)).any (fun k =>
    js.any (fun j =>
      let g := (Shape.addr { sh with slot := k } f j).toNat / 65536
      decide (lo ≤ g) && decide (g < lo + n)))

/-- Whether an engine command reads or writes one of `n` granules. -/
def State.cmdIn (s : State) (v : Chan) (c : Cmd) (lo n : Nat) : Bool :=
  let ps := (List.range c.units).flatMap c.pairs
  let ds := Shape.of c.hd true
  let as := Shape.of c.ha false
  (c.op != .halo && operandIn ds (hCap c.hd) (s.operandFmt ds v.fmtD) (ps.map (·.1)) lo n) ||
    operandIn as (hCap c.ha) (s.operandFmt as v.fmtA) (ps.filterMap (·.2)) lo n

/-- Whether a channel holds such a command of the running activation, one that a fault has stopped included. -/
def State.chanIn (s : State) (v : Chan) (lo n : Nat) : Bool :=
  match v.queue with
  | [] => false
  | c :: cs => (s.owns c && s.cmdIn v c lo n) || cs.any (fun d => s.owns d && s.cmdIn Chan.reset d lo n)

/-- Whether a matrix command reads or writes one of `n` granules. -/
def MxCmd.touches (c : MxCmd) (lo n : Nat) : Bool :=
  let sh := Shape.of c.opnd false
  dOp c.desc != 4 && operandIn sh 1 c.fmt.toNat (List.range sh.n) lo n

/-- The home address of each granule of a range that translates. -/
def State.rangeHomes (s : State) (a : Word) (n : Nat) : List Nat :=
  (List.range n).filterMap (fun k => (s.entryAt (a + word (65536 * k)) .write).map (fun e => e.physical (a + word (65536 * k))))

/-- The first granule of a range that lies outside HBM (R329). Log entry 71 (DEDUCED). -/
def State.rangeOutside (s : State) (a : Word) (n : Nat) : Option Word :=
  ((List.range n).map (fun k => a + word (65536 * k))).find? (fun v => match s.entryAt v .write with
    | some e => !isHbm (e.physical v)
    | none => false)

/-- One granule of a transfer: checks 1 to 4 as a store, the format of a window, who may transfer, the new state (R328); every
access to a poisoned granule but `capq`'s raises POISON (R336). Log entry 71 (DEDUCED). -/
def State.xferGranule (s : State) (cap : Cap) (a : Word) : Except (State × Exc) State :=
  let s := s.ensureTlb a .write
  match s.translate a .write needW with
  | .error (.wait _) => .error (s, s.walkFault a .write)
  | .error e => .error (s, e)
  | .ok e =>
    let pa := e.physical a
    let window := match cap with
      | .reduce _ => true
      | _ => false
    match checks [need e.accW (.trap cACCF a), s.leaseCheck pa a askStrongStore,
        need (!window || e.fmt == 1 || e.fmt == 9 || e.fmt == 14) (.trap cFMTF a),
        need (mayTransfer (s.granule pa).cap s.lcore) (.trap cCAPF a), s.granulePoisonCheck pa] with
    | .error x => .error (s, x)
    | .ok _ => .ok (s.changeCap pa cap e.fmt)

/-- The listed granules of a range in ascending order; those below one that traps have been transferred (R328). -/
def State.xferRange (s : State) (cap : Cap) (a : Word) : List Nat → Except (State × Exc) State
  | [] => .ok s
  | k :: ks => match s.xferGranule cap (a + word (65536 * k)) with
    | .error e => .error e
    | .ok s => State.xferRange s cap a ks

/-- `capxfer`: a pre-emption stops it between granules (R328). Log entries 11 (DEDUCED), 71 (DEDUCED). -/
def capxferBody (w : BitVec 32) (a d : Word) (s : State) : Res :=
  withS s.checkpointAck (fun s =>
    let n := fieldOf d 48 16 + 1
    let lo := a.toNat / 65536
    match checks [need (canonical a) (illopd w 17), need (a.toNat % 65536 == 0) (.trap cALIGN a),
        need (xferTarget s.ncores d).isSome (illopd w 23),
        need (decide (a.toNat + 65536 * n ≤ (if a.toNat < 2 ^ 55 then 2 ^ 55 else 2 ^ 64))) (illopd w 17)] with
    | .error e => .exc s e
    | .ok _ =>
      match s.rangeOutside a n with
      | some v => .exc s (.trap cACCF v)
      | none =>
        if qregs.any (fun i => s.chanIn (s.chan i) lo n) then .exc s (.wait .engines)
        else if s.run.mx.queue.any (fun c => c.touches lo n) then .exc s (.wait .matrix)
        else if (s.rangeHomes a n).any (fun h => (s.granule h).mig || s.granuleHeld h) then .exc s (.wait .migration)
        else withService s (fun s => withS (s.xferRange ((xferTarget s.ncores d).getD .shared) a (s.span 1 n))
          (endPart (s.stopPoint 1 n) .okCk)))

/-! ### capq (R330) -/

/-- The word that `capq` reads of a granule. Log entry 72 (DEDUCED). -/
def State.capWord (s : State) (pa : Nat) : Word :=
  if isCaldera pa then word (2 ^ 34)
  else
    let bits := match s.capAt pa with
      | .excl c => c.toNat + (if c = s.lcore then 2 ^ 38 else 0)
      | .shared => 2 ^ 34
      | .sync => 2 * 2 ^ 34
      | .reduce o => 3 * 2 ^ 34 + (if o then 2 ^ 37 else 0)
    word (bits + (if (s.granule pa).mig then 2 ^ 39 else 0) +
      (if s.die.gpoison.contains (pa / 65536) then 2 ^ 40 else 0))

/-- `capq`: checks 1 to 4 as a read. Log entry 72 (DEDUCED). -/
def capqBody (w : BitVec 32) (d : Reg) (a : Word) (s : State) : Res :=
  withE s (need (canonical a) (illopd w 17)) (fun _ =>
    withE s (s.translate a .read needR) (fun e =>
      withE s (checks [need e.accR (.trap cACCF a), s.leaseCheck (e.physical a) a askLoad]) (fun _ =>
        withReplay s .capq (fun s =>
          let v := s.replayed .capq (s.capWord (e.physical a))
          .ok ((s.record .capq v.toNat).wr d v)))))

/-! ### Requests of others at a home (R102, R103, R310, R369) -/

/-- The key of an ordered request (R100). -/
def reqKey (r : SliceReq) : Option OrdKey := r.order.map (fun t => ⟨t.ts, r.core, t.place⟩)

/-- Whether a request comes from a speculative activation (R101). -/
def reqSpec (r : SliceReq) : Bool := (r.order.map (·.spec)).getD false

/-- What the log of a running activation would forward: its bytes, and its cells as it reads them (R102, R270). -/
def State.ownData (s : State) : ByteMap :=
  s.run.adj.foldl (fun m (p : Nat × AdjCell) => ByteMap.put m p.1 (bytesOf 4 (s.adjRead p.1).toNat)) s.run.log

/-- The writer tags of the running ordered activation (R102). -/
def State.ownTags (s : State) : List LineTag :=
  if s.ordered then s.run.writeTags.map (fun l => ⟨s.ownKey, l, true, s.ownData, s.run.deps⟩) else []

/-- A home serves a load of `n` bytes: a speculative reader sees the youngest older writer and is tagged (R102). Log entry
117 (DEDUCED). -/
def State.serveLoad (s : State) (r : SliceReq) (n : Nat) : State × List Byte :=
  match reqKey r, reqSpec r with
  | some k, true =>
    let tags := s.ownTags ++ s.die.tags
    let ws := (List.range n).map (fun i => youngestWriter k (r.addr + i) tags)
    let bytes := ws.zipIdx.map (fun (p : Option LineTag × Nat) => match p.1 with
      | some t => (t.data.find (r.addr + p.2)).getD 0
      | none => s.die.mem.get (r.addr + p.2))
    let lines := insertAll [r.addr / 64, (r.addr + (n - 1)) / 64] []
    let on := (ws ++ lines.map (fun l => youngestOn k l tags)).filterMap (fun (w : Option LineTag) => w.map (·.key))
    ({ s with die := { s.die with tags := s.die.tags ++ lines.map (fun l => ⟨k, l, false, [], on⟩) } }, bytes)
  | _, _ => (s, s.die.mem.bytes r.addr n)

/-- A home applies bytes for another agent (R102, R103, R336). -/
def State.serveBytes (s : State) (r : SliceReq) (data : List Byte) : State := s.storeHome (ByteMap.put [] r.addr data) (reqKey r)

/-- The activations on which one depends, as the tags show it (R102). -/
def State.depsOf (s : State) (k : OrdKey) : List OrdKey :=
  ((s.die.tags.filter (fun t => t.key == k)).flatMap (·.on)).foldl (fun l d => if l.contains d then l else l ++ [d]) []

/-- A store of another agent: a speculative one stays in its log and tags the line; an ordered one that commits takes its
writer tags of the line with it (R101 to R103). Log entry 117 (DEDUCED). -/
def State.serveStore (s : State) (r : SliceReq) (data : List Byte) : State :=
  match reqKey r with
  | some k =>
    if reqSpec r then
      let m := ByteMap.put [] r.addr data
      let ls := linesOf (m.map Prod.fst)
      let s := s.otherStore ls (some k)
      { s with die := { s.die with tags := s.die.tags ++ ls.map (fun l => ⟨k, l, true, m, s.depsOf k⟩) } }
    else
      let s := s.serveBytes r data
      let ls := linesOf ((ByteMap.put [] r.addr data).map Prod.fst)
      { s with die := { s.die with tags := s.die.tags.filter (fun t => !(t.writer && t.key == k && ls.contains t.line)) } }
  | none => s.serveBytes r data

/-- The homes hear that an ordered activation of another core has committed, or that it has aborted, with those that depend on it
(R101, R102). Log entry 117 (DEDUCED). -/
def State.releaseOrder (s : State) (r : SliceReq) (commit : Bool) : State :=
  match reqKey r with
  | none => s
  | some k => if commit then { s with die := { s.die with tags := s.die.tags.filter (fun t => t.key != k) } } else s.conflict [k] false

/-- The class of a request (R324). -/
def opClass : SliceOp → CapClass
  | .load _ => .load
  | .store _ => .store
  | .halo _ => .store
  | _ => .strong

/-- Whether a home refuses a request: by its lease, or by the state of its granule (R324, R325, R333). -/
def State.refuses (s : State) (r : SliceReq) : Bool :=
  decide (r.addr < Config.csHome) && (!s.leaseOk r.core r.addr || (match r.op with
    | .transfer _ _ => !mayTransfer (s.granule r.addr).cap r.core || !isHbm r.addr
    | .lease _ => false
    | .balloc _ _ _ _ => false
    | .bfree _ _ _ => false
    | .release _ => false
    | .store _ => !isCaldera r.addr && (capRefusal (s.capAt r.addr) r.core .store).isSome
    | op => (capRefusal (s.capAt r.addr) r.core (opClass op)).isSome))

/-- Whether a `halo` write of another core waits: this core is pre-empted and its context not restored (R356, R364). -/
def State.haloWaits (s : State) (r : SliceReq) : Bool :=
  s.ownSp r.addr && (s.core.halt == some .preempt || !s.saved.isEmpty) && (match r.op with
    | .halo _ => true
    | _ => false)

/-- Whether a request waits: for a restore, for a migration, or a transfer for a held request (R94, R334, R364). -/
def State.delays (s : State) (r : SliceReq) : Bool :=
  s.haloWaits r || decide (r.addr < Config.csHome) && (match r.op with
    | .load _ => false
    | .lease _ => false
    | .balloc _ _ _ _ => false
    | .bfree _ _ _ => false
    | .release _ => false
    | .transfer _ _ => (s.granule r.addr).mig || s.granuleHeld r.addr
    | _ => (s.granule r.addr).mig)

/-- Whether a request reads a poisoned line: it is not served (R336). -/
def State.readsPoison (s : State) (r : SliceReq) : Bool :=
  match r.op with
  | .load n => s.poisoned (r.addr / 64) || s.poisoned ((r.addr + (n - 1)) / 64)
  | .strongLoad _ => s.poisoned (r.addr / 64)
  | .strongStore _ => s.poisoned (r.addr / 64)
  | .amo _ _ _ _ => s.poisoned (r.addr / 64)
  | .arrive _ => s.poisoned (r.addr / 64)
  | _ => s.die.gpoison.contains (r.addr / 65536)

/-- A home serves a request of another core or engine; the reply leaves with it (R310). Log entry 118 (DEDUCED). -/
def State.serve (s : State) (r : SliceReq) : State × List Byte :=
  match r.op with
  | .lease pkg => (s.grantLease pkg r.addr, [])
  | .balloc die part ksel expect => s.otherBalloc die part ksel expect
  | .bfree die part i => (s.otherBfree die part i, [])
  | .release commit => (s.releaseOrder r commit, [])
  | op =>
    if s.delays r || s.refuses r || s.readsPoison r then (s, [])
    else match op with
      | .load n => s.serveLoad r n
      | .store data => (s.serveStore r data, [])
      | .halo data => (s.serveBytes { r with order := none } data, [])
      | .strongLoad n => (s, s.die.mem.bytes r.addr n)
      | .strongStore data => (s.serveBytes r data, [])
      | .amo op n v cmp =>
        let old := s.die.mem.nat r.addr n
        (if amoWrites op old cmp then s.serveBytes r (bytesOf n (amoNew op (8 * n) old v cmp)) else s, bytesOf n old)
      | .arrive n =>
        let a := arriveAt (BitVec.ofNat 128 (s.die.mem.nat r.addr 16)) n r.core.toNat
        (s.serveBytes r (bytesOf 16 a.obj.toNat),
          bytesOf 8 (statusWord a.count (if a.refused then 1 else 0) a.done a.phase).toNat)
      | .transfer cap fmt => (s.changeCap r.addr cap fmt, [])
      | _ => (s, [])

/-! ### Instructions and events -/


/-- `capxfer` (R328). -/
def execCapxfer (a b : Reg) (s : State) : Host.Outcome State Fault Refusal :=
  runBody 4 s (fun s => capxferBody (rrr 0 0x180 0 b a 0) (s.rd a) (s.rd b) s)

/-- `capq` (R330). -/
def execCapq (d a : Reg) (s : State) : Host.Outcome State Fault Refusal :=
  runBody 4 s (fun s => capqBody (rrr 0 0x181 0 0 a d) d (s.rd a) s)

/-- SLICE_ACCESS: a home, or a sync unit, serves another core or engine (R310, R295). -/
def execSliceAccess (r : SliceReq) (s : State) : Host.Outcome State Fault Refusal :=
  .next (s.serve r).1

end Sys2Proof.Machine
end

