-- ==== Sys2Proof/Machine/Fabric.lean ====
section
/-!
DEFINITION. Machine/Fabric.lean: row 13 columns 2 to 5 and the events of the fabric: reducing windows, wakes, the
signature's records, requests applied exactly once, and LINKF (spec/20 R430 to R448; spec/18 R395, R396).
-/

namespace Sys2Proof.Machine

/-! ### redst and redq (R441 to R444) -/

/-- The formats of a window (R442). -/
def windowFmt (f : BitVec 4) : Bool := f == 1 || f == 9 || f == 14

/-- The alignment of an element of a window (R441). -/
def windowAligned (f : BitVec 4) (a : Word) : Bool :=
  if f = 14 then a.toNat % 64 % 3 == 0 && decide (a.toNat % 64 ≤ 45) else a.toNat % 4 == 0

/-- A contribution waits at its source (R439, R444). -/
def State.waitAtSource (s : State) (home : Nat) (x : BitVec 32) : State :=
  { s with run := { s.run with redst := some ⟨home, x, false, false⟩ } }

/-- Whether the window of a waiting contribution has left REDUCE or changed its order meanwhile (R440, R442). -/
def State.windowLeft (s : State) : Bool := (s.run.redst.map (·.left)).getD false

/-- Whether the end of a quantum has applied the contribution that waits (R444). -/
def State.contributed (s : State) : Bool := (s.run.redst.map (·.added)).getD false

/-- `redst`: the checkpoint, the checks, the wait for a round, or in deterministic mode for the quantum's end that applies an
add to an unordered window (R444), then acceptance. Log entry 81 (DEDUCED). -/
def redstBody (bad : Exc) (d : Reg) (a : Word) (s : State) : Res :=
  withS s.checkpointAck (fun s => withResent s (fun s =>
    if s.contributed then .okCk (s.asked 3 [])
    else withE s (s.access 0 a bad 1 askReduce noCheck (fun e => need (windowFmt e.fmt) (.trap cFMTF a))) (fun l =>
      let me := s.lcore.toNat
      let x := (s.rd d).setWidth 32
      withE s (checks [need (!s.windowLeft) (.trap cCAPF a), need (!(l.onAd && (s.fwd || s.rev))) (.trap cADPF a),
          need (windowAligned (BitVec.ofNat 4 l.fmt) a) (.trap cALIGN a),
          need (s.participates l.home me) (.trap cCAPF a), s.poisonCheck l.home 4]) (fun _ =>
        withMigration s l.home (fun s =>
          if s.roundFull l.home me then .exc (s.waitAtSource l.home x) (.wait .round)
          else if s.det && !s.orderedWindow l.home then .exc (s.waitAtSource l.home x) (.wait .quantum)
          else .okCk ((s.contribute l.home me x).asked 3 []))))))

/-- The word that `redq` writes of the element at a home address (R443). Log entry 107 (DEDUCED). -/
def State.windowWord (s : State) (a status : Nat) : Word :=
  let o := s.orderedWindow a
  let pend := ((s.die.contribs.filter (fun c => c.addr == a)).map (·.count)).sum
  word ((if o then s.closedRounds a % 2 ^ 24 * 2 ^ 40 + 2 ^ 8 else 0) + min pend 65535 * 2 ^ 16 + status)

/-- The status of an ARM (R443). Log entry 81 (DEDUCED). -/
def State.armStatus (s : State) (a first n : Nat) : Nat :=
  if !s.orderedWindow a then 4
  else if !(s.openElements (a / 65536)).isEmpty then 2
  else if s.ncores < first + n then 3
  else 0

/-- An ARM sets the granule's range and restarts its round counts. -/
def State.arm (s : State) (a first n : Nat) : State :=
  let w := s.window a
  { s with die := { s.die with
      windows := { w with first := first, n := n } :: s.die.windows.filter (fun v => v.granule != a / 65536)
      rounds := s.die.rounds.filter (fun r => r.addr / 65536 != a / 65536) } }

/-- The request in S[D] of `redq` (R443). -/
def redqRequest (r : Word) : Bool := fieldOf r 0 2 == 1 || r == 0

/-- The checks of `redq`: 1 to 4 as a load, with the alignment of the page's format, and the poison of the whole granule (R336).
Log entry 81 (DEDUCED). -/
def State.redqPlace (s : State) (w : BitVec 32) (a : Word) : Except Exc Nat :=
  match need (canonical a) (illopd w 17) with
  | .error e => .error e
  | .ok _ => match s.translate a .read needR with
    | .error e => .error e
    | .ok e => match checks [need (!windowFmt e.fmt || windowAligned e.fmt a) (.trap cALIGN a),
        need e.accR (.trap cACCF a), s.leaseCheck (e.physical a) a askLoad, s.granulePoisonCheck (e.physical a)] with
      | .error x => .error x
      | .ok _ => .ok (e.physical a)

/-- `redq`: an ARM is bracketed by checkpoints. -/
def redqBody (w : BitVec 32) (d : Reg) (a : Word) (s : State) : Res :=
  let r := s.rd d
  let query := fun (s : State) (k : State → Nat → Res) =>
    withE s (need (redqRequest r) (illopd w 11)) (fun _ => withE s (s.redqPlace w a) (fun h => k s h))
  if fieldOf r 0 2 = 1 then
    withS s.checkpointAck (fun s => query s (fun s h =>
      if !s.inWindow h then .okCk (s.wr d 1)
      else
        let st := s.armStatus h (fieldOf r 30 34) (fieldOf r 2 28 + 1)
        let s := if st = 0 then s.arm h (fieldOf r 30 34) (fieldOf r 2 28 + 1) else s
        .okCk (s.wr d (s.windowWord h st))))
  else query s (fun s h => .ok (s.wr d (if s.inWindow h then s.windowWord h 0 else 1)))

/-! ### Wakes (R395, R396, R445) -/

/-- The local packet that a wake becomes (R395). -/
def wakePacket (p : Packet) (me : CoreNum) : Packet := { p with dest := me, kind := 0, ts := 0, onCircuit := false }

/-- A wake is placed in a FREE slot that no circuit holds (R395); the seed as the launch's wake is placed goes to the signature
(R447). Log entry 50 (DEDUCED). -/
def State.placeWake (s : State) (p : Packet) : State × Bool :=
  match s.pickSlot (fun v => v.st == .free) with
  | none => (s, false)
  | some i =>
    let s := if s.pkg.sigLaunch = some { p with kind := 3, dest := s.lcore } then
        { s with pkg := { s.pkg with sigSeeds := [s.run.ctx.seed], sigLaunch := none } }
      else s
    (s.land i (wakePacket p s.lcore), true)

/-- A wake whose kernel is installed is placed, or waits in the input buffer (R395, R408), behind earlier ones of its issuer
(R445); in deterministic mode the core's own waits among the packets that it has sent itself (R402, R403). -/
def State.wakeLands (s : State) (p : Packet) : State :=
  let wait := fun (s : State) =>
    if s.det && p.src == s.lcore then { s with net := { s.net with flight := s.net.flight ++ [{ p with kind := 3, dest := s.lcore }] } }
    else { s with net := { s.net with waiting := s.net.waiting ++ [{ p with kind := 3 }] } }
  if s.holdsArrivals || (s.net.waiting ++ s.ownFlight).any (fun q => q.src == p.src && q.kind == 3) then wait s
  else
    let r := s.placeWake p
    if r.2 then r.1 else wait r.1

/-- A wake is numbered by its issuer: the last 64 of each are remembered (R433). Log entry 83 (DEDUCED). -/
def Net.noteWake (n : Net) (p : Packet) (count : Nat) : Net :=
  { n with seenWakes := (p.src, count) :: (n.seenWakes.filter (fun w => w.1 == p.src)).take 63 ++
      n.seenWakes.filter (fun w => w.1 != p.src) }

/-- Whether a wake comes before step 4 of its kernel's install here: the kernel that the launch names, or any at all (R396).
Log entry 83 (DEDUCED). -/
def Net.tooEarly (n : Net) (ksel : Option (BitVec 4)) : Bool :=
  match ksel with
  | some k => !n.kernels.any (fun v => v.ksel == k)
  | none => n.kernels.isEmpty

/-- A wake waits until its kernel is installed (R396). -/
def Net.holdEarly (n : Net) (p : Packet) (ksel : Option (BitVec 4)) : Net := { n with early := n.early ++ [(ksel, p)] }

/-- A wake that has not been seen before arrives (R395, R396, R433). Log entry 83 (DEDUCED). -/
def State.wakeArrives (s : State) (p : Packet) (count : Nat) (ksel : Option (BitVec 4)) : State :=
  if s.net.seenWakes.contains (p.src, count) then s
  else
    let n := s.net.noteWake p count
    if n.tooEarly ksel then { s with net := n.holdEarly p ksel } else State.wakeLands { s with net := n } p

/-- A wake for a partition that has left this core waits in that partition's input buffer (R413). -/
def SwitchedCore.takeWake (v : SwitchedCore) (p : Packet) (count : Nat) (ksel : Option (BitVec 4)) : SwitchedCore :=
  if v.net.seenWakes.contains (p.src, count) then v
  else
    let n := v.net.noteWake p count
    { v with net := if n.tooEarly ksel then n.holdEarly p ksel else { n with waiting := n.waiting ++ [{ p with kind := 3 }] } }

/-- The wakes that waited for an installed kernel are placed (R396). Log entry 83 (DEDUCED). -/
def State.admitEarly (s : State) : State :=
  let ready := s.net.early.filter (fun e => !s.net.tooEarly e.1)
  (ready.map Prod.snd).foldl State.wakeLands
    { s with net := { s.net with early := s.net.early.filter (fun e => s.net.tooEarly e.1) } }

/-- The wake record at a scratchpad address, if its header is sound (R445). -/
def State.wakeRecord (s : State) (a : Nat) : Option Packet :=
  let h := s.seenNat (s.spA a) 16
  let x : BitVec 128 := BitVec.ofNat 128 h
  let len := fieldOf x 50 6
  if fieldOf x 56 4 = 3 && fieldOf x 0 34 = 0 && fieldOf x 68 48 = 0 && len ≤ 28 && fieldOf x 116 12 = 0 &&
      a + 16 + 4 * len ≤ Config.spSize then
    some {
      src := s.lcore, dest := 0, tag := x.extractLsb' 34 16, len := BitVec.ofNat 6 len, kind := 3
      seg := x.extractLsb' 60 8, ts := 0, payload := wordsOf len (s.seenBytes (s.spA (a + 16)) (4 * len))
      onCircuit := false }
  else none

/-- `wake`. -/
def wakeBody (w : BitVec 32) (a : Word) (s : State) : Res :=
  withE s (checks [need (decide (a.toNat < Config.spSize)) (illopd w 17), need (a.toNat % 16 == 0) (.trap cALIGN a),
      s.poisonCheck (s.spA a.toNat) 16]) (fun _ =>
    match s.wakeRecord a.toNat with
    | none => .exc (s.markRead a.toNat 16) (illopdH w)
    | some p =>
      let n := 16 + 4 * p.len.toNat
      withE s (checks ((lineList a.toNat n).map (fun l => s.poisonCheck (s.spA l) 1))) (fun _ =>
        withS (s.markRead a.toNat n).checkpointAck (fun s => withResent s (fun s =>
          let k := s.core.wakes
          let s := { s with core := { s.core with wakes := k + 1 } }
          .okCk ((s.wakeArrives p k none).asked 5 [])))))
where
  /-- One address in each line of `n` bytes. -/
  lineList (a n : Nat) : List Nat := (List.range ((a % 64 + n + 63) / 64)).map (fun k => a / 64 * 64 + 64 * k)

/-! ### The signature (R448) -/

/-- `sigx`: a record of 64 scratchpad bytes, bracketed by checkpoints. -/
def sigxBody (w : BitVec 32) (a : Word) (s : State) : Res :=
  withS s.checkpointAck (fun s =>
    let k := s.run.ctx.sigk
    withE s (checks [need (decide (a.toNat < Config.spSize)) (illopd w 17), need (a.toNat % 64 == 0) (.trap cALIGN a),
        need (decide (k < 65536)) (illopdH w), s.poisonCheck (s.spA a.toNat) 64]) (fun _ =>
      let bs := s.seenBytes (s.spA a.toNat) 64
      let s := (s.markRead a.toNat 64).withCtx { s.run.ctx with sigk := k + 1 }
      .okCk { s with pkg := { s.pkg with sigRecords := s.pkg.sigRecords ++ [(s.lcore, k, bs)] } }))

/-! ### Contributions and requests of others (R433, R436 to R440) -/

/-- Whether a home accepts a contribution of another core; if not, it is left at its source (R439, R441). -/
def State.acceptsAdd (s : State) (core : CoreNum) (addr : Nat) : Bool :=
  s.inWindow addr && s.participates addr core.toNat && !s.roundFull addr core.toNat && !(s.granule addr).mig && s.leaseOk core addr

/-- A contribution of another core reaches the home: accepted, or left at its source (R439, R441); in deterministic mode one to
an unordered window waits for the quantum's end (R444). One that comes with the number of an accepted one is not applied again
(R433). -/
def State.otherContribution (s : State) (core : CoreNum) (addr : Nat) (x : BitVec 32) (num : Option (BitVec 16)) : State :=
  if s.acceptsAdd core addr then
    s.once core num (fun s =>
      if s.det && !s.orderedWindow addr then { s with die := { s.die with reduces := s.die.reduces ++ [(addr, core, x)] } }
      else s.contribute addr core.toNat x)
  else s

/-- A numbered request from another package (R433): one whose number is in the filter is answered from it; the last 64 of
each source are kept. Log entry 83 (DEDUCED). -/
def State.fabricServe (s : State) (src : CoreNum) (num : BitVec 16) (r : SliceReq) : State :=
  if s.seenRequest src (some num) || s.delays r then s
  else
    let v := s.serve r
    v.1.noteRequest src (some num) v.2

/-! ### LINKF (R434) -/

/-- TVAL of LINKF. -/
def linkfVal (pkg : BitVec 22) (kind : BitVec 4) : Word := word (pkg.toNat * 2 ^ 42 + kind.toNat * 2 ^ 32 + 8)

/-- Whether the core can take a LINKF: an instruction runs or waits (R434). Log entry 84 (DEDUCED). -/
def State.takesLinkf (s : State) : Bool :=
  s.run.act.isSome && s.core.halt.isNone && !s.run.retiring && s.run.parking.isNone && !s.contributed

/-- The request that LINKF names, where its instruction has retired on its acceptance: the last one of that KIND, while no other
instruction has retired (R434); or the packets of a `sendw` that waits. Log entry 84 (DEDUCED). -/
def State.unanswered (s : State) (kind : BitVec 4) : Option Unanswered :=
  match s.run.sent with
  | some v => if kind = 4 then some ⟨s.run.ctx.pc, 4, s.core.retired, [], some v⟩ else none
  | none => s.run.answer.filter (fun u => u.kind == kind && u.since == s.core.retired)

/-- LINKF at the instruction that waits, which runs again when the handler returns; a commit that waits for its answers is given
up, so that the next checkpoint asks again (R94). It is held while the core is halted, runs no activation or one that is
leaving. Log entry 84 (DEDUCED). -/
def State.linkFault (s : State) (v : Word) : State :=
  if s.takesLinkf then
    let t := State.dropCommit { s with pkg := { s.pkg with linkf := none } }
    match s.unanswered (BitVec.ofNat 4 (fieldOf v 32 4)) with
    | some u => State.takeTrap { t with run := { t.run with answer := none, owed := none, lost := u :: t.run.lost } } cLINKF v u.pc
    | none => t.takeTrap cLINKF v s.run.ctx.pc
  else { s with pkg := { s.pkg with linkf := some v } }

/-- A request has had no reply in time: it is sent again, and after eight sends LINKF (R434). The count goes with the
instruction that waits: it starts anew when another instruction has retired. Log entry 84 (DEDUCED). -/
def State.resend (s : State) (pkg : BitVec 22) (kind : BitVec 4) : State :=
  let n := match s.pkg.resends.find? (fun r => r.1 == pkg && r.2.1 == kind && r.2.2.1 == s.core.retired) with
    | some r => r.2.2.2 + 1
    | none => 1
  let rest := s.pkg.resends.filter (fun r => !(r.1 == pkg && r.2.1 == kind))
  if n < 8 then { s with pkg := { s.pkg with resends := (pkg, kind, s.core.retired, n) :: rest } }
  else State.linkFault { s with pkg := { s.pkg with resends := rest } } (linkfVal pkg kind)

/-- The kind of request that the running instruction waits for (R434). Log entry 84 (DEDUCED). -/
def State.waitKind (s : State) : BitVec 4 :=
  match s.run.stall with
  | some .acks => 1
  | some .hold => 1
  | some .deferred => 1
  | some .placement => 4
  | some .round => 3
  | some (.walk _ _) => 6
  | _ => if s.run.owed.isSome then 2 else 0

/-- A beat of an on-die link fails its CRC: after eight failures the link is retired, and with no route left the request
of the core raises LINKF with its own package (R434). Log entry 84 (DEDUCED). -/
def State.linkFailure (s : State) (link : Nat) (noRoute : Bool) : State :=
  let n := (assoc link s.pkg.linkErrors).getD 0 + 1
  if n < 8 then { s with pkg := { s.pkg with linkErrors := assocSet link n s.pkg.linkErrors } }
  else
    let s := State.report { s with pkg := { s.pkg with
      linkErrors := s.pkg.linkErrors.filter (fun e => e.1 != link)
      retiredLinks := s.pkg.retiredLinks ++ [link] } } (.linkRetired link)
    if noRoute then s.linkFault (linkfVal s.ownPkg s.waitKind) else s

/-! ### Instructions and events -/


/-- `redst` (R441). -/
def execRedst (d a : Reg) (i : BitVec 9) (s : State) : Host.Outcome State Fault Refusal :=
  runBody 4 s (fun s => redstBody (illopd (rri 0 0x1A2 i a d) 17) d (s.rd a + sext i) s)

/-- `redst` with a literal (R441). -/
def execRedstLit (d a : Reg) (l : Word) (s : State) : Host.Outcome State Fault Refusal :=
  runBody 12 s (fun s => redstBody (illopd (rri 1 0x1A2 0 a d) 17) d (s.rd a + l) s)

/-- `redq` (R443). -/
def execRedq (d a : Reg) (s : State) : Host.Outcome State Fault Refusal :=
  runBody 4 s (fun s => redqBody (rrr 0 0x1A3 0 0 a d) d (s.rd a) s)

/-- `wake` (R445). -/
def execWake (a : Reg) (s : State) : Host.Outcome State Fault Refusal :=
  runBody 4 s (fun s => wakeBody (rrr 0 0x1A4 0 0 a 0) (s.rd a) s)

/-- `sigx` (R448). -/
def execSigx (a : Reg) (s : State) : Host.Outcome State Fault Refusal :=
  runBody 4 s (fun s => sigxBody (rrr 0 0x1A5 0 0 a 0) (s.rd a) s)

/-- WAKE_PLACEMENT: a wake reaches this core, for the partition that it runs or for one that has left it (R395, R396, R413). -/
def execWakePlacement (p : Packet) (count : Nat) (s : State) (part : BitVec 16 := 0)
    (ksel : Option (BitVec 4) := none) : Host.Outcome State Fault Refusal :=
  .next (if part = s.pkg.part then s.wakeArrives p count ksel
    else { s with pkg := { s.pkg with switched := s.pkg.switched.map (fun v =>
      if v.part = part then v.takeWake p count ksel else v) } })

/-- REDUCE_CONTRIBUTION (R436). -/
def execReduceContribution (core : BitVec 34) (addr : Nat) (val : BitVec 32)
    (s : State) (num : Option (BitVec 16) := none) : Host.Outcome State Fault Refusal :=
  .next (s.otherContribution core addr val num)

/-- FABRIC_REQUEST (R433). -/
def execFabricRequest (src : BitVec 34) (num : BitVec 16) (r : SliceReq)
    (s : State) : Host.Outcome State Fault Refusal :=
  .next (s.fabricServe src num r)

/-- FABRIC_RESEND_TIMEOUT (R434). -/
def execFabricResendTimeout (pkg : BitVec 22) (kind : BitVec 4) (s : State) : Host.Outcome State Fault Refusal :=
  .next (s.resend pkg kind)

/-- FLIT_CRC_FAILURE: the link replays from its own buffer, which changes only time (R431). -/
def execFlitCrcFailure (_link : Nat) (s : State) : Host.Outcome State Fault Refusal :=
  .next s

/-- ON_DIE_LINK_CRC_FAILURE (R434). -/
def execOnDieLinkCrcFailure (link : Nat) (noRoute : Bool) (s : State) : Host.Outcome State Fault Refusal :=
  .next (s.linkFailure link noRoute)

end Sys2Proof.Machine
end

