-- ==== Sys2Proof/Machine/Network.lean ====
section
/-!
DEFINITION. Machine/Network.lean: row 12 columns 2 to 5 and the events of circuits, streams and set-ups (spec/15 R344 to
R350).
-/

namespace Sys2Proof.Machine

/-! ### Descriptors (R345) -/

/-- S[A] of the four instructions: a send descriptor whose KIND and LEN are zero. -/
def keyOk (s : State) (d : Word) : Bool := descriptorOk s d && fieldOf d 50 10 == 0

/-- The key that S[A] names. -/
def keyOf (d : Word) : CircKey := ⟨BitVec.ofNat 34 (fieldOf d 0 34), BitVec.ofNat 16 (fieldOf d 34 16)⟩

/-- S[B]: NSLOT and NXFER in their ranges, reserved bits zero. -/
def requestOk (stream : Bool) (b : Word) : Bool :=
  let n := fieldOf b 16 4
  let x := fieldOf b 0 13
  fieldOf b 20 44 == 0 && fieldOf b 13 3 == 0 && decide (1 ≤ n) && decide (n ≤ 8) &&
    (if stream then x == 0 else decide (1 ≤ x) && decide (x ≤ 4096))

/-! ### The receiver (R344, R347, R349) -/

/-- The receiver slots held for the circuits and streams that are open here (R344). -/
def State.slotsHeld (s : State) : Nat :=
  (s.net.slots.toList.filter (fun v => s.net.rcircs.any (fun c => v.circ == some c.id))).length

/-- The FREE slots, in ascending number. -/
def State.freeSlots (s : State) : List (BitVec 5) := slotNumbers.filter (fun i => (s.slot i).st == .free)

/-- The slots that this core as receiver grants to a request (R347). Log entry 73 (DESIGN CHOICE). -/
def State.grantCount (s : State) (n : Nat) : Nat := min n (min s.freeSlots.length (24 - s.slotsHeld))

/-- A FREE slot as a set-up reserves it: to a circuit, or to the packet of a key. -/
def Slot.reservedTo (circ : Option Nat) (src : CoreNum) (tag : BitVec 16) : Slot :=
  { Slot.empty with
    st := .reserved
    circ := circ
    pkt := { Packet.empty with src := src, tag := tag } }

/-- Marks the first FREE slots RESERVED. -/
def State.reserve (s : State) (v : Slot) (n : Nat) : State := (s.freeSlots.take n).foldl (fun s i => s.setSlot i v) s

/-- A circuit or stream opens at this core as receiver with `n` slots (R347). -/
def State.acceptCirc (s : State) (src : CoreNum) (tag : BitVec 16) (xfer : Nat) (stream : Bool) (n : Nat) : State :=
  let id := s.net.circIds
  let s := s.reserve (Slot.reservedTo (some id) src tag) n
  { s with net := { s.net with circIds := id + 1, rcircs := s.net.rcircs ++ [⟨src, tag, id, xfer, stream, false⟩] } }

/-- A queued set-up is answered if it can be; the flag says whether it leaves the queue (R347, R349). -/
def State.grant (s : State) (r : SetupReq) : State × Bool :=
  if s.core.halt.isSome || s.setupBlocked r then (s, false)
  else if r.perPacket then
    (if s.freeSlots.isEmpty then (s, false) else (s.reserve (Slot.reservedTo none r.src r.tag) 1, true))
  else
    let g := s.grantCount r.nslot
    (if g = 0 then s else s.acceptCirc r.src r.tag r.nxfer r.stream g, true)

/-- Answers a queued set-up if it can be. -/
def State.tryGrant (s : State) (r : SetupReq) : State :=
  let g := s.grant r
  if g.2 then { g.1 with net := { g.1.net with setups := g.1.net.setups.erase r } } else g.1

/-- Answers the queued set-ups in arrival order; those that cannot be answered stay (R349). -/
def State.grantAll (s : State) : State := s.net.setups.foldl State.tryGrant s

/-! ### circ and sopen (R346, R347) -/

/-- What opening a circuit comes to: a status with its grant, or a wait. -/
structure Opening where
  status : Nat
  grant : Nat
  state : State

/-- The answer of the receiver of a set-up: this core's own, or another's, which is a free value. Log entry
73 (DESIGN CHOICE). -/
def State.askReceiver (s : State) (k : CircKey) (n xfer : Nat) (stream : Bool) : Opening :=
  if k.dest = s.lcore then
    let g := s.grantCount n
    if g = 0 then ⟨3, 0, s⟩ else ⟨0, g, s.acceptCirc s.lcore k.tag xfer stream g⟩
  else
    let g := min n (Config.receiverGrant s.fresh)
    if g = 0 then ⟨3, 0, s.tick⟩ else ⟨0, g, s.tick⟩

/-- The set-up flit of `circ` and `sopen`: the stage-1 entries, then the receiver. Log entries 50 (DEDUCED),
73 (DESIGN CHOICE). -/
def State.openCirc (s : State) (k : CircKey) (n xfer : Nat) (stream : Bool) : Opening :=
  if Config.switchFull s.fresh then ⟨2, 0, s.tick⟩
  else
    let o := s.tick.askReceiver k n xfer stream
    if o.status = 0 then
      let c : Circ := ⟨k, xfer, stream, s.run.ctx.circidle, s.cycle.toNat⟩
      { o with state := { o.state with net := { o.state.net with circs := o.state.net.circs ++ [c] } } }
    else o

/-- Whether another core holds a circuit or stream for a key, so that `sopen` waits (R347). Log entry 73 (DESIGN CHOICE). -/
def State.heldElsewhere (s : State) (k : CircKey) : Bool :=
  if k.dest = s.lcore then s.net.rcircs.any (fun c => c.tag == k.tag && c.src != s.lcore)
  else Config.streamHeld s.fresh

/-- Writes the status word of R346; the replay log supplies and records it (R467). -/
def circEnd (d : Reg) (o : Opening) : Res :=
  let v := o.state.replayed .circ (word (o.grant * 2 ^ 16 + o.status))
  .ok ((o.state.record .circ v.toNat).wr d v)

/-- Whether the set-up of the core to itself waits at the receiver for another core's stream to close (R347). Log entry
73 (DESIGN CHOICE). -/
def State.selfBlocked (s : State) (k : CircKey) : Bool := k.dest == s.lcore && s.streamBlocks s.lcore k.tag

/-- `circ` and `sopen`. -/
def circBody (w : BitVec 32) (stream : Bool) (d : Reg) (a b : Word) (s : State) : Res :=
  withE s (checks [need (keyOk s a) (illopd w 17), need (requestOk stream b) (illopd w 23)]) (fun _ =>
    withReplay s .circ (fun s =>
      let k := keyOf a
      if s.net.circs.any (fun c => c.key == k) then circEnd d ⟨5, 0, s⟩
      else if (s.physOf k.dest.toNat).map dieOf != some (dieOf s.phys) then circEnd d ⟨4, 0, s⟩
      else if 8 ≤ s.net.circs.length then circEnd d ⟨1, 0, s⟩
      else if stream && s.heldElsewhere k then .exc s.tick (.wait .streamOpen)
      else if s.selfBlocked k then .exc s (.wait .streamOpen)
      else circEnd d (s.openCirc k (fieldOf b 16 4) (fieldOf b 0 13) stream)))

/-! ### Closing (R348, R350) -/

/-- The circuit of the core to itself, as it closes, delivers the packets on their way and no more. -/
def RCirc.close (c : RCirc) (onWay : Nat) : RCirc := { c with left := onWay, closing := true }

/-- Closes the circuit or stream of a key at its source: its entry is free, its marker on the way behind its last packet. One of
the core to itself still delivers its packets on the way, behind those of the closed ones of its key. -/
def State.closeCirc (s : State) (k : CircKey) (stream : Bool) : State :=
  let own := s.net.rcircs.filter (fun c => k.dest == s.lcore && c.src == s.lcore && c.tag == k.tag)
  let onWay := (s.net.flight.filter (fun p => p.dest == k.dest && p.tag == k.tag && p.onCircuit)).length
  let earlier := own.dropLast.foldl (fun n c => n + c.left) 0
  { s with net := { s.net with
    circs := s.net.circs.filter (fun c => !(c.key == k && c.stream == stream))
    rcircs := s.net.rcircs.map (fun c =>
      if own.getLast?.map (·.id) == some c.id && s.net.circs.any (fun d => d.key == k && d.stream == stream) then
        c.close (onWay - earlier)
      else c) } }

/-- `circrel` and `sclose`. -/
def closeBody (w : BitVec 32) (stream : Bool) (a : Word) (s : State) : Res :=
  withE s (need (keyOk s a) (illopd w 17)) (fun _ => .ok (s.closeCirc (keyOf a) stream))

/-- A circuit that no packet has entered for IDLE die cycles closes; 0 disables the timer. -/
def State.idleClose (s : State) (k : CircKey) : State :=
  if s.net.circs.any (fun c => c.key == k && !c.stream && c.idle != 0 &&
      decide (c.lastUse + c.idle.toNat ≤ s.cycle.toNat)) then s.closeCirc k false
  else s

/-- The circuit or stream under a number closes at this core as receiver: unfilled slots are FREE again, filled ones when they are
released. Log entry 74 (DEDUCED). -/
def State.closeId (s : State) (id : Nat) : State :=
  let s := { s with net := { s.net with rcircs := s.net.rcircs.filter (fun c => c.id != id) } }
  (slotNumbers.filter (fun i => (s.slot i).st == .reserved && (s.slot i).circ == some id)).foldl
    (fun s i => s.setSlot i Slot.empty) s

/-- A closing marker reaches this core as receiver: it closes the oldest circuit of its key (R348). Log entry 74 (DEDUCED). -/
def State.closeReceiver (s : State) (m : CircMark) : State :=
  match s.net.rcircs.find? (fun c => m.dest == s.lcore && c.src == m.src && c.tag == m.tag) with
  | some c => s.closeId c.id
  | none => s

/-- The circuits to itself that the core has closed or used up and whose last packet has arrived: their markers follow (R348).
Log entry 74 (DEDUCED). -/
def State.ownMarks (s : State) : List Nat :=
  (s.net.rcircs.filter (fun c => c.src == s.lcore && !c.open)).map (·.id)

/-- Every circuit and stream of the core closes, as when its kernel is removed (R350). -/
def State.closeAll (s : State) : State := (s.net.circs.map (fun c => (c.key, c.stream))).foldl (fun s k => s.closeCirc k.1 k.2) s

/-- A set-up flit arrives and is answered as soon as it can be. -/
def State.setupArrives (s : State) (r : SetupReq) : State :=
  State.grantAll { s with net := { s.net with setups := s.net.setups ++ [r] } }

/-- The oldest queued set-up of a core is answered, if it can be. -/
def State.grantOldest (s : State) (src : CoreNum) : State :=
  match s.net.setups.find? (fun r => r.src == src) with
  | none => s
  | some r => s.tryGrant r

/-! ### Instructions and events -/


/-- `circ` (R347). -/
def execCirc (d a b : Reg) (s : State) : Host.Outcome State Fault Refusal :=
  runBody 4 s (fun s => circBody (rrr 0 0x182 0 b a d) false d (s.rd a) (s.rd b) s)

/-- `circrel` (R348). -/
def execCircrel (a : Reg) (s : State) : Host.Outcome State Fault Refusal :=
  runBody 4 s (fun s => closeBody (rrr 0 0x183 0 0 a 0) false (s.rd a) s)

/-- `sopen` (R347). -/
def execSopen (d a b : Reg) (s : State) : Host.Outcome State Fault Refusal :=
  runBody 4 s (fun s => circBody (rrr 0 0x184 0 b a d) true d (s.rd a) (s.rd b) s)

/-- `sclose` (R348). -/
def execSclose (a : Reg) (s : State) : Host.Outcome State Fault Refusal :=
  runBody 4 s (fun s => closeBody (rrr 0 0x185 0 0 a 0) true (s.rd a) s)

/-- CIRCUIT_IDLE_TIMEOUT (R348). -/
def execCircuitIdleTimeout (key : CircKey) (s : State) : Host.Outcome State Fault Refusal :=
  .next (s.idleClose key)

/-- CLOSING_MARKER (R348). -/
def execClosingMarker (c : CircMark) (s : State) : Host.Outcome State Fault Refusal :=
  .next (s.closeReceiver c)

/-- SETUP_FLIT (R349). -/
def execSetupFlit (r : SetupReq) (s : State) (num : Option (BitVec 16) := none) : Host.Outcome State Fault Refusal :=
  .next (s.once r.src num (fun s => s.setupArrives r))

/-- SETUP_GRANT (R349). -/
def execSetupGrant (src : BitVec 34) (s : State) : Host.Outcome State Fault Refusal :=
  .next (s.grantOldest src)

end Sys2Proof.Machine
end

