-- ==== Sys2Proof/Machine/Pair.lean ====
section
/-!
DEFINITION. Machine/Pair.lean: weight pairs: `pst` and `pstb`, which write both copies of a weight (spec/19 R416 to R420).
-/

namespace Sys2Proof.Machine

/-- The virtual base of the partner of the granule that holds an address, if the granule belongs to a pair (R416). -/
def State.partnerBase (s : State) (a : Word) : Option Word := assoc (a &&& ~~~0xFFFF#64) s.die.pairs

/-- The place of an element of size z in the tile order of its granule: tile, row, column (R417). -/
def tileOf (z : Nat) (a : Word) : Nat × Nat × Nat :=
  let o := a.toNat % 65536
  let e := o % (64 * z) / z
  (o / (64 * z), e / 8, e % 8)

/-- partner(A) (R417). -/
def partnerOf (base : Word) (z : Nat) (a : Word) : Word :=
  let t := tileOf z a
  base + word (64 * z * t.1 + z * (8 * t.2.2 + t.2.1))

/-- The formats that a pair may have (R416). -/
def pairFmt (f : Nat) : Bool :=
  (decide (1 ≤ f) && decide (f ≤ 5)) || (decide (7 ≤ f) && decide (f ≤ 11)) || f == 13

/-- The alignment of A, `m` elements at a time, checked once the page gives the element size (R418). -/
def pairAlign (a : Word) (m : Nat) (e : TlbEntry) : Except Exc Unit :=
  let z := fmtSize e.fmt.toNat
  need (z == 0 || a.toNat % (m * z) == 0) (.trap cALIGN a)

/-- A's page must belong to a pair and have a format of one (R419). -/
def State.pairRule (s : State) (a : Word) (e : TlbEntry) : Except Exc Unit :=
  need (pairFmt e.fmt.toNat && (s.partnerBase a).isSome) (.trap cFMTF a)

/-- The places of A and of its partner, both checked as stores (R418). -/
def State.pairPlaces (s : State) (bad : Exc) (a : Word) (m : Nat) : Except Exc (Loc × Loc) :=
  match s.access 0 a bad 1 askStore (pairAlign a m) (s.pairRule a) with
  | .error e => .error e
  | .ok l =>
    match need (!(l.onAd && (s.fwd || s.rev))) (.trap cADPF a) with
    | .error e => .error e
    | .ok _ =>
      match s.globalRows (partnerOf ((s.partnerBase a).getD 0) l.z a) askStore noCheck noCheck with
      | .error e => .error e
      | .ok p => .ok (l, p)

/-- Logs the bytes of both copies as one group (R418). -/
def State.putPair (s : State) (l p : Loc) (bs ps : List Byte) : State := (s.putBytes l.home bs).putBytes p.home ps

/-- `pst`. -/
def pstBody (bad : Exc) (d : Reg) (a : Word) (s : State) : Res :=
  withE s (s.pairPlaces bad a 1) (fun r =>
    let bs := bytesOf r.1.z (s.rd d).toNat
    withS (s.storeRoom [r.1.home, r.2.home] []) (fun s => .ok (s.putPair r.1 r.2 bs bs)))

/-- What `pstb` asks of H[D]: a tensor, loads of the scratchpad. -/
def pairSource : Want := ⟨[0], askLoad, fun _ => true, fun _ => true, true, false⟩

/-- Whether H[D] is a tensor of 64 elements in SPACE 1 (R419). -/
def tileHandle (h : BitVec 256) : Bool := handleOk h [0] && hSpace h == 1 && product (hDims h) == 64

/-- The home addresses of the lines that `n` bytes at a home address lie in. -/
def lineAddrs (a n : Nat) : List Nat := (List.range ((a % 64 + n + 63) / 64)).map (fun k => a / 64 * 64 + 64 * k)

/-- `pstb` (R418): element 8u + v goes to place 8u + v of A's tile and to place 8v + u of its partner. -/
def pstbBody (w : BitVec 32) (bad : Exc) (d : Reg) (a : Word) (s : State) : Res :=
  withE s (s.pairPlaces bad a 64) (fun r =>
    let h := s.rdH d
    withE s (checks [need (tileHandle h) (illopdH w), need (hFmt h == r.1.fmt) (.trap cFMTF a)]) (fun _ =>
      withE s (s.operand w h false pairSource) (fun o =>
        withE s (s.sourcePoison o) (fun _ =>
          let z := r.1.z
          let elem := fun (j : Nat) => bytesOf z (s.raw o j)
          let plain := (List.range 64).flatMap elem
          let turned := (List.range 64).flatMap (fun (j : Nat) => elem (j % 8 * 8 + j / 8))
          withS (s.storeRoom (lineAddrs r.1.home (64 * z) ++ lineAddrs r.2.home (64 * z)) []) (fun s =>
            .ok ((s.readOperand o).putPair r.1 r.2 plain turned))))))

/-! ### Instructions -/


/-- `pst` (R418). -/
def execPst (d a : Reg) (i : BitVec 9) (s : State) : Host.Outcome State Fault Refusal :=
  runBody 4 s (fun s => pstBody (illopd (rri 0 0x1A0 i a d) 17) d (s.rd a + sext i) s)

/-- `pst` with a literal (R418). -/
def execPstLit (d a : Reg) (l : Word) (s : State) : Host.Outcome State Fault Refusal :=
  runBody 12 s (fun s => pstBody (illopd (rri 1 0x1A0 0 a d) 17) d (s.rd a + l) s)

/-- `pstb` (R418). -/
def execPstb (d a : Reg) (i : BitVec 9) (s : State) : Host.Outcome State Fault Refusal :=
  runBody 4 s (fun s => pstbBody (rri 0 0x1A1 i a d) (illopd (rri 0 0x1A1 i a d) 17) (d.setWidth 6) (s.rd a + sext i) s)

/-- `pstb` with a literal (R418). -/
def execPstbLit (d a : Reg) (l : Word) (s : State) : Host.Outcome State Fault Refusal :=
  runBody 12 s (fun s => pstbBody (rri 1 0x1A1 0 a d) (illopd (rri 1 0x1A1 0 a d) 17) (d.setWidth 6) (s.rd a + l) s)

end Sys2Proof.Machine
end

