-- ==== Sys2Proof/Machine/Shake.lean ====
section
/-!
DEFINITION. Machine/Shake.lean: SHAKE256, which boot, attestation and the signature name (spec/19 R423 to R425; spec/20
R446, R447). The spec names the function and does not define it: its definition here is that of FIPS 202 (PRESUMED).
-/

namespace Sys2Proof.Machine

/-! ### The permutation -/

/-- The 1600 bits of the sponge as five planes of five lanes. -/
abbrev Planes := List (List (BitVec 64))

/-- Adds a plane to another. -/
def addPlane (p q : List (BitVec 64)) : List (BitVec 64) := p.zipWith (· ^^^ ·) q

/-- Every lane takes up the parities of the two columns beside it. -/
def mixColumns (a : Planes) : Planes :=
  let parity := a.foldl addPlane (List.replicate 5 0)
  let effect := addPlane (parity.rotateRight 1) ((parity.rotateLeft 1).map (·.rotateLeft 1))
  a.map (addPlane effect)

/-- The walk over the lanes beside the first: from column `x` of plane `y` each lane moves on to the next place of the walk, and
turns by the triangular number of the step. An entry is a target, a source and a turn. -/
def laneWalk : Nat → Nat → Nat → List (Nat × Nat × Nat)
  | 0, _, _ => []
  | n + 1, x, y =>
    let z := (2 * x + 3 * y) % 5
    (5 * z + y, 5 * y + x, (24 - n) * (25 - n) / 2) :: laneWalk n y z

/-- The planes of 25 lanes. -/
def planesOf (ls : List (BitVec 64)) : Planes := (List.range 5).map (fun y => (ls.drop (5 * y)).take 5)

/-- Every lane goes to its next place on the walk. -/
def moveLanes (a : Planes) : Planes :=
  let ls := a.flatten
  planesOf ((List.range 25).map (fun i => match assoc i (laneWalk 24 1 0) with
    | some m => (ls.getD m.1 0).rotateLeft m.2
    | none => ls.getD i 0))

/-- The one step that is not linear, plane by plane. -/
def mixPlane (p : List (BitVec 64)) : List (BitVec 64) :=
  addPlane p ((p.rotateLeft 1).zipWith (fun b c => c &&& ~~~b) (p.rotateLeft 2))

/-- The next state of the shift register that gives the constants. -/
def shiftOn (r : Nat) : Nat := if r < 128 then 2 * r else (2 * r) ^^^ 0x171

/-- The constant of a round from bit `j` on, and the shift register after it. -/
def roundBits : Nat → Nat → Nat → BitVec 64 × Nat
  | 0, _, r => (0, r)
  | n + 1, j, r =>
    let rest := roundBits n (j + 1) (shiftOn r)
    (rest.1 ||| (word (r % 2) <<< (2 ^ j - 1)), rest.2)

/-- Adds a constant to the first lane. -/
def addConstant (c : BitVec 64) : Planes → Planes
  | (l :: ls) :: ps => ((l ^^^ c) :: ls) :: ps
  | a => a

/-- `n` rounds, from a state of the shift register on. Log entry 38 (PRESUMED). -/
def rounds : Nat → Nat → Planes → Planes
  | 0, _, a => a
  | n + 1, r, a =>
    let c := roundBits 7 0 r
    rounds n c.2 (addConstant c.1 ((moveLanes (mixColumns a)).map mixPlane))

/-! ### The sponge -/

/-- The bytes of a block of the rate. -/
def rateBytes : Nat := 136

/-- What follows a message of `n` bytes: the suffix of SHAKE, zeros, and the last bit of a block. -/
def spongeTail (n : Nat) : List Byte :=
  let k := rateBytes - 1 - n % rateBytes
  (List.range (k + 1)).map (fun i => (if i = 0 then 0x1F else 0) ||| (if i = k then 0x80 else 0))

/-- The planes of the bytes of a block. -/
def blockPlanes (b : List Byte) : Planes :=
  planesOf ((List.range 25).map (fun i => word (natOfBytes ((b.drop (8 * i)).take 8))))

/-- Takes in `n` blocks. -/
def takeIn : Nat → List Byte → Planes → Planes
  | 0, _, a => a
  | n + 1, m, a => takeIn n (m.drop rateBytes) (rounds 24 1 (a.zipWith addPlane (blockPlanes (m.take rateBytes))))

/-- The first `n` bytes of SHAKE256 of a message; `n` is at most 136 in this machine. Log entry 38 (PRESUMED). -/
def shake256 (m : List Byte) (n : Nat) : List Byte :=
  let p := m ++ spongeTail m.length
  ((takeIn (p.length / rateBytes) p (blockPlanes [])).flatten.flatMap (fun l => bytesOf 8 l.toNat)).take n

end Sys2Proof.Machine
end

