-- ==== Sys2Proof/Machine/Scheduling.lean ====
section
/-!
DEFINITION. Machine/Scheduling.lean: `lclock`, arrivals that waited, quantum ends, pre-emption and contexts, parked
activations, partitions, installs and the slot table, clocks (spec/18 R390 to R413; spec/19 R416, R427; spec/20 R447).
-/

namespace Sys2Proof.Machine

/-! ### The logical clock (R401, R405) -/

/-- P: LIC − QSTART, negative after an abort to an earlier quantum. -/
def State.quantumPos (s : State) : Int := (s.run.ctx.lic : Int) - (s.core.qstart : Int)

/-- What `lclock` reads. -/
def State.logicalClock (s : State) : Word :=
  if s.det then word (s.core.quantum % 2 ^ 32 * 2 ^ 32 + (s.quantumPos % 2 ^ 32).toNat)
  else word (s.run.ctx.lic % 2 ^ 32)

/-! ### Arrivals that waited (R349, R395, R402, R408) -/

/-- Places a packet or a wake that waited in an input buffer. -/
def State.placeWaiting (s : State) (p : Packet) : State × Bool := if p.kind = 3 then s.placeWake p else s.place? p

/-- Places packets in order; a packet that finds no slot holds back the later ones of its sender (R99). The result lists
the packets that still wait. -/
def placeAll : List Packet → List (CoreNum × Bool) → State → State × List Packet
  | [], _, s => (s, [])
  | p :: ps, blocked, s =>
    let key := (p.src, p.kind == 3)
    let r := if blocked.contains key then (s, false) else s.placeWaiting p
    if r.2 then placeAll ps blocked r.1
    else
      let t := placeAll ps (key :: blocked) r.1
      (t.1, p :: t.2)

/-- Places what waits in the input buffers and what the core has sent itself, while arrivals are not held. -/
def State.settleArrivals (s : State) : State :=
  if s.holdsArrivals then s
  else
    let others := s.net.flight.filter (fun p => p.dest != s.lcore)
    let a := placeAll s.net.waiting [] s
    let b := placeAll s.ownFlight [] a.1
    { b.1 with net := { b.1.net with waiting := a.2, flight := others ++ b.2 } }

/-- The core may run again: what waited for it is answered (R349, R408). -/
def State.unhalt (s : State) : State :=
  State.grantAll (State.settleArrivals { s with core := { s.core with halt := none } })

/-! ### Quantum ends (R402 to R404) -/

/-- How many packets of the host the replay log places at the end of the quantum that runs (R403, R467). Log entry
130 (DEDUCED). -/
def State.hostFed (s : State) : Option Nat :=
  if s.dbg.replayMode then
    some (s.dbg.replay.filter (fun e => s.isEntry .hostPacket e && fieldOf e 64 64 == (s.core.quantum + 1) % 2 ^ 64)).length
  else none

/-- The packets of the host and of the firmware that wait: those that the end of the quantum places, and those that a replay
holds for a later one (R403, R467). Log entry 130 (DEDUCED). -/
def State.hostWaiting (s : State) : List Packet × List Packet :=
  let host := s.net.waiting.filter (fun p => decide (s.ncores ≤ p.src.toNat))
  match s.hostFed with
  | some n => (host.take n, host.drop n)
  | none => (host, [])

/-- The packets of cores that wait at this interface. -/
def State.coresWaiting (s : State) : List Packet := s.net.waiting.filter (fun p => decide (p.src.toNat < s.ncores))

/-- Whether a replay has every packet of the host that the end of the quantum places. Log entry 130 (DEDUCED). -/
def State.hostReady (s : State) : Bool :=
  match s.hostFed with
  | some n => decide (n ≤ s.hostWaiting.1.length)
  | none => true

/-- Whether the running instruction waits for a service, or for what another core or an arrival must change (R403). Log entry
65 (DEDUCED). -/
def quantumWait : Wait → Bool
  | .quantum => true
  | .idle => true
  | .bwait => true
  | .ring _ goal => goal.isSome
  | .stream _ => true
  | .link _ => true
  | .placement => true
  | .deferred => true
  | .round => true
  | .streamOpen => true
  | _ => false

/-- Whether the core has reached its end of the quantum (R403): P at COUNT, a wait, or nothing running and nothing queued. -/
def State.atQuantumEnd (s : State) : Bool :=
  s.core.halt.isNone &&
    (if s.run.act.isSome then
      (match s.run.stall with
        | some w => quantumWait w
        | none => decide ((s.pkg.quant.toNat : Int) ≤ s.quantumPos))
    else s.net.queue.isEmpty)

/-- Whether the condition of a wait would now hold through the core's own engines or the passing of cycles, or its service is due
(R403). Log entry 65 (DEDUCED). -/
def State.waitServed (s : State) : Wait → Bool
  | .quantum => true
  | .deferred => true
  | .idle => s.run.idleDone
  | .ring r goal => s.ringHolds r goal
  | .bwait => s.run.waited == 1
  | _ => false

/-- Whether the core's own side gives the quantum's end something to serve or to test again (R403); what another core gives
comes as QUANTUM_END. Log entry 65 (DEDUCED). -/
def State.toServe (s : State) : Bool :=
  !s.die.deferred.isEmpty || !s.die.reduces.isEmpty || !s.hostWaiting.1.isEmpty || !s.coresWaiting.isEmpty ||
    !s.net.flight.isEmpty ||
    (s.run.act.isSome && (match s.run.stall with
      | some w => s.waitServed w
      | none => true))

/-- A stable insertion by a key. -/
def insertBy {α : Type} (key : α → Nat) (p : α) : List α → List α
  | [] => [p]
  | q :: qs => if key p ≤ key q then p :: q :: qs else q :: insertBy key p qs

/-- Values in ascending key, those of one key in order. -/
def sortBy {α : Type} (key : α → Nat) : List α → List α
  | [] => []
  | p :: ps => insertBy key p (sortBy key ps)

/-- The home applies an add of the quantum, one to a window by the rule of its format (R271, R444); a poisoned line that it
reads is reported (R278, R336). -/
def State.serveAdd (s : State) (d : Nat × CoreNum × BitVec 32) : State :=
  if s.poisoned (d.1 / 64) then
    (if d.2.1 = s.lcore && s.run.act.isSome then s.poisonFault (d.1 / 64) else s.report (.poison (word (d.1 / 64 * 64)) 0))
  else if s.inWindow d.1 then s.contribute d.1 d.2.1.toNat d.2.2
  else
    let v := addFp32 (BitVec.ofNat 32 (s.die.mem.nat d.1 4)) d.2.2
    { s with die := { s.die with mem := s.die.mem.put d.1 (bytesOf 4 v.toNat) } }

/-- The core's own `redst` that waits for the quantum's end at its source, if the home accepts it (R441, R444). -/
def State.ownAdd (s : State) : List (Nat × CoreNum × BitVec 32) :=
  match s.run.redst with
  | some r => if s.run.stall = some .quantum && !r.left && !r.added && s.acceptsAdd s.lcore r.home then
      [(r.home, s.lcore, r.val)] else []
  | none => []

/-- The end of the quantum has applied the contribution that waited (R444). -/
def Waiting.serve (w : Waiting) : Waiting := { w with added := true }

/-- Applies the adds of the quantum, deferred adjoint adds and contributions to unordered windows, by core and each core's in
program order (R271, R444). Log entry 65 (DEDUCED). -/
def State.serveAdds (s : State) : State :=
  let own := s.ownAdd
  let adds := sortBy (fun d => d.2.1.toNat) (s.die.deferred ++ s.die.reduces ++ own)
  let s := if own.isEmpty then s else { s with run := { s.run with redst := s.run.redst.map Waiting.serve } }
  adds.foldl State.serveAdd { s with die := { s.die with deferred := [], reduces := [] } }

/-- Places every held packet: those of the host first, in order of receipt, then by sender, each sender's in order, wakes among
them (R403). What finds no slot waits on; whether other cores have slots is free (R402). Log entry 65 (DEDUCED). -/
def State.placeHeld (s : State) (host kept : List Packet) : State :=
  let own := fun (p : Packet) => p.src == s.lcore
  let others := s.net.flight.filter (fun p => p.dest != s.lcore)
  let r := placeAll (host ++ sortBy (fun p => p.src.toNat) (s.coresWaiting ++ s.ownFlight)) [] s
  let t := (host.filter (fun p => !r.2.contains p)).foldl (fun s _ => s.record .hostPacket s.core.quantum) r.1
  State.tick { t with net := { t.net with
    waiting := r.2.filter (fun p => !own p) ++ kept
    flight := (if Config.receiverPlaces s.fresh then [] else others) ++ r.2.filter own } }

/-- Every waiting instruction tests its condition again; a shared request has its service (R402, R403). -/
def State.testAgain (s : State) : State :=
  match s.run.stall with
  | some w =>
    if quantumWait w then
      { s with run := { s.run with stall := none, served := s.run.served || w == .quantum || w == .bwait } }
    else s
  | none => s

/-- QUANTUM_END: the partition serves the requests of the quantum in the order of R403, and the next one begins. Log entries
65 (DEDUCED), 130 (DEDUCED). -/
def State.quantumEnd (s : State) : State :=
  if s.det && s.atQuantumEnd && s.hostReady && !s.replayStalls .hostPacket then
    let host := s.hostWaiting
    let s := s.serveAdds
    let s := { s with core := { s.core with quantum := s.core.quantum + 1, qstart := s.run.ctx.lic } }
    (s.placeHeld host.1 host.2).bindHeld.testAgain
  else s

/-- The quantum ends here if the core's own side gives it something to serve (R403). Log entry 65 (DEDUCED). -/
def State.quantumTurn (s : State) : State := if s.toServe then s.quantumEnd else s

/-! ### Pre-emption (R407) -/

/-- The abort that a pre-emption makes, with its record (R407, R458): no fault forces it, so the replay log has no entry. Log
entry 85 (DEDUCED). -/
def State.preemptAbort (s : State) : State := (s.traceAct kABORT (body2 cPREEMPT s.run.snap.pc.toNat)).abort

/-- A wait ends; a contribution that still waits at its source goes with it (R449). -/
def Run.endWaits (r : Run) : Run := { r with stall := none, waited := 0, watch := none, redst := r.redst.filter (·.added) }

/-- Ends the wait of the running instruction as R407 says of each; it runs again on resume. Of an `idle` R148 says that it ends
and the request is met at the boundary after it, R407 that it runs again: which is free. Log entry 85 (DEDUCED). -/
def State.stopWait (s : State) : State :=
  match s.run.stall with
  | some .speculation => s.preemptAbort
  | some .placement => { s with run := { s.run with stall := none, served := true } }
  | some .bwait => { s with run := { s.run.endWaits with served := false } }
  | some .idle =>
    if Config.idleEnds s.fresh then (s.retireTo (s.run.ctx.pc + 4)).tick
    else State.tick { s with run := { s.run.endWaits with idleDone := false } }
  | _ => { s with run := s.run.endWaits }

/-- The core halts at an instruction boundary. Log entry 85 (DEDUCED). -/
def State.haltNow (s : State) : State :=
  let s := s.stopWait
  { s with core := { s.core with halt := some .preempt, stopAt := none } }

/-- Whether the instruction has had an effect that an abort must not repeat: packets of a `sendw`, a contribution that is
applied (R92, R449). -/
def State.committed (s : State) : Bool := s.run.sent.isSome || s.contributed

/-- Whether a request meets an instruction that runs, not a wait, the drain of an end or of a park (R407, R413), or one that has
had its effect. Log entry 85 (DEDUCED). -/
def State.busy (s : State) : Bool :=
  s.run.act.isSome && s.run.stall.isNone && !s.run.retiring && s.run.parking.isNone && !s.committed

/-- PREEMPT: the core halts at an instruction boundary: the present one, the one that the next instruction reaches or stops at,
or, if that would be too late, the last checkpoint, which is free. With `flight`, the reply to an atomic is still on its way
(R388). Log entries 11 (DEDUCED), 85 (DEDUCED). -/
def State.preempt (s : State) (flight : Bool) : State :=
  if s.core.halt.isSome || s.core.stopAt.isSome then s
  else
    let s := if flight then s else { s with run := { s.run with owed := none } }
    if s.busy then
      let t := s.tick
      match Config.stopChoice s.fresh with
      | 0 => t.haltNow
      | 1 => t.preemptAbort.haltNow
      | _ => { t with core := { t.core with stopAt := some (Config.stopGroups s.fresh) } }
    else s.haltNow

/-- A pre-emption that came within the instruction just run takes effect (R161, R407). Log entry 85 (DEDUCED). -/
def State.settlePreempt (s : State) : State :=
  match s.core.stopAt, s.core.halt with
  | none, _ => s
  | some _, none => s.haltNow
  | some _, some _ => { s with core := { s.core with stopAt := none } }

/-! ### Contexts (R96, R408, R409) -/

/-- The addresses of the scratchpad that a live-range record names; without a record, all of it (R57, R96). -/
def liveAddrs (r : Option LiveRec) : List Nat :=
  match r with
  | none => List.range Config.spSize
  | some v => v.ranges.flatMap (fun (p : Nat × Nat) => (List.range (64 * p.2)).map (fun i => 64 * p.1 + i))

/-- The scratchpad bytes that a context holds. -/
def State.liveBytes (s : State) : ByteMap :=
  (liveAddrs s.run.snap.live).foldl (fun m a => ByteMap.set m a (s.die.mem.get (s.spA a))) []

/-- Writes the buffered entries of the tape to memory before its context is saved (R263); the walks come first. -/
def State.spillTape (s : State) : State :=
  let t := s.core.tape
  let s := (List.range (s.top - t.dirty)).foldl (fun s (k : Nat) => s.ensureTlb (s.tapeVa (t.dirty + k)) .write) s
  match s.spillAll with
  | .ok s => s
  | .error _ => s

/-- The tags that the homes hold of the running ordered activation, as other activations meet them (R102). Log entry
89 (DEDUCED). -/
def State.runTags (s : State) : List LineTag :=
  s.ownTags ++ (if s.speculative then s.run.readTags.map (fun l => ⟨s.ownKey, l, false, [], s.run.deps⟩) else [])

/-- CONTEXT_SAVE: the halted activation's context goes to firmware memory, and the core is free for other work. Log entry
89 (DEDUCED). -/
def State.saveContext (s : State) : State :=
  match s.run.act with
  | none => s
  | some a =>
    if s.core.halt = some .preempt then
      let s := s.spillTape
      let v : SavedCtx :=
        ⟨s.run, s.core.tvec, s.core.enc, s.core.wb, s.core.wbad, s.core.tape, s.core.chans, s.liveBytes, false⟩
      let s := { s with die := { s.die with tags := s.die.tags ++ s.runTags } }
      let s := s.cancelCommands a.serial
      State.unhalt { s with saved := s.saved ++ [v], run := { Run.reset with
        ctx := s.run.ctx, snap := s.run.ctx, path := s.run.path.leave } }
    else s

/-- A channel of a resumed context: its own commands go on where they stood, after those that another activation has left there,
and STATUS is the saved one (R364, R408). Log entry 89 (DEDUCED). -/
def resumeChan (owner : Nat) (cur old : Chan) : Chan :=
  let own := old.halted.filter (fun c => c.owner == owner)
  let c := if cur.queue.isEmpty then cur.withQueue own else { cur with queue := cur.queue ++ own }
  { c with funit := old.funit, fcause := old.fcause, oor := old.oor, fl := old.fl }

/-- The scratchpad of a resumed context: the live bytes return, and every other byte holds any value (R96, R409). Log entry
89 (DEDUCED). -/
def State.restoreBytes (s : State) (live : ByteMap) : State :=
  let mem := (List.range Config.spSize).foldl (fun m (a : Nat) =>
    m.set (s.spA a) ((live.find a).getD (Config.lostByte s.fresh a))) s.die.mem
  State.tick { s with die := { s.die with mem := mem, stale := s.die.stale.filter (fun b => !s.ownSp b.addr) } }

/-- A resumed activation waits first for its outstanding acknowledgements (R409). -/
def Run.awaitAcks (r : Run) : Run := if r.acks = 0 then r else { r with stall := some .acks }

/-- The count of the core's `sigx` since the launch, which goes on whichever activation runs (R448). -/
def Run.withSigk (r : Run) (k : Nat) : Run := { r with ctx := { r.ctx with sigk := k }, snap := { r.snap with sigk := k } }

/-- The homes no longer hold the tags of a saved activation as another's. Log entry 89 (DEDUCED). -/
def State.takeTags (s : State) (v : SavedCtx) : State :=
  { s with die := { s.die with tags := s.die.tags.filter (fun t => t.key != v.key s) } }

/-- Takes up saved context `i`, on a core that has its kernel installed (R409). One that an ordering conflict has struck restarts
(R102). Log entry 89 (DEDUCED). -/
def State.takeContext (s : State) (i : Nat) (v : SavedCtx) : State :=
  match v.run.act with
  | none => s
  | some a =>
    if s.net.kernels.any (fun k => k.ksel == a.ksel && k.part == a.part) then
      let s := (s.takeTags v).restoreBytes v.bytes
      let s := State.joinStreams { s with
        saved := s.saved.eraseIdx i
        run := v.run.awaitAcks.withSigk s.run.ctx.sigk
        core := { s.core with
          tvec := v.tvec, enc := v.enc, wb := v.wb, wbad := v.wbad, tape := v.tape
          chans := s.core.chans.zipWith (resumeChan a.serial) v.chans } }
      if v.doomed then s.ordAbort else s
    else s

/-- CONTEXT_RESUME: the halted activation goes on in place, or saved context `i` returns to a free core. -/
def State.resumeContext (s : State) (i : Nat) : State :=
  if s.pkg.thermalHold then s
  else match s.core.halt with
    | some .preempt => State.unhalt { s with run := s.run.awaitAcks }
    | some _ => s
    | none =>
      if s.run.act.isSome then s
      else match s.saved[i]? with
        | some v => s.takeContext i v
        | none => s

/-! ### Parked activations (R411, R412) -/

/-- Retires an activation that is not on the core: its windows and streams are released (R116). -/
def State.retireSaved (s : State) (v : Saved) : State :=
  let run := s.run
  let t := State.retireAct { s with run := { Run.reset with
    act := some v.act, ctx := v.snap, snap := v.snap, streams := v.streams } }
  { t with run := run }

/-- The activation kept in place parks once there is room (R412). -/
def State.parkInPlace (s : State) : State :=
  match s.inPlace with
  | some r => State.park { s with inPlace := none } r
  | none => s

/-- PARKED_ACTIVATION_RETURN: the firmware returns activation `i` to the head of its queue, or retires it and reports its fault
to the host (R321). One kept in place counts after the parked ones, and starts again from its snapshot. Log entry
110 (DEDUCED). -/
def State.returnParked (s : State) (i : Nat) (retire : Bool) : State :=
  match s.parked[i]?, s.inPlace with
  | some p, _ =>
    let s := { s with parked := s.parked.eraseIdx i }
    let s := if retire then (s.report (.programFault p.fault)).retireSaved p.saved
      else s.enqueue ⟨p.slot, p.saved.act.prio, p.arrival, 0, none, .returned p.saved⟩
    s.parkInPlace
  | none, some r =>
    let s := { s with inPlace := none }
    if retire then (s.report (.programFault r)).retireAct else s.reissue s.run.snap.reissue
  | none, none => s

/-! ### Partitions (R390, R410) -/

/-- What stays with the physical core when its partition changes: TLBs, instruction cache, RETIRED and counters. Log entry
88 (DESIGN CHOICE). -/
def CoreSt.keep (new old : CoreSt) : CoreSt :=
  { new with
    itlb := old.itlb, dtlb := old.dtlb, tlb := old.tlb, pages := [], icache := old.icache, codeOld := old.codeOld
    retired := old.retired, pm := old.pm, pmsel := old.pmsel
    pmActive := old.pmActive, pmctl := old.pmctl, pmOn := old.pmOn, pmLeft := old.pmLeft }

/-- The state of the core as its partition leaves it. Log entry 88 (DESIGN CHOICE). -/
def State.leavePartition (s : State) : SwitchedCore where
  part := s.pkg.part
  det := s.pkg.det
  quant := s.pkg.quant
  cores := s.pkg.cores
  me := s.pkg.me
  saved := s.saved
  run := s.run
  pairs := s.die.pairs
  core := s.core
  net := s.net
  parked := s.parked
  inPlace := s.inPlace
  dset := ⟨s.dbg.enables, s.dbg.hold, s.dbg.replayFull⟩

/-- A core that a partition takes up for the first time: the cores of the descriptor are those the part has. Log entry
3 (DESIGN CHOICE). -/
def State.newPartition (s : State) (part : BitVec 16) : SwitchedCore where
  part := part
  det := false
  quant := 4096
  cores := s.pkg.cores
  me := s.pkg.me
  saved := []
  run := Run.reset
  pairs := []
  core := CoreSt.reset
  net := Net.reset
  parked := []
  inPlace := none
  dset := ⟨0, false, 0⟩

/-- Loads the state that a partition left. Log entry 88 (DESIGN CHOICE). -/
def State.enterPartition (s : State) (v : SwitchedCore) : State :=
  { s with
    run := v.run
    core := v.core.keep s.core
    net := v.net
    saved := v.saved
    parked := v.parked
    inPlace := v.inPlace
    dbg := { s.dbg with enables := v.dset.enables, hold := v.dset.hold, replayFull := v.dset.replayFull }
    die := { s.die with pairs := v.pairs }
    pkg := { s.pkg with part := v.part, det := v.det, quant := v.quant, cores := v.cores, me := v.me } }

/-- PARTITION_SWITCH: the core is halted and its context saved; then everything of its partition changes together. -/
def State.switchPartition (s : State) (part : BitVec 16) : State :=
  if (s.run.act.isSome && s.core.halt != some .preempt) || s.pkg.thermalHold then s
  else
    let s := s.saveContext
    if s.run.act.isSome || part = s.pkg.part then s
    else
      let s := { s with core := { s.core with halt := none } }
      let next := (s.pkg.switched.find? (fun v => v.part == part)).getD (s.newPartition part)
      let kept := s.pkg.switched.filter (fun v => v.part != part)
      State.enterPartition { s with pkg := { s.pkg with switched := kept ++ [s.leavePartition] } } next

/-! ### The slot table (R397 to R399) -/

/-- Whether a record names this core. -/
def State.names (s : State) (r : SlotRecord) : Bool :=
  r.clusters.getLsbD (s.phys.toNat / 16 % 64) && r.cores.getLsbD (s.phys.toNat % 16)

/-- The bind entry of a record (R398). -/
def bindEntryOf (r : SlotRecord) : BindEntry := ⟨r.entry, true, r.ksel, r.part, r.prio, r.tag⟩

/-- The record at an index, if it is in force here. -/
def State.recordAt (s : State) (idx : BitVec 10) : Option SlotRecord :=
  match assoc idx s.die.slotTable with
  | some r => if r.valid && s.names r then some r else none
  | none => none

/-- The status of a write (R398): the observed core's answer, or `others`, that of the other named cores. Log entry
91 (DEDUCED). -/
def State.writeStatus (s : State) (idx : BitVec 10) (r : SlotRecord) (others : Nat) : Nat :=
  let mine := (s.recordAt idx).map (·.tag)
  let own :=
    if !s.names r then 0
    else if r.part != s.pkg.part then 3
    else if (s.bindOf r.tag).isSome && mine != some r.tag then 2
    else if s.net.binds.toList.all (·.valid) then 1
    else 0
  if !r.valid || r.tag = 0xFFFF then 0 else if own = 0 then others else own

/-- SLOT_RECORD_WRITE: dispatch removes the old bind entry and installs the new one, or nothing (R398, R399). Log entry
91 (DEDUCED). -/
def State.writeRecord (s : State) (idx : BitVec 10) (r : SlotRecord) (others : Nat) : State :=
  let st := s.writeStatus idx r others
  let s := s.report (.slotStatus idx (BitVec.ofNat 2 st))
  if st != 0 then s
  else
    let s := match s.recordAt idx with
      | some old => if r.valid && s.names r && r.tag == old.tag then s else s.dropBinds (fun e => e.tag == old.tag)
      | none => s
    let s := { s with die := { s.die with slotTable := assocSet idx r s.die.slotTable } }
    if r.valid && s.names r && r.tag != 0xFFFF then
      let s := s.installBind (bindEntryOf r)
      if s.det then s else s.bindHeld
    else s

/-! ### Installing and removing a kernel (R394, R399, R416, R447) -/

/-- Whether two adjacent regions make a pair (R416). -/
def regionsPair (plain turned : Region) : Bool :=
  !plain.t && plain.bytes == turned.bytes && plain.fmt == turned.fmt && plain.psize == turned.psize &&
    pairFmt turned.fmt.toNat

/-- Whether every region with `t` follows its plain copy. Log entry 90 (DESIGN CHOICE). -/
def pairsOk : Option Region → List Region → Bool
  | _, [] => true
  | prev, r :: rs =>
    (!r.t || (match prev with
      | some p => regionsPair p r
      | none => false)) && pairsOk (some r) rs

/-- The bytes of a page size code (R331). -/
def pageBytes (p : BitVec 2) : Nat := if p = 0 then 65536 else if p = 1 then 2 ^ 21 else 2 ^ 30

/-- The granules of a region, rounded up to whole pages. -/
def Region.granules (r : Region) : Nat :=
  let z := pageBytes r.psize
  (r.bytes.toNat + (z - 1)) / z * (z / 65536)

/-- The pair table that regions give: both directions, granule by granule (R416). -/
def pairTable : List Region → List (Word × Word)
  | p :: r :: rs =>
    (if r.t then (List.range (Region.granules r)).flatMap (fun (g : Nat) =>
      [(p.vbase + word (65536 * g), r.vbase + word (65536 * g)), (r.vbase + word (65536 * g), p.vbase + word (65536 * g))])
    else []) ++ pairTable (r :: rs)
  | _ => []

/-! What an image says (R55 to R57, R331, R425). -/

/-- Bytes `lo` on of a section, `n` of them, as a number. -/
def sectionNat (bs : List Byte) (lo n : Nat) : Nat := natOfBytes ((bs.drop lo).take n)

/-- CAP and ORD of a region's ATTR with its OWNER (R331). -/
def attrCap (attr : Nat) : Cap :=
  match attr / 2 ^ 10 % 4 with
  | 0 => .excl (BitVec.ofNat 34 (attr / 2 ^ 30))
  | 1 => .shared
  | 2 => .sync
  | _ => .reduce (attr / 2 ^ 12 % 2 == 1)

/-- The region of the 32-byte entry at an offset of the data section (R331), with what the firmware gives it; one on a storage
window is SHARED (R425). -/
def regionAt (data : List Byte) (off : Nat) (entry : Word) (given : Word × Bool) : Region :=
  let attr := sectionNat data (off + 16) 8
  { entry := entry
    vbase := given.1
    bytes := word (sectionNat data (off + 8) 8)
    fmt := BitVec.ofNat 4 attr
    g := BitVec.ofNat 4 (attr / 2 ^ 4)
    t := attr / 2 ^ 8 % 2 == 1
    ad := attr / 2 ^ 9 % 2 == 1
    cap := if given.2 then .shared else attrCap attr
    psize := BitVec.ofNat 2 (attr / 2 ^ 13)
    cal := attr / 2 ^ 15 % 2 == 1
    calw := attr / 2 ^ 16 % 2 == 1
    storage := given.2 }

/-- The regions of an install, in the order of the region table (R331). -/
def KernelPlan.regions (k : KernelPlan) : List Region :=
  (k.image.regions.zip k.bases).map (fun p => regionAt k.image.data p.1 (k.dataBase + word p.1) p.2)

/-- The image exactly as delivered, in the order of R425; a live-range record is its code offset, its count of words and its
words, four bytes each. Log entry 90 (DESIGN CHOICE). -/
def KernelImage.bytes (i : KernelImage) : List Byte :=
  i.code ++ i.data ++ i.handlers.flatMap (fun h => bytesOf 8 h.toNat) ++
    i.live.flatMap (fun r => bytesOf 4 r.1 ++ bytesOf 4 r.2.length ++ r.2.flatMap (fun w => bytesOf 4 w.toNat)) ++
    i.regions.flatMap (fun o => (i.data.drop o).take 32)

/-- The measurement of an image (R425). Log entry 90 (DESIGN CHOICE). -/
def KernelImage.digest (i : KernelImage) : List Byte := shake256 (KernelImage.bytes i) 64

/-- Why an install is refused: 1 a broken pair, 2 a tape that another installed kernel has placed, 3 no free kernel entry
(R118), 4 a digest that the host did not name (R425). Log entry 90 (DESIGN CHOICE). -/
def State.installRefusal (s : State) (k : KernelPlan) : Option Nat :=
  if !pairsOk none (KernelPlan.regions k) then some 1
  else if k.tape.isSome && s.net.kernels.any (·.tape) then some 2
  else if s.net.kernels.any (fun v => v.ksel == k.ksel) then some 3
  else if KernelImage.digest k.image != k.named then some 4
  else none

/-! What the firmware derives from an image (R56, R57, R118, R260). -/

/-- The label of a handler-table entry: its offset from the code section (R56). -/
def KernelPlan.label (k : KernelPlan) (h : BitVec 64) : Word := k.code + word (fieldOf h 32 32)

/-- The route tag of a handler-table entry (R56). -/
def handlerTag (h : BitVec 64) : BitVec 16 := h.setWidth 16

/-- The trap vector: the handler of tag 0xFFFF, or 0 (R118). -/
def KernelPlan.vector (k : KernelPlan) : Word := ((k.image.handlers.find? (fun h => handlerTag h == 0xFFFF)).map (KernelPlan.label k)).getD 0

/-- The priority that the install request names for a tag, or 0 (R56). -/
def KernelPlan.prio (k : KernelPlan) (t : BitVec 16) : BitVec 2 := (assoc t k.prios).getD 0

/-- The handlers that get bind records: none is made for tag 0xFFFF (R118). -/
def KernelPlan.bound (k : KernelPlan) : List (BitVec 64)  := k.image.handlers.filter (fun h => handlerTag h != 0xFFFF)

/-- The bind records, at the places of the slot table that the firmware chooses (R56, R397). -/
def KernelPlan.records (k : KernelPlan) : List (BitVec 10 × SlotRecord) :=
  (k.places.zip (KernelPlan.bound k)).map (fun p => (p.1,
    ⟨KernelPlan.label k p.2, k.clusters, k.cores, true, k.ksel, k.part, KernelPlan.prio k (handlerTag p.2), handlerTag p.2⟩))

/-- The live-range records (R57). -/
def KernelPlan.liveRecs (k : KernelPlan) : List LiveRec  := k.image.live.map (fun r => liveRec (k.code + word r.1) r.2)

/-- T: the resident bytes of a tape area (R260). -/
def TapePlan.resident (t : TapePlan) : Nat := (t.bytes + 65535) / 65536 * 65536
/-- TSPAN (R260). -/
def TapePlan.span (t : TapePlan) : Nat := 16 * TapePlan.resident t
/-- LIMIT (R260). -/
def TapePlan.limit (t : TapePlan) : Nat := (TapePlan.resident t - 64) / 16
/-- Lmax (R260). -/
def TapePlan.lmax (t : TapePlan) : Nat := min ((TapePlan.span t - 64) / 16) (2 ^ 32 - 1)
/-- TA of logical core `c` (R260). -/
def TapePlan.area (t : TapePlan) (c : Nat) : Word := t.base + word (c * TapePlan.span t)

/-! What the tables must map (R317, R331, R394). -/

/-- The virtual addresses of the granules of `n` bytes from `a` on. -/
def granuleVas (a : Word) (n : Nat) : List Word := (List.range ((n + 65535) / 65536)).map (fun i => a + word (65536 * i))

/-- The translations of granules as the tables give them; none if one of them does not translate. -/
def State.entriesOf (s : State) (vas : List Word) : Option (List TlbEntry) :=
  vas.mapM (fun v => (s.walkEntry v).toOption)

/-- A granule of a section: R, U and X as given, no W, format 0, no AD (R394). -/
def sectionEntry (x : Bool) (e : TlbEntry) : Bool :=
  (e.r1 && e.r2) && (e.u1 && e.u2) && !(e.w1 && e.w2) && (e.x1 && e.x2) == x && e.fmt == 0 && !e.ad

/-- A granule of a region: the attributes of its entry and its place (R331); a storage window lies in another package (R425). -/
def State.regionEntry (s : State) (r : Region) (e : TlbEntry) : Bool :=
  let cal := calHomeOf ((s.physOf 0).getD 0) 0
  e.fmt == r.fmt && e.g == r.g && e.t == r.t && e.ad == r.ad && e.fpage == pageBytes r.psize &&
    (if r.storage then s.remote e.pa
     else if r.cal then decide (cal ≤ e.pa) && decide (e.pa < cal + 2 ^ 30) else isHbm e.pa)

/-- The virtual addresses of the granules of the sections (R394). -/
def KernelPlan.codeVas (k : KernelPlan) : List Word := granuleVas k.code k.image.code.length
def KernelPlan.dataVas (k : KernelPlan) : List Word := granuleVas k.dataBase k.image.data.length

/-- The virtual addresses of a region's granules. -/
def Region.vas (r : Region) : List Word := granuleVas r.vbase (65536 * Region.granules r)

/-- Whether all entries of granules pass a test. -/
def State.mapped (s : State) (vas : List Word) (p : TlbEntry → Bool) : Bool := ((s.entriesOf vas).map (·.all p)).getD false

/-- Whether the tables map what the plan says: its sections, its regions, its tape images and the resident part of its tape area;
the base of a caldera table is a multiple of 64 (R223). The firmware makes no other plan. Log entry 90 (DESIGN CHOICE). -/
def State.planOk (s : State) (k : KernelPlan) : Bool :=
  decide ((KernelPlan.bound k).length ≤ k.places.length) &&
    k.code.toNat % 65536 == 0 && k.dataBase.toNat % 65536 == 0 && k.bases.length == k.image.regions.length &&
    s.mapped (KernelPlan.codeVas k) (sectionEntry true) &&
    s.mapped (KernelPlan.dataVas k) (sectionEntry false) &&
    (KernelPlan.regions k).all (fun r => s.mapped (Region.vas r) (s.regionEntry r)) &&
    k.tables.all (fun t => t.2.toNat % 64 == 0) &&
    (match k.tape with
      | none => true
      | some t => s.mapped t.tables (fun _ => true) &&
          s.mapped (granuleVas (TapePlan.area t s.pkg.me) (TapePlan.resident t)) (fun e => e.r1 && e.r2 && e.w1 && e.w2))

/-- The firmware writes bytes at a virtual address, if it translates. -/
def State.installBytes (s : State) (va : Word) (bs : List Byte) : State :=
  match s.walkEntry va with
  | .ok e => { s with die := { s.die with mem := s.die.mem.put (e.physical va) bs } }
  | .error _ => s

/-- The bytes of a section stand in memory, granule by granule (R394). -/
def State.installSection (s : State) (bs : List Byte) (vas : List Word) : State :=
  (List.range vas.length).foldl (fun s i => s.installBytes (vas.getD i 0) ((bs.drop (65536 * i)).take 65536)) s

/-- Both sections, and over them the values that the firmware fills in at install: VBASE of each region (R331) and BASE of each
caldera table (R223). -/
def State.installSections (s : State) (k : KernelPlan) : State :=
  let s := (s.installSection k.image.code (KernelPlan.codeVas k)).installSection k.image.data (KernelPlan.dataVas k)
  let s := (KernelPlan.regions k).foldl (fun s r => s.installBytes r.entry (bytesOf 8 r.vbase.toNat)) s
  k.tables.foldl (fun s (t : Nat × BitVec 30) => s.installBytes (k.dataBase + word t.1) (bytesOf 8 t.2.toNat)) s

/-- The capabilities of granules (R331, R394); a caldera has none (R311). -/
def State.giveCaps (s : State) (cap : Cap) (vas : List Word) : State :=
  ((s.entriesOf vas).getD []).foldl (fun s e => if isHbm e.pa then s.changeCap e.pa cap e.fmt else s) s

/-- The frames that the firmware creates for a differentiable granule hold +0 (R256, R260); frames of either kind take the state
of the page that they serve (R29, R256). -/
def State.giveFrames (s : State) (e : TlbEntry) : State :=
  let s := s.bindFrames e
  if e.ad then
    { s with die := { s.die with mem := s.die.mem.filter (fun c => !e.frames.contains (c.1 / 65536 * 65536)) } }
  else s

/-- The granules that addresses map to. -/
def State.granulesAt (s : State) (vas : List Word) : List Nat := ((s.entriesOf vas).getD []).map (fun e => e.pa / 65536)

/-- The granules of some regions. -/
def State.granulesOf (s : State) (rs : List Region) : List Nat := rs.flatMap (fun r => s.granulesAt (Region.vas r))

/-- The access-table entries that the firmware gives a kernel's cores: in HBM, those of a caldera follow R314 (R322). -/
def accessOf (k : KernelPlan) : List AccessEntry :=
  k.access.filter (fun e => isHbm e.addrLo && isHbm e.addrHi && e.addrLo / 2 ^ 42 == e.addrHi / 2 ^ 42)

/-- What the core keeps of a kernel as its tables map it (R40, R57, R314, R322, R336). -/
def State.kernelOf (s : State) (k : KernelPlan) : Kernel where
  ksel := k.ksel
  part := k.part
  live := KernelPlan.liveRecs k
  digest := KernelImage.digest k.image
  caldera := s.granulesOf ((KernelPlan.regions k).filter (·.cal))
  access := accessOf k
  tape := k.tape.isSome
  calw := s.granulesOf ((KernelPlan.regions k).filter (·.calw))
  granules := s.granulesAt (KernelPlan.codeVas k ++ KernelPlan.dataVas k) ++
    s.granulesOf ((KernelPlan.regions k).filter (fun r => !r.cal && !r.storage))
  code := s.granulesAt (KernelPlan.codeVas k)
  codeEnd := k.code.toNat + k.image.code.length

/-- A change of the access tables drops the translations that it touches: those of the entries, and those of the caldera
granules that a kernel maps (R314, R322). -/
def State.dropAccess (s : State) (v : Kernel) : State :=
  s.dropTlb (fun t => v.access.any (fun e => decide (e.addrLo ≤ t.pa + 65535) && decide (t.pa ≤ e.addrHi)) ||
    v.caldera.contains (t.pa / 65536))

/-- The tables of a plan stand in memory, under the roots of the core. -/
def State.loadPlan (s : State) (k : KernelPlan) : State :=
  { s with
    die := { s.die with mem := k.writes.foldl (fun m (p : Nat × Byte) => m.set p.1 p.2) s.die.mem }
    core := { s.core with root1 := k.root1, root2 := k.root2, asid := k.asid } }

/-- Steps 1 and 2: memory, capabilities, frames, access rights, pairs, the kernel table (R118, R314, R331, R394, R416). Log
entry 90 (DESIGN CHOICE). -/
def State.installMaps (s : State) (k : KernelPlan) (v : Kernel) : State :=
  let rs := KernelPlan.regions k
  let s := (s.installSections k).giveCaps .shared (KernelPlan.codeVas k ++ KernelPlan.dataVas k)
  let s := rs.foldl (fun s r => ((s.entriesOf (Region.vas r)).getD []).foldl State.giveFrames (s.giveCaps r.cap (Region.vas r))) s
  let s := { s with
    die := { s.die with access := s.die.access ++ v.access, pairs := s.die.pairs ++ pairTable rs }
    net := { s.net with ktab := s.net.ktab.set k.ksel.toFin (KernelPlan.vector k) } }
  s.dropAccess v

/-- The tape areas as an install places them (R259, R260): the images, the descriptors of every core, and the core's own tape.
Log entry 90 (DESIGN CHOICE). -/
def State.installTape (s : State) (k : KernelPlan) : State :=
  match k.tape with
  | none => s
  | some t =>
    let s := t.tables.foldl (fun s a => s.installBytes a (bytesOf 8 t.base.toNat ++ bytesOf 8 (TapePlan.span t))) s
    let s := (List.range s.ncores).foldl (fun s c => s.installBytes (TapePlan.area t c) (bytesOf 8 (TapePlan.limit t))) s
    State.withTop { s with core := { s.core with tape := ⟨TapePlan.area t s.pkg.me, 0, TapePlan.limit t, TapePlan.lmax t, 0, 0, []⟩ } } 0

/-- Step 3 on a core without another kernel: the encoder with LAST, the weight buffer, the tape, LINKDIR, channel STATUS, and the
counts since install (R207, R394, R448, R457, R462). -/
def State.installCore (s : State) : State :=
  { s with
    run := { s.run with ctx := { s.run.ctx with top := 0, last := 0 } }
    core := { s.core with
      enc := Enc.reset, wb := [], tape := Tape.reset, linkdir := 0
      chans := s.core.chans.map (fun v => { v with funit := 0, fcause := 0, oor := 0, fl := 0 })
      serial := 0, place := 0 } }

/-- Step 3 on a cluster without another kernel: the link queues and the sync scratch. -/
def State.installCluster (s : State) : State :=
  let lo := s.csA 0
  { s with
    net := { s.net with inPrev := [], inNext := [], outNext := [], outPrev := [] }
    die := { s.die with mem := s.die.mem.filter (fun c => decide (c.1 < lo) || decide (lo + Config.csSize ≤ c.1)) } }

/-- The start of a signature (R447). -/
def State.startSignature (s : State) (k : KernelPlan) : State :=
  { s with
    run := { s.run with ctx := { s.run.ctx with sigk := 0 } }
    pkg := { s.pkg with
      sigDigest := KernelImage.digest k.image, sigInputs := k.inputs, sigRecords := []
      sigSeeds := if k.launch.isSome then [] else [s.run.ctx.seed]
      sigLaunch := k.launch.map (fun p => { p.1 with kind := 3, dest := s.lcore }) } }

/-- At the launch of the partition's first kernel LIC, Q and QSTART are 0 (R401). Log entry 90 (DESIGN CHOICE). -/
def State.firstLaunch (s : State) : State :=
  if s.core.launched then s
  else { s with
    run := { s.run with ctx := { s.run.ctx with lic := 0 } }
    core := { s.core with quantum := 0, qstart := 0, launched := true } }

/-- KERNEL_INSTALL: the five steps in order (R394); the firmware clears IFSTAT (R462). Log entry 90 (DESIGN CHOICE). -/
def State.install (s : State) (k : KernelPlan) : State :=
  if !s.pkg.booted || k.part != s.pkg.part || !(s.loadPlan k).planOk k then s
  else match s.installRefusal k with
    | some why => s.report (.installRefused why)
    | none =>
      let first := s.net.kernels.isEmpty
      let t := s.loadPlan k
      let v := t.kernelOf k
      let s := t.installMaps k v
      let s := if first then s.installCore else s
      let s := s.installTape k
      let s := if first && !k.clusterShared then s.installCluster else s
      let s := (KernelPlan.records k).foldl (fun s (r : BitVec 10 × SlotRecord) => s.writeRecord r.1 r.2 0) s
      let s := { s with
        net := { s.net with kernels := s.net.kernels ++ [v], malformed := 0, unboundCount := 0 }
        pkg := { s.pkg with images := s.pkg.images ++ [(k.part, k.ksel, v.digest)] } }
      let s := (s.startSignature k).firstLaunch
      let s := match k.launch with
        | none => s
        | some p => s.wakeArrives p.1 p.2 (some k.ksel)
      s.admitEarly.settleArrivals

/-- Whether an activation of a kernel runs, waits in a queue, is parked or saved. -/
def State.kernelBusy (s : State) (k : BitVec 4) : Bool :=
  (s.run.act.map (·.ksel)) == some k ||
    s.net.queue.any (fun q => match q.kind with
      | .fresh => ((s.slot q.slot).bound.map (·.ksel)) == some k
      | .yielded v => v.act.ksel == k
      | .returned v => v.act.ksel == k) ||
    s.parked.any (fun p => p.saved.act.ksel == k) ||
    s.saved.any (fun v => (v.run.act.map (·.ksel)) == some k)

/-- The barrier slots of a scope that are allocated to a kernel of the partition. -/
def State.slotsOf (s : State) (die : Bool) (k : BitVec 4) : List (BitVec 6) :=
  ((List.range (if die then 64 else 32)).map (BitVec.ofNat 6)).filter (fun i =>
    let v := s.barSlot die i
    v.used && v.part == s.pkg.part && v.ksel == k)

/-- Frees the barrier slots of a kernel (R295). -/
def State.freeSlotsOf (s : State) (k : BitVec 4) : State :=
  let t := (s.slotsOf false k).foldl (fun s i => s.freeBarSlot false i) s
  (s.slotsOf true k).foldl (fun s i => s.freeBarSlot true i) t

/-- The rights that stood for a kernel are withdrawn (R314, R322). -/
def State.withdrawAccess (s : State) (v : Kernel) : State :=
  State.dropAccess { s with die := { s.die with access := v.access.foldl List.erase s.die.access } } v

/-- The granules that only a kernel held are free: whole-granule poison ends (R336), and a frame that lay in them or served them
is a frame no longer (R29, R256). Log entry 31 (DEDUCED). -/
def State.freeGranules (s : State) (v : Kernel) : State :=
  let others := (s.installed.map Prod.fst).filter (fun k => !(k.ksel == v.ksel && k.part == v.part))
  let free := (v.granules ++ v.caldera).filter (fun g => !others.any (fun k => k.granules.contains g || k.caldera.contains g))
  let gone := fun (f : Nat × Nat) => free.contains f.2 || free.contains (f.1 / 2)
  { s with die := { s.die with
    gpoison := s.die.gpoison.filter (fun g => !free.contains g)
    scales := s.die.scales.filter (fun h => !(s.die.frames.any (fun f => f.1 == h && gone f)))
    frames := s.die.frames.filter (fun f => !gone f) } }

/-- KERNEL_REMOVAL: it waits while an activation of the kernel is left; then its records, its rights, the core's circuits and its
barrier slots go (R314, R399). -/
def State.remove (s : State) (k : BitVec 4) : State :=
  if s.kernelBusy k then s
  else
    let s := s.dropBinds (fun e => e.ksel == k && e.part == s.pkg.part)
    let gone := s.net.kernels.filter (fun v => v.ksel == k)
    let s := gone.foldl State.withdrawAccess s
    let s := gone.foldl State.freeGranules s
    let s := { s with
      pkg := { s.pkg with images := s.pkg.images.filter (fun i => !(i.1 == s.pkg.part && i.2.1 == k)) }
      die := { s.die with slotTable := s.die.slotTable.map (fun (p : BitVec 10 × SlotRecord) =>
        if p.2.ksel = k && p.2.part = s.pkg.part then (p.1, { p.2 with valid := false }) else p) }
      net := { s.net with kernels := s.net.kernels.filter (fun v => v.ksel != k), ktab := s.net.ktab.set k.toFin 0 } }
    s.closeAll.freeSlotsOf k

/-! ### Clocks and heat (R406, R427) -/

/-- A core clock that the firmware may set: 1.2 to 2.1 GHz in steps of 50 MHz. -/
def clockOk (mhz : Nat) : Bool := decide (1200 ≤ mhz) && decide (mhz ≤ 2100) && mhz % 50 == 0

/-- CLOCK_CHANGE: only time changes. -/
def State.setClock (s : State) (mhz : Nat) : State :=
  if clockOk mhz then { s with die := { s.die with mhz := mhz } } else s

/-- THERMAL_THROTTLE: the cluster's clock is lowered. -/
def State.throttle (s : State) (mhz : Nat) : State :=
  if mhz < s.die.mhz then State.setClock { s with pkg := { s.pkg with throttled := true } } mhz else s

/-- THERMAL_PREEMPTION: the core is pre-empted, its context saved, the host told; nothing runs until the die has cooled. A halt
that it meets, by the firmware or the debugger, is kept for then. Log entry 87 (DEDUCED). -/
def State.thermalStop (s : State) : State :=
  if s.pkg.thermalHold then s
  else
    let halt := s.core.halt
    let s := if halt.isSome then { s with core := { s.core with halt := some .preempt } } else s.haltNow
    let saved := s.run.act.isSome
    let s := s.saveContext
    State.report { s with
      core := { s.core with halt := some .preempt }
      pkg := { s.pkg with thermalHold := true, thermalHalt := halt, thermalSaved := saved } } .thermal

/-- THERMAL_RESUME: the context that the stop saved goes on, or stands halted as it stood before. Log entry 87 (DEDUCED). -/
def State.thermalGo (s : State) : State :=
  if s.pkg.thermalHold then
    let saved := s.pkg.thermalSaved
    let halt := s.pkg.thermalHalt
    let s := { s with
      core := { s.core with halt := none }
      pkg := { s.pkg with thermalHold := false, thermalHalt := none, thermalSaved := false } }
    let s := if saved then s.resumeContext (s.saved.length - 1) else s
    if halt.isSome then { s with core := { s.core with halt := halt } } else s.unhalt
  else s

/-- The bytes of a memory that has lost its power hold anything. Log entry 96 (DEDUCED). -/
def Memory.lost (m : Memory) (fresh : Nat) : Memory := m.foldl (fun m c => m.set c.1 (Config.lostByte fresh c.1)) m

/-- THERMAL_TRIP: power goes, every activation is lost, what memory held is undefined, and the host sees its link go down.
Log entry 96 (DEDUCED). -/
def State.trip (s : State) : State :=
  State.report { s with
    run := Run.reset, core := CoreSt.reset, net := Net.reset, saved := [], parked := [], inPlace := none
    die := { s.die with mem := Memory.lost s.die.mem s.fresh }
    pkg := { s.pkg with
      powered := false, booted := false, thermalHold := false, thermalHalt := none, thermalSaved := false
      throttled := false, switched := [] } } .linkDown

/-! ### Instructions and events -/


/-- `lclock` (R405). -/
def execLclock (d : Reg) (s : State) : Host.Outcome State Fault Refusal :=
  runBody 4 s (fun s => .ok (s.wr d s.logicalClock))

/-- PREEMPT (R407). -/
def execPreempt (flight : Bool) (s : State) : Host.Outcome State Fault Refusal :=
  .next (s.preempt flight)

/-- CONTEXT_SAVE (R408). -/
def execContextSave (s : State) : Host.Outcome State Fault Refusal :=
  .next s.saveContext

/-- CONTEXT_RESUME (R409). -/
def execContextResume (s : State) (i : Nat := 0) : Host.Outcome State Fault Refusal :=
  .next (s.resumeContext i)

/-- PARTITION_SWITCH (R410). -/
def execPartitionSwitch (part : BitVec 16) (s : State) : Host.Outcome State Fault Refusal :=
  .next (s.switchPartition part)

/-- PARKED_ACTIVATION_RETURN (R411). -/
def execParkedActivationReturn (i : Nat) (retire : Bool) (s : State) : Host.Outcome State Fault Refusal :=
  .next (s.returnParked i retire)

/-- KERNEL_INSTALL (R394). -/
def execKernelInstall (k : KernelPlan) (s : State) : Host.Outcome State Fault Refusal :=
  .next (s.install k)

/-- KERNEL_REMOVAL (R399). -/
def execKernelRemoval (ksel : BitVec 4) (s : State) : Host.Outcome State Fault Refusal :=
  .next (s.remove ksel)

/-- SLOT_RECORD_WRITE (R398). -/
def execSlotRecordWrite (idx : BitVec 10) (rec : SlotRecord) (s : State) (others : BitVec 2 := 0) :
    Host.Outcome State Fault Refusal :=
  .next (s.writeRecord idx rec others.toNat)

/-- QUANTUM_END (R403). -/
def execQuantumEnd (s : State) : Host.Outcome State Fault Refusal :=
  .next s.quantumEnd

/-- CLOCK_CHANGE (R406). -/
def execClockChange (mhz : Nat) (s : State) : Host.Outcome State Fault Refusal :=
  .next (s.setClock mhz)

/-- THERMAL_THROTTLE (R427). -/
def execThermalThrottle (mhz : Nat) (s : State) : Host.Outcome State Fault Refusal :=
  .next (s.throttle mhz)

/-- THERMAL_PREEMPTION (R427). -/
def execThermalPreemption (s : State) : Host.Outcome State Fault Refusal :=
  .next s.thermalStop

/-- THERMAL_RESUME (R427). -/
def execThermalResume (s : State) : Host.Outcome State Fault Refusal :=
  .next s.thermalGo

/-- THERMAL_TRIP (R427). -/
def execThermalTrip (s : State) : Host.Outcome State Fault Refusal :=
  .next s.trip

end Sys2Proof.Machine
end

