-- ==== Sys2Proof/Machine/Debug.lean ====
section
/-!
DEFINITION. Machine/Debug.lean: `mark`, the geyser tick, counter rotation, debug stops and breaks, PATCH and the replay log
(spec/23 R457 to R468).
-/

namespace Sys2Proof.Machine

/-! ### mark (R459) -/

/-- The body of a MARK record. -/
def State.markBody (s : State) (v : Word) (i : BitVec 15) : List Byte :=
  body2 v.toNat (i.toNat + s.run.ctx.lic % 2 ^ 48 * 2 ^ 16)

/-! ### The geyser tick (R463) -/

/-- The run state that a wait is. -/
def waitState : Wait → BitVec 4
  | .walk _ _ => 2
  | .migration => 2
  | .ring _ _ => 3
  | .engine _ => 3
  | .engineRoom _ => 3
  | .engines => 3
  | .matrix => 3
  | .matrixRoom => 3
  | .bwait => 4
  | .quantum => 5
  | .acks => 6
  | .hold => 6
  | .deferred => 6
  | .speculation => 6
  | _ => 9

/-- Whether the core is halted, by a stop for heat among others (R427, R463). -/
def State.isHalted (s : State) : Bool := s.core.halt.isSome || s.pkg.thermalHold

/-- What the observed core latches: an activation that is kept in place for its fault, or drains, issues nothing. -/
def State.latch (s : State) : GeyserCore :=
  match s.run.act with
  | none => ⟨0, 0, if s.isHalted then 7 else 0⟩
  | some a =>
    ⟨s.run.ctx.pc, a.tag, if s.isHalted then 7 else if s.inPlace.isSome then 9 else match s.run.stall with
      | some w => waitState w
      | none => if s.det && s.atQuantumEnd then 5 else if s.run.ctx.priv then 8 else 1⟩

/-- The cores of the observed core's die, by logical number. -/
def State.dieCores (s : State) : List Nat :=
  ((s.pkg.cores.zipIdx.filter (fun p => dieOf p.1 == dieOf s.phys)).map (·.2))

/-- Every core of the die in ascending logical order: the observed one among the others. Log entry 100 (DEDUCED). -/
def State.latches (s : State) (others : List GeyserCore) : List GeyserCore :=
  let k := (s.dieCores.filter (fun c => decide (c < s.pkg.me))).length
  others.take k ++ [s.latch] ++ others.drop k

/-- Runs of consecutive cores with equal latches, with their lengths. Log entry 100 (DEDUCED). -/
def runsOf : List GeyserCore → List (GeyserCore × Nat)
  | [] => []
  | c :: cs =>
    match runsOf cs with
    | (d, n) :: rs => if c = d then (d, n + 1) :: rs else (c, 1) :: (d, n) :: rs
    | [] => [(c, 1)]

/-- The sixteen bytes of a run entry. -/
def runEntry (r : GeyserCore × Nat) : List Byte :=
  bytesOf 16 (r.2 % 2 ^ 11 + r.1.state.toNat * 2 ^ 44 + r.1.tag.toNat * 2 ^ 48 + r.1.pc.toNat * 2 ^ 64)

/-- The header of a GEYSER record: the tick number, the first core of the die, no activation (R457). -/
def State.geyserHeader (s : State) : BitVec 256 :=
  BitVec.ofNat 256 (kGEYSER * 2 ^ 128 + s.dbg.gticks % 2 ^ 64 * 2 ^ 64 + s.dieCores.headD 0 * 2 ^ 30 +
    s.dbg.glost.toNat * 2 ^ 16)

/-- One tick, with what the other cores of the die latch. Log entry 98 (DESIGN CHOICE). -/
def State.geyserTick (s : State) (others : List GeyserCore) : State :=
  let s := { s with dbg := { s.dbg with gticks := s.dbg.gticks + 1, gdone := s.dbg.gdone + 1 } }
  let body := (runsOf (s.latches others)).flatMap runEntry
  if s.dbg.enables.getLsbD kGEYSER then
    if s.dbg.trace.length < s.dbg.traceCap then
      { s with dbg := { s.dbg with trace := s.dbg.trace ++ [⟨s.geyserHeader, body⟩], glost := 0 } }
    else { s with dbg := { s.dbg with glost := if s.dbg.glost = 16383 then 16383 else s.dbg.glost + 1 } }
  else s

/-- Whether a tick falls in the present die cycle and has not been made yet. Log entry 98 (DESIGN CHOICE). -/
def State.tickDue (s : State) : Bool := s.dbg.gperiod != 0 && s.cycle.toNat == s.dbg.gdone * s.dbg.gperiod

/-- GEYSER_TICK: the tick of the present die cycle, with what the other cores latch; there is one only in a multiple of GPERIOD.
Log entry 98 (DESIGN CHOICE). -/
def State.geyser (s : State) (others : List GeyserCore) : State := if s.tickDue then s.geyserTick others else s

/-- What the other cores of the die latch at a tick that no event brings: free. Log entry 98 (DESIGN CHOICE). -/
def State.freeLatches (s : State) : List GeyserCore :=
  (List.range (s.dieCores.length - 1)).map (fun c =>
    let v := Config.otherLatch s.fresh c
    if v.2.2 % 10 = 0 then ⟨0, 0, 0⟩ else ⟨v.1, v.2.1, BitVec.ofNat 4 (v.2.2 % 10)⟩)

/-- The ticks of the multiples of GPERIOD that time has passed: each falls in its die cycle. Log entry 98 (DESIGN CHOICE). -/
def State.passedTicks (s : State) : State :=
  if s.dbg.gperiod = 0 then s
  else (List.range ((s.cycle.toNat + (s.dbg.gperiod - 1)) / s.dbg.gperiod - s.dbg.gdone)).foldl
    (fun s _ => (s.geyserTick s.freeLatches).tick) s

/-! ### Counters (R460) -/

/-- COUNTER_ROTATE: the next event set becomes active, once the active one has had its ROTATE die cycles. Log entry
115 (DEDUCED). -/
def State.rotate (s : State) : State := { s with core := if s.core.rotateDue then s.core.rotate else s.core }

/-- Whether the core's waits and units can make events of a kind that counts cycles (R461): core cycles always; issue cycles
lost while an engine or the matrix unit works; its busy cycles; those of the vector unit while instructions issue; those stalled
on a load; those in `bwait`; and those that wait for a quantum's end. Log entry 115 (DEDUCED). -/
def State.makes (s : State) (e : Nat) : Bool :=
  let runs := s.run.act.isSome && s.run.stall.isNone && s.core.halt.isNone
  match e with
  | 1 => true
  | 6 => runs && (!s.run.mx.queue.isEmpty || s.core.chans.toList.any (fun c => !c.queue.isEmpty))
  | 7 => !s.run.mx.queue.isEmpty
  | 8 => runs
  | 14 => s.core.halt.isNone && s.run.act.isSome && (match s.run.stall with
    | none => true
    | some (.walk _ _) => true
    | some .migration => true
    | _ => false)
  | 15 => s.core.halt.isNone && s.run.stall == some .bwait
  | 16 => s.det && s.atQuantumEnd
  | _ => false

/-- The counts that time makes in a turn: how many cycles a unit is busy for is free. Log entry 115 (DEDUCED). -/
def State.countTime (s : State) : State :=
  ([1, 6, 7, 8, 14, 15, 16] : List Nat).foldl (fun s e => if s.makes e then s.count e (Config.eventTime s.fresh e) else s) s

/-- One turn takes one die cycle and a free number more, in which the counters count and the geyser ticks fall. Log entry
4 (DESIGN CHOICE). -/
def State.passStep (s : State) : State :=
  let t := (s.pass (1 + Config.stepTime s.fresh)).passedTicks
  State.tick (if s.core.pmOn then t.countTime else t)

/-! ### Stops, breaks, PATCH, the replay log (R464 to R468) -/

/-- A STOP record; bit 63 of its LIC word says whether the stop fell back to a checkpoint. -/
def State.traceStop (s : State) (fallback : Bool) : State :=
  s.traceAct kSTOP (body2 s.run.ctx.pc.toNat (s.run.ctx.lic % 2 ^ 63 + if fallback then 2 ^ 63 else 0))

/-- A core that is to stop halts once no activation runs. Log entry 99 (DEDUCED). -/
def State.settleStop (s : State) : State :=
  if s.core.stopping && s.run.act.isNone && s.core.halt.isNone then
    let s := s.traceStop false
    { s with core := { s.core with halt := some .stop, stopping := false } }
  else s

/-- The activation falls back to its last checkpoint and is held there: one that retires or is to park has aborted to it already
and is held so, and one whose instruction has had its effect stands behind the checkpoint before it (R92, R114, R407, R412). -/
def State.fallBack (s : State) : State :=
  if s.run.act.isNone then s
  else if s.run.retiring || s.run.parking.isSome || s.committed then s.stopWait
  else s.preemptAbort

/-- DEBUG_STOP: a request, which a halted core meets when it is resumed; or with `passed` its bound has passed, and the
activation falls back to its checkpoint, also on a core that a pre-emption or a break has halted. Log entry 99 (DEDUCED). -/
def State.debugStop (s : State) (passed : Bool) : State :=
  if s.core.halt = some .stop || s.pkg.thermalHold && passed then s
  else if passed then
    if s.core.stopping then
      let s := s.fallBack.traceStop s.run.act.isSome
      { s with core := { s.core with halt := some .stop, stopping := false, stopAt := none } }
    else s
  else State.settleStop { s with core := { s.core with stopping := true } }

/-- DEBUG_RESUME: issue goes on. -/
def State.debugResume (s : State) : State :=
  let s := { s with core := { s.core with stopping := false } }
  if s.core.halt = some .stop then s.unhalt else s

/-- BREAK_RESUME: invalidations apply, the line of the PC leaves the cache, and the core fetches from the PC again. -/
def State.breakResume (s : State) : State :=
  if s.core.halt = some .brk then (s.applyInvalidations.dropCode (s.run.ctx.pc.toNat / 64)).unhalt else s

/-- PATCH: one to sixteen words of one code line, written at its home past every log; the invalidation goes to every core and
waits at this one. Log entry 99 (DEDUCED). -/
def State.patch (s : State) (addr : Nat) (words : List (BitVec 32)) : State :=
  let n := words.length
  if addr % 4 = 0 && decide (1 ≤ n) && decide (addr % 64 + 4 * n ≤ 64) then
    match s.walkEntry (word addr) with
    | .error _ => s
    | .ok e =>
      let s := s.storeHome (ByteMap.put [] (e.physical (word addr)) (words.flatMap (fun w => bytesOf 4 w.toNat))) none
      { s with
        core := { s.core with inval := insertNat (addr / 64) s.core.inval }
        dbg := { s.dbg with patches := s.dbg.patches ++ [addr / 64] } }
  else s

/-- Every core has acknowledged the invalidation of the oldest PATCH, which completes: when is free (R466). Log entry
99 (DEDUCED). -/
def State.movePatches (s : State) : State :=
  match s.dbg.patches with
  | [] => s
  | l :: ls =>
    if Config.moves s.fresh 10 then State.report { s with dbg := { s.dbg with patches := ls } } (.patchDone l) else s

/-- REPLAY_LOG_DRAIN: the log goes to firmware memory, and logging may go on. -/
def State.drainReplay (s : State) : State :=
  let s := s.report (.replay s.dbg.replay)
  State.endWait { s with dbg := { s.dbg with replay := [], replayOff := false } } .replay

/-! ### Instructions and events -/


/-- `mark` (R459). -/
def execMark (d : Reg) (i : BitVec 15) (s : State) : Host.Outcome State Fault Refusal :=
  runBody 4 s (fun s => .ok (s.traceAct kMARK (s.markBody (s.rd d) i)))

/-- GEYSER_TICK (R463). -/
def execGeyserTick (others : List GeyserCore) (s : State) : Host.Outcome State Fault Refusal :=
  .next (s.geyser others)

/-- COUNTER_ROTATE (R460). -/
def execCounterRotate (s : State) : Host.Outcome State Fault Refusal :=
  .next s.rotate

/-- DEBUG_STOP (R464). -/
def execDebugStop (passed : Bool) (s : State) : Host.Outcome State Fault Refusal :=
  .next (s.debugStop passed)

/-- DEBUG_RESUME (R464). -/
def execDebugResume (s : State) : Host.Outcome State Fault Refusal :=
  .next s.debugResume

/-- BREAK_RESUME (R465). -/
def execBreakResume (s : State) : Host.Outcome State Fault Refusal :=
  .next s.breakResume

/-- PATCH (R466). -/
def execPatch (addr : Nat) (words : List (BitVec 32)) (s : State) : Host.Outcome State Fault Refusal :=
  .next (s.patch addr words)

/-- REPLAY_LOG_DRAIN (R468). -/
def execReplayLogDrain (s : State) : Host.Outcome State Fault Refusal :=
  .next s.drainReplay

end Sys2Proof.Machine
end

