-- ==== Sys2Proof/Machine/Home.lean ====
section
/-!
DEFINITION. Machine/Home.lean: the events of homes, TLBs and error logic: fills, walks, invalidations, migrations, leases,
errors (spec/14 R310 to R312, R319, R332 to R338; spec/12 R302, R303; spec/19 R428, R429; spec/20 R435).
-/

namespace Sys2Proof.Machine

/-! ### Hotness (R332) -/

/-- The die and the slice of an HBM address in its package (R309). Log entry 37 (DEDUCED). -/
def hbmSlice (p : Nat) : Nat × Nat :=
  let k := p / 2 ^ 36 % 8
  (k / 2, 16 * (k % 2) + ((p / 2 ^ 16 % 16) ^^^ (p / 2 ^ 20 % 16) ^^^ (p / 2 ^ 24 % 16)))

/-- The home of a line of HBM: its package, die and slice; a line of a frame has that of the page it serves (R29, R256, R309). -/
def State.homeSlice (s : State) (line : Nat) : Nat × Nat × Nat :=
  let p := match assoc (64 * line / 32768) s.die.frames with
    | some g => 65536 * g
    | none => 64 * line
  (p / 2 ^ 42, hbmSlice p)

/-- Whether two lines belong to one set of one slice's cache: 4 MiB of 16 ways (R310). Log entry 37 (DEDUCED). -/
def State.sameSet (s : State) (l m : Nat) : Bool :=
  s.homeSlice l == s.homeSlice m && Config.sliceSet l % 4096 == Config.sliceSet m % 4096

/-- The slice of a line fills it: with 16 lines in its set, one leaves, which is free (R310). Log entry 37 (DEDUCED). -/
def State.fillSlice (s : State) (line : Nat) : State :=
  let mates := s.die.cached.filter (s.sameSet line)
  let out := if mates.length < 16 then none else mates[Config.sliceVictim s.fresh % mates.length]?
  State.tick { s with die := { s.die with cached := line :: s.die.cached.filter (fun l => some l != out) } }

/-- The lowest bit of a requester's counter in a hotness word: its quadrant, or REMOTE. Log entry 37 (DEDUCED). -/
def hotField (core : CoreNum) (line : Nat) : Nat :=
  if line / 2 ^ 36 = core.toNat / 2 ^ 12 then
    7 * (2 * (core.toNat / 2 ^ 10 % 4) + core.toNat / 2 ^ 9 % 2)
  else 56

/-- A miss counted in a hotness word: a counter saturates at 127 and sets SAT. Log entry 37 (DEDUCED). -/
def countMiss (h : BitVec 64) (lo : Nat) : BitVec 64 :=
  if fieldOf h lo 7 = 127 then h ||| (1#64 <<< 63)
  else
    let h := h + (1#64 <<< lo)
    if fieldOf h lo 7 = 127 then h ||| (1#64 <<< 63) else h

/-- HBM_FILL: a request of a core has missed in the home slice, which then fills the line (R310): no byte changes. A line that a
slice holds or that lies outside HBM cannot miss. Log entry 37 (DEDUCED). -/
def State.fill (s : State) (line : Nat) (core : CoreNum) : State :=
  let pa := 64 * line
  if !isHbm pa || s.die.cached.contains line then s
  else
    let s := s.fillSlice line
    let g := s.granule pa
    let s := s.setGranule pa { g with hot := countMiss g.hot (hotField core line) }
    if core = s.phys then s.count 11 1 else s

/-- The firmware reads a hotness word, which clears it. -/
def State.readHotness (s : State) (granule : Nat) : State :=
  let g := s.granule (65536 * granule)
  (s.report (.hotness granule g.hot)).setGranule (65536 * granule) { g with hot := 0 }

/-! ### Walks and invalidations (R302, R318 to R320) -/

/-- The instruction that waits for a walk holds the translations of its accesses, so that the entry which the walk brings does not
replace one that the instruction still needs (R126, R160). Log entry 112 (DEDUCED). -/
def State.holdPages (s : State) : State :=
  let l := if s.core.pagesAt = s.core.retired then s.core.pages else []
  { s with core := { s.core with
    pagesAt := s.core.retired
    pages := s.core.dtlb ++ l.filter (fun e => !s.core.dtlb.any (fun d => d.page == e.page && d.va == e.va)) } }

/-- A walk ends: its entry, or the fault of the access that waits for it. Log entry 113 (DEDUCED). -/
def State.endWalk (s : State) (va : Word) (kind : AccessKind) : State :=
  let s := ((s.holdPages.ensureTlb va kind).count 12 1).count 13 1
  if s.run.stall = some (.walk va kind) then
    match s.tlbFind va kind with
    | some _ => s.endWait (.walk va kind)
    | none =>
      match s.walkFault va kind with
      | .page r => State.pageFault { s with run := { s.run with stall := none } } r
      | .poison l => State.poisonFault { s with run := { s.run with stall := none } } l
      | _ => s
  else s

/-- Whether a TLB entry belongs to the page of an address, in the partition and address space of the core. -/
def State.ofPage (s : State) (va : Word) (e : TlbEntry) : Bool :=
  e.part == s.pkg.part && e.asid == s.core.asid && e.va * 65536 / e.psize == va.toNat % 2 ^ 56 / e.psize

/-- The granules of the page of an address, if it translates (R318). -/
def State.pageEntries (s : State) (va : Word) : List TlbEntry :=
  match s.walkEntry va with
  | .error _ => []
  | .ok e =>
    let z := e.fpage
    let base := va.toNat % 2 ^ 56 / z * z
    (List.range (z / 65536)).filterMap (fun k => (s.walkEntry (word (base + 65536 * k))).toOption)

/-- Binds the frames of the page of an address, as the tables now have it (R29, R256). -/
def State.bindPage (s : State) (va : Word) : State :=
  match s.walkEntry va with
  | .ok e => if e.ad || e.fmt == 6 then (s.pageEntries va).foldl State.bindFrames s else s
  | .error _ => s

/-- Whether the tables no longer map the granule of an entry where it was. -/
def State.remapped (s : State) (e : TlbEntry) : Bool :=
  match s.walkEntry (word (65536 * e.va)) with
  | .ok n => n.pa != e.pa
  | .error _ => true

/-- The page of an entry is dropped: leases of its granule are recalled (R333), its frames no longer serve it, and a granule
that the firmware has remapped is no longer poisoned as a whole (R336). Log entries 31 (DEDUCED), 79 (DEDUCED). -/
def State.dropEntry (s : State) (e : TlbEntry) : State :=
  let gone := s.remapped e
  let s := s.recallGranule e.pa
  { s with die := { s.die with
    frames := s.die.frames.filter (fun f => !e.bindsFrames.contains f)
    scales := s.die.scales.filter (fun h => !(e.bindsFrames.any (fun f => f.1 == h && s.die.frames.contains f)))
    gpoison := if gone then s.die.gpoison.filter (fun g => g != e.pa / 65536) else s.die.gpoison } }

/-- The stage-2 leaf that maps a granule, found by searching the tables: the address of its entry and its level (R316). Log
entry 75 (DEDUCED). -/
def leafOf (m : Memory) (granule : Nat) : List (Nat × Nat × Nat × Bool) → Nat → Option (Nat × Nat)
  | [], _ => none
  | (level, lo, w, _) :: ls, table =>
    (List.range (2 ^ w)).findSome? (fun i =>
      let a := table + 16 * i
      let e := Pte.of (m.nat a 16)
      if !e.v then none
      else if e.leaf then
        (if e.out / 65536 ≤ granule && granule < e.out / 65536 + 2 ^ lo / 65536 then some (a, level) else none)
      else leafOf m granule ls e.out)

/-- The stage-2 leaf of a granule. -/
def State.leafOf (s : State) (m : Memory) (granule : Nat) : Option (Nat × Nat) :=
  Machine.leafOf m granule levels s.core.root2.toNat

/-- Whether no partition's stage-2 tables map a granule any longer. Log entry 79 (DEDUCED). -/
def State.unmapped (s : State) (granule : Nat) : Bool :=
  (s.core.root2 :: s.pkg.switched.map (fun v => v.core.root2)).all (fun r =>
    (Machine.leafOf s.die.mem granule levels r.toNat).isNone)

/-- The granules of a page whose leases an invalidation recalls (R319, R333): those of the entries that the TLBs held and of those
that the tables give now, with their frames, and every leased one that no table maps any longer. Log entry 79 (DEDUCED). -/
def State.leasedOf (s : State) (es : List TlbEntry) : List Nat :=
  es.flatMap (fun e => e.pa :: e.frames) ++
    ((s.die.grans.filter (fun (p : Nat × Granule) => !p.2.leases.isEmpty && s.unmapped p.1)).map (fun p => 65536 * p.1))

/-- Whole-granule poison ends where the firmware has taken a granule out of every table (R336). Log entry 31 (DEDUCED). -/
def State.freePoison (s : State) : State :=
  { s with die := { s.die with gpoison := s.die.gpoison.filter (fun g => !s.unmapped g) } }

/-- FIRMWARE_INVALIDATION: every TLB drops the page, here and under every lease (R302, R319, R333). Log entries 79 (DEDUCED),
112 (DEDUCED). -/
def State.invalidate (s : State) (va : Word) : State :=
  let gone := (s.core.itlb ++ s.core.dtlb ++ s.core.pages ++ s.core.tlb).filter (s.ofPage va)
  let leased := s.leasedOf (gone ++ s.pageEntries va)
  let s := gone.foldl State.dropEntry (s.dropTlb (s.ofPage va))
  let s := leased.foldl State.recallGranule s
  State.bindPage s.freePoison va

/-! ### Leases (R333, R435) -/

/-- LEASE_RECALL: every lease of the granule is recalled, and the core's TLB drops it; a held request holds it back (R94).
Log entry 79 (DEDUCED). -/
def State.recall (s : State) (granule : Nat) : State :=
  let pa := 65536 * granule
  if s.granuleHeld pa then s
  else
    let g := s.granule pa
    let s := s.setGranule pa { g with recalled := g.leases }
    if s.remote pa then s.dropTlb (fun e => e.holds granule) else s

/-- LEASE_HOLDER_FAILED: the firmware declares a package failed; its leases count as recalled. Log entry 80 (DEDUCED). -/
def State.holderFailed (s : State) (pkg : BitVec 22) : State :=
  let s := s.report (.leaseFailed pkg)
  { s with
    pkg := { s.pkg with failed := s.pkg.failed ++ [pkg] }
    die := { s.die with grans := s.die.grans.map (fun (p : Nat × Granule) =>
      if p.2.leases.contains pkg then (p.1, { p.2 with recalled := p.2.recalled ++ [pkg] }) else p) } }

/-! ### Migration (R334, R335) -/

/-- The address of a moved granule's byte. -/
def moved (old new a : Nat) : Nat := if a / 65536 = old then new * 65536 + a % 65536 else a
/-- A line number after the move. -/
def movedLine (old new l : Nat) : Nat := if l / 1024 = old then new * 1024 + l % 1024 else l

/-- A table in granule `t` takes the place of the leaf at address `a`: `count` leaves of `size` bytes map what it mapped (R317).
Log entry 75 (DEDUCED). -/
def splitEntry (m : Memory) (a t size count : Nat) : Memory :=
  let n := m.nat a 16
  let m := (List.range count).foldl (fun m i =>
    m.put (t * 65536 + 16 * i) (bytesOf 16 (n + size * i / 65536 * 2 ^ 40))) m
  m.put a (bytesOf 16 (1 + t * 2 ^ 40))

/-- The tables with a 64 KiB leaf for a granule: a larger one is split into tables in the granules that the firmware gives, of
which the rest stays. Log entry 75 (DEDUCED). -/
def splitLeaf (m : Memory) (granule : Nat) (leaf : Nat × Nat) (ts : List Nat) : Option (Memory × List Nat) :=
  let at' := fun (m : Memory) (a : Nat) => granule - (Pte.of (m.nat a 16)).out / 65536
  match leaf, ts with
  | (_, 3), ts => some (m, ts)
  | (a, 2), t :: ts => some (splitEntry m a t 65536 32, ts)
  | (a, 1), t :: u :: ts =>
    let b := t * 65536 + 16 * (at' m a / 32)
    some (splitEntry (splitEntry m a t (2 ^ 21) 512) b u 65536 32, ts)
  | _, _ => none

/-- The tables with a 64 KiB leaf for each of some granules. Log entry 75 (DEDUCED). -/
def State.splitAll (s : State) : Memory → List Nat → List Nat → Option Memory
  | m, [], _ => some m
  | m, g :: gs, ts =>
    match (s.leafOf m g).bind (fun l => splitLeaf m g l ts) with
    | some r => State.splitAll s r.1 gs r.2
    | none => none

/-- The granules that hold the frames of a granule's page (R29, R256). Log entry 77 (DEDUCED). -/
def State.frameGranules (s : State) (granule : Nat) : List Nat :=
  insertAll ((s.die.frames.filter (fun f => f.2 == granule)).map (fun f => f.1 / 2)) []

/-- A granule's migration begins or ends at its home (R334). -/
def State.setMig (s : State) (on : Bool) (granule : Nat) : State :=
  s.setGranule (65536 * granule) { s.granule (65536 * granule) with mig := on }

/-- MIGRATION: the copy of a granule to a new frame begins, and that of the frames of its page to theirs; the firmware's further
granules hold the tables that larger leaves are split into. Log entry 75 (DEDUCED). -/
def State.migrate (s : State) (granule frame : Nat) (frames : List Nat) : State :=
  let pa := 65536 * granule
  let fs := s.frameGranules granule
  let moves := (granule, frame) :: fs.zip frames
  match s.splitAll s.die.mem (granule :: fs) (frames.drop fs.length) with
  | some mem =>
    if isHbm pa && decide (fs.length ≤ frames.length) && moves.all (fun p => p.1 != p.2 && !(s.granule (65536 * p.1)).mig) then
      (moves.map Prod.fst).foldl (State.setMig · true)
        { s with die := { s.die with mem := mem, migrating := s.die.migrating ++ [(granule, moves)] } }
    else s
  | none => s

/-- What a run holds of a granule's addresses after it has moved: its log and tags are resent to the new home. Log entry
77 (DEDUCED). -/
def Run.moved (r : Run) (old new : Nat) : Run :=
  let req := fun (q : HeldReq) => { q with addr := Machine.moved old new q.addr }
  { r with
    log := r.log.foldl (fun m (p : Nat × Byte) => ByteMap.set m (Machine.moved old new p.1) p.2) []
    adj := r.adj.foldl (fun m (p : Nat × AdjCell) => insertCell (Machine.moved old new p.1) p.2 m) []
    mx := { r.mx with queue := r.mx.queue.map (fun c =>
      { c with homes := c.homes.map (fun (h : Nat × Nat) => (Machine.moved old new h.1, Machine.moved old new h.2)) }) }
    commit := r.commit.map (fun c => { c with
      pending := c.pending.map req
      answered := c.answered.map (fun (a : HeldReq × Bool) => (req a.1, a.2)) })
    readTags := r.readTags.map (movedLine old new)
    writeTags := r.writeTags.map (movedLine old new) }

/-- The bytes of a granule at its new frame, over what stood there; the old frame is freed as it stands. Log entry
75 (DEDUCED). -/
def Memory.move (m : Memory) (old new : Nat) : Memory :=
  (m.filter (fun c => c.1 / 65536 == old)).foldl (fun m c => m.set (moved old new c.1) c.2)
    (m.filter (fun c => c.1 / 65536 != new))

/-- The homes after a switch: state, holder, windows and tags go to the new home. Log entry 77 (DEDUCED). -/
def Die.moved (d : Die) (old new : Nat) (g : Granule) : Die :=
  let at' := Machine.moved old new
  { d with
    mem := d.mem.move old new
    poison := d.poison.filter (fun l => l / 1024 != new)
    gpoison := d.gpoison.filter (fun g => g != old && g != new)
    cached := d.cached.filter (fun l => l / 1024 != old && l / 1024 != new)
    deferred := d.deferred.map (fun (p : Nat × CoreNum × BitVec 32) => (at' p.1, p.2))
    grans := assocSet new { g with mig := false, hot := 0, leases := [], recalled := [] }
      (d.grans.filter (fun (p : Nat × Granule) => p.1 != old))
    windows := d.windows.map (fun w => if w.granule = old then { w with granule := new } else w)
    contribs := d.contribs.map (fun c => { c with addr := at' c.addr })
    rounds := d.rounds.map (fun r => { r with addr := at' r.addr })
    tags := d.tags.map (fun t => { t with
      line := movedLine old new t.line
      data := t.data.foldl (fun m (p : Nat × Byte) => ByteMap.set m (at' p.1) p.2) [] })
    frames := d.frames.map (fun (p : Nat × Nat) => (at' (p.1 * 32768) / 32768, if p.2 = old then new else p.2))
    scales := d.scales.map (fun h => at' (h * 32768) / 32768) }

/-- A granule has been copied: TLB copies, those of a larger page around it among them, and leases are recalled, the stage-2
mapping is switched, the state moves. Log entries 75 (DEDUCED), 77 (DEDUCED). -/
def State.switch (s : State) (move : Nat × Nat) : State :=
  let (old, new) := move
  let leaf := s.leafOf s.die.mem old
  let s := s.dropTlb (fun e => e.holds old || 65536 * old / e.psize == e.pa / e.psize)
  let s := { s with
    run := s.run.moved old new
    saved := s.saved.map (fun v => { v with run := v.run.moved old new })
    die := s.die.moved old new (s.granule (65536 * old)) }
  match leaf with
  | none => s
  | some l =>
    let a := moved old new l.1
    let n := s.die.mem.nat a 16
    let n := n - fieldOf (BitVec.ofNat 128 n) 40 48 * 2 ^ 40 + new % 2 ^ 48 * 2 ^ 40
    { s with die := { s.die with mem := s.die.mem.put a (bytesOf 16 n) } }

/-- The migration of a granule is over. -/
def State.endMigration (s : State) (granule : Nat) : State :=
  { s with die := { s.die with migrating := s.die.migrating.filter (fun (p : Nat × List (Nat × Nat)) => p.1 != granule) } }

/-- The copy did not complete: the granules stay as they are (R335). -/
def State.dropMigration (s : State) (granule : Nat) (moves : List (Nat × Nat)) : State :=
  (moves.map Prod.fst).foldl (State.setMig · false) (s.endMigration granule)

/-- Poisons a whole granule (R336). -/
def State.poisonGranule (s : State) (granule : Nat) : State :=
  { s with die := { s.die with gpoison := insertNat granule s.die.gpoison } }

/-- A line of the copy could not be read: the granule stays, and is poisoned as a whole (R335). Log entry 75 (DEDUCED). -/
def State.copyError (s : State) (granule bad : Nat) (moves : List (Nat × Nat)) : State :=
  ((s.dropMigration granule moves).poisonGranule bad).report (.uncorrectable 0 (BitVec.ofNat 56 (65536 * bad)) 0)

/-- MIGRATION_COPY_COMPLETE: the switch waits while the home holds a request for the granule (R94); a poisoned line is an
uncorrectable error of the copy (R338). Log entry 75 (DEDUCED). -/
def State.copyComplete (s : State) (granule : Nat) (res : CopyResult) : State :=
  match assoc granule s.die.migrating with
  | none => s
  | some moves =>
    let bad := (moves.map Prod.fst).find? (fun g => (List.range 1024).any (fun k => s.poisoned (1024 * g + k)))
    match res, bad with
    | .fault, _ => s.dropMigration granule moves
    | .uncorrectable, _ => s.copyError granule granule moves
    | .done, some g => s.copyError granule g moves
    | .done, none =>
      if moves.any (fun p => s.granuleHeld (65536 * p.1)) then s
      else moves.foldl State.switch (s.endMigration granule)

/-- What waits on a migrating granule tries again. -/
def State.afterMigration (s : State) : State := s.endWait .migration

/-! ### Errors (R246, R303, R336, R337, R428, R429) -/

/-- UE in a structure: the firmware retires the running activation without restart (R116, R337). Log entry 78 (DEDUCED). -/
def State.structureError (s : State) (code : BitVec 8) (index : BitVec 56) : State :=
  if s.run.act.isSome then s.ueFault code index else s.report (.uncorrectable code index s.run.ctx.pc)

/-- Whether the command at the head of the queue multiplies into an accumulator (R239). -/
def Mx.multiplies (m : Mx) (a : BitVec 2) : Bool :=
  match m.queue with
  | c :: _ => (dOp c.desc == 1 || dOp c.desc == 2) && dAcc c.desc == a
  | [] => false

/-- An error in an accumulator poisons it, as a second mismatch does (R246): a multiplication into it that runs retires with the
flags and reruns of its steps; a command that only reads it goes on and finds canonical NaNs. Log entry 48 (DEDUCED). -/
def State.accError (s : State) (a : BitVec 2) : State :=
  let m := s.run.mx
  let named := match m.queue.find? (fun c => c.targets a) with
    | some c => (c.num, BitVec.ofNat 4 (dOp c.desc))
    | none => Config.unnamedCommand s.fresh
  let p := m.poison a named.1 true named.2
  let q := m.progress a
  let done := ({ p.addReruns q.reruns with flags := p.flags ||| mxFlags q.flags } : Mx)
  if s.run.act.isNone then s
  else (s.withMx (if m.multiplies a then done.retire else p)).tick

/-- An error in a byte of the weight buffer stays until an LDW writes the byte, and strikes every multiplication that reads it
(R246). Log entry 48 (DEDUCED). -/
def State.weightError (s : State) (a : Nat) : State := { s with core := { s.core with wbad := insertNat a s.core.wbad } }

/-- An entry of some TLB is discarded, with every part of its page, which is walked again (R303, R337): which one is free.
Log entry 112 (DEDUCED). -/
def State.tlbError (s : State) : State :=
  let all := s.core.tlb ++ s.core.dtlb ++ s.core.itlb
  match all[Config.tlbVictim s.fresh all.length % all.length]? with
  | some e => (s.dropTlb (fun d => d.page == e.page)).tick
  | none => s

/-- Marks the first entry of an in-link that is not poisoned. -/
def poisonEntry : List LinkEntry → List LinkEntry
  | [] => []
  | e :: es => if e.poisoned then e :: poisonEntry es else { e with poisoned := true } :: es

/-- UNCORRECTABLE_ERROR: what each structure makes of it (R428). Log entries 31 (DEDUCED), 78 (DEDUCED), 109 (DEDUCED). -/
def State.hardError (s : State) : ErrorSite → State
  | .line a => { s with die := { s.die with poison := insertNat (a / 64) s.die.poison } }
  | .capTable g => (s.poisonGranule g).structureError 4 (BitVec.ofNat 56 (65536 * g))
  | .unit code index => if code = 5 then s else s.structureError code index
  | .tlb => s.tlbError
  | .accumulator i => s.accError i
  | .weightByte a => s.weightError a.toNat
  | .slot die i => s.setBarSlot die (BitVec.ofNat 6 i) { s.barSlot die (BitVec.ofNat 6 i) with poisoned := true }
  | .linkEntry fromNext => s.setIn (!fromNext) (poisonEntry (s.inLink (!fromNext)))

/-- The counter of a structure class. -/
def softIndex : SoftClass → Fin 6
  | .hbm => 0
  | .sram => 1
  | .files => 2
  | .products => 3
  | .dieLinks => 4
  | .ebver => 5

/-- Whether the part allows the firmware to retire a structure of a class: a row of HBM, a slice way, or a core (R429). Log
entry 131 (DESIGN CHOICE). -/
def softRetires : SoftClass → Bool
  | .hbm => true
  | .sram => true
  | .files => true
  | .products => true
  | .dieLinks => false
  | .ebver => false

/-- A structure whose count has risen past the firmware's threshold is retired from use, and the host is told (R429): a disabled
core counts from the next partition build on (R391). Log entry 131 (DESIGN CHOICE). -/
def State.retireStructure (s : State) (die : Fin 4) (c : SoftClass) : State :=
  let r := (die.val, (softIndex c).val)
  if softRetires c && decide (Config.softThreshold < (s.pkg.soft[die])[softIndex c].toNat) && !s.pkg.softRetired.contains r then
    State.report { s with pkg := { s.pkg with softRetired := s.pkg.softRetired ++ [r] } } (.structureRetired r.1 r.2)
  else s

/-- CORRECTABLE_ERROR: corrected in line and counted for its die and class, in a counter that saturates (R429). -/
def State.softError (s : State) (c : SoftClass) (die : Fin 4) : State :=
  let n := (s.pkg.soft[die])[softIndex c]
  let s := { s with pkg := { s.pkg with
    soft := s.pkg.soft.set die ((s.pkg.soft[die]).set (softIndex c) (if n = 0xFFFFFFFF then n else n + 1)) } }
  let s := s.retireStructure die c
  match c with
  | .sram => s.count 17 1
  | .files => s.count 17 1
  | .products => s.count 17 1
  | _ => s

/-! ### Events -/


/-- HBM_FILL (R310). -/
def execHbmFill (line : Nat) (s : State) (core : BitVec 34 := 0) : Host.Outcome State Fault Refusal :=
  .next (s.fill line core)

/-- CALDERA_REFRESH_START: the calendar follows CYCLE, and only the time of an access changes (R312). -/
def execCalderaRefreshStart (_bank : BitVec 7) (s : State) : Host.Outcome State Fault Refusal :=
  .next s

/-- CALDERA_REFRESH_END: likewise (R312). -/
def execCalderaRefreshEnd (_bank : BitVec 7) (s : State) : Host.Outcome State Fault Refusal :=
  .next s

/-- TLB_WALK (R302). -/
def execTlbWalk (va : Word) (kind : AccessKind) (s : State) : Host.Outcome State Fault Refusal :=
  .next (s.endWalk va kind)

/-- FIRMWARE_INVALIDATION (R319). -/
def execFirmwareInvalidation (va : Word) (s : State) : Host.Outcome State Fault Refusal :=
  .next (s.invalidate va)

/-- MIGRATION (R334). -/
def execMigration (granule : Nat) (frame : Nat) (s : State) (frames : List Nat := []) : Host.Outcome State Fault Refusal :=
  .next (s.migrate granule frame frames)

/-- MIGRATION_COPY_COMPLETE (R334). -/
def execMigrationCopyComplete (granule : Nat) (res : CopyResult) (s : State) : Host.Outcome State Fault Refusal :=
  .next (s.copyComplete granule res).afterMigration

/-- HOTNESS_READ (R332). -/
def execHotnessRead (granule : Nat) (s : State) : Host.Outcome State Fault Refusal :=
  .next (s.readHotness granule)

/-- UNCORRECTABLE_ERROR (R336). -/
def execUncorrectableError (site : ErrorSite) (s : State) : Host.Outcome State Fault Refusal :=
  .next (s.hardError site)

/-- CORRECTABLE_ERROR (R429). -/
def execCorrectableError (cls : SoftClass) (s : State) (die : BitVec 2 := 0) : Host.Outcome State Fault Refusal :=
  .next (s.softError cls die.toFin)

/-- LEASE_RECALL (R435). -/
def execLeaseRecall (granule : Nat) (s : State) : Host.Outcome State Fault Refusal :=
  .next (s.recall granule)

/-- LEASE_HOLDER_FAILED (R435). -/
def execLeaseHolderFailed (pkg : BitVec 22) (s : State) : Host.Outcome State Fault Refusal :=
  .next (s.holderFailed pkg)

end Sys2Proof.Machine
end

