-- ==== Sys2Proof/Machine/Package.lean ====
section
/-!
DEFINITION. Machine/Package.lean: boot, attestation, the signature, the host port and the management port (spec/19 R421 to
R425; spec/20 R430, R446, R447).
-/

namespace Sys2Proof.Machine

/-! ### Boot (R423, R430) -/

/-- The number of a package in its cores' physical numbers (R6, R430). -/
def renumber (pkg : BitVec 22) (c : CoreNum) : CoreNum := BitVec.ofNat 34 (c.toNat % 2 ^ 12 + pkg.toNat * 2 ^ 12)

/-- A failed check of step 1 or 2: die 0 halts in recovery. -/
def State.recovery (s : State) (step : Nat) : State :=
  State.report { s with pkg := { s.pkg with bootStep := step } } .recovery

/-- A failure of step 3 or 4: the package stays out of the fabric. -/
def State.leftOut (s : State) (step : Nat) : State :=
  State.report { s with pkg := { s.pkg with bootStep := step } } .leftOut

/-- Step 3 zeroes every SRAM and HBM line. -/
def State.zeroed (s : State) : State := { s with die := { Die.reset with mhz := s.die.mhz } }

/-- Whether die 0 is halted in recovery, where only the Ethernet recovery protocol is served. Log entry 76 (DEDUCED). -/
def State.inRecovery (s : State) : Bool := !s.pkg.booted && (s.pkg.bootStep == 1 || s.pkg.bootStep == 2)

/-- BOOT: the steps in order, each after the one before it has succeeded; the image is the one in the part's storage, or one that
a frame has brought since (R422). Log entry 76 (DEDUCED). -/
def State.boot (s : State) (r : BootResult) : State :=
  if s.pkg.booted || !s.pkg.powered then s
  else if !r.romOk then s.recovery 1
  else
    let s := { s with pkg := { s.pkg with image := s.pkg.stored.getD r.image } }
    if !r.imageOk then s.recovery 2
    else if !r.trainOk then s.leftOut 3
    else
      let s := s.zeroed
      if !r.fabricOk then s.leftOut 4
      else State.report { s with pkg := { s.pkg with
        booted := true, bootStep := 5, number := r.pkg, cores := s.pkg.cores.map (renumber r.pkg) } } .ready

/-! ### Attestation (R424) -/

/-- The 1,952 bytes of the public half of the device key, which a verifier of a report holds certified (R423, R424). -/
def devicePublicKey : List Byte := (List.range 1952).map Config.devicePublicKey

/-- KMEAS: SHAKE256 over the measurements of the images installed on the package, of every partition, in install order; zeros when
none is installed. Log entry 92 (DEDUCED). -/
def State.kernelMeasure (s : State) : List Byte :=
  if s.pkg.images.isEmpty then List.replicate 64 0 else shake256 (s.pkg.images.flatMap (·.2.2)) 64

/-- The partition descriptors in force: of the partition that runs and of those that are switched out (R390, R410). -/
def State.descriptors (s : State) : List (BitVec 16 × Bool × BitVec 32 × List CoreNum) :=
  (s.pkg.part, s.pkg.det, s.pkg.quant, s.pkg.cores) :: s.pkg.switched.map (fun w => (w.part, w.det, w.quant, w.cores))

/-- The pair tables in force (R342, R410). -/
def State.pairTables (s : State) : List (Word × Word) := s.die.pairs ++ s.pkg.switched.flatMap (·.pairs)

/-- Bytes 227:0 of the report. Log entry 92 (DEDUCED). -/
def State.attestationBody (s : State) (nonce : List Byte) : List Byte :=
  bytesOf 4 1 ++ nonce ++ shake256 s.pkg.image 64 ++ shake256 (Config.configBytes s.descriptors s.die.access s.pairTables) 64 ++ s.kernelMeasure

/-- ATTESTATION_REQUEST: a report answers a request with a nonce of 32 bytes; none in recovery (R423). Log entry
76 (DEDUCED). -/
def State.attest (s : State) (nonce : List Byte) : State :=
  if nonce.length = 32 && !s.inRecovery then
    let body := s.attestationBody nonce
    s.report (.attestation (body ++ signature body))
  else s
where
  /-- The 3,309 bytes of the signature. -/
  signature (body : List Byte) : List Byte := (List.range 3309).map (Config.mlDsaSign body)

/-! ### The signature (R446, R447) -/

/-- Distinct values of a rising list. -/
def distinctNat : List Nat → List Nat
  | [] => []
  | a :: as => match distinctNat as with
    | [] => [a]
    | b :: bs => if a = b then b :: bs else a :: b :: bs

/-- The bytes of one die in the shape: its enabled cores, then those of each of its clusters. -/
def dieShape (cores : List Nat) : List Byte :=
  bytesOf 2 cores.length ++ (distinctNat (cores.map (· / 16))).flatMap (fun k =>
    bytesOf 1 (cores.filter (fun c => c / 16 == k)).length)

/-- The bytes of one package in the shape: its dies, then each of them. -/
def packageShape (cores : List Nat) : List Byte :=
  let dies := distinctNat (cores.map (· / 2 ^ 10))
  bytesOf 1 dies.length ++ dies.flatMap (fun d => dieShape (cores.filter (fun c => c / 2 ^ 10 == d)))

/-- The shape hash of the partition (R446). -/
def State.shapeHash (s : State) : List Byte :=
  let cores := s.pkg.cores.map (·.toNat)
  let pkgs := distinctNat (cores.map (· / 2 ^ 12))
  shake256 (bytesOf 4 pkgs.length ++ pkgs.flatMap (fun p => packageShape (cores.filter (fun c => c / 2 ^ 12 == p)))) 32

/-- A stable insertion of a record by core and number. -/
def insertRecord (r : CoreNum × Nat × List Byte) : List (CoreNum × Nat × List Byte) → List (CoreNum × Nat × List Byte)
  | [] => [r]
  | q :: qs => if lexLt [r.1.toNat, r.2.1] [q.1.toNat, q.2.1] then r :: q :: qs else q :: insertRecord r qs

/-- What the signature absorbs (R447, R448): the seeds and records of other cores are free values. Log entry
95 (DESIGN CHOICE). -/
def State.signatureInput (s : State) : List Byte :=
  let seeds := (List.range s.ncores).flatMap (fun c =>
    bytesOf 8 (if c = s.pkg.me then s.pkg.sigSeeds.headD 0 else Config.otherSeed c).toNat)
  let recs := (s.pkg.sigRecords ++ Config.otherRecords s.fresh).foldl (fun l r => insertRecord r l) []
  s.pkg.sigDigest ++ bytesOf 4 s.pkg.sigInputs.length ++ s.pkg.sigInputs.flatten ++ seeds ++
    bytesOf 8 s.quantCsr.toNat ++ s.shapeHash ++
    recs.flatMap (fun (r : CoreNum × Nat × List Byte) => bytesOf 8 r.1.toNat ++ bytesOf 8 r.2.1 ++ r.2.2)

/-- The host reads the signature once every activation of the launch has retired: none runs, waits or is on its way here, and the
launch's own wake has been placed. -/
def State.readSignature (s : State) : State :=
  if s.run.act.isSome || !s.net.queue.isEmpty || !s.parked.isEmpty || !s.saved.isEmpty || s.inPlace.isSome || s.pkg.sigLaunch.isSome ||
      !s.net.waiting.isEmpty || !s.net.early.isEmpty || !s.ownFlight.isEmpty then s
  else s.report (.signature (shakeLong s.signatureInput))
where
  /-- The 64 bytes that are squeezed. -/
  shakeLong (m : List Byte) : List Byte := shake256 m 64

/-! ### The host port (R421) -/

/-- The masters of the access tables that are no cores: the host BAR and the DMA channels (R322). Log entry
94 (DESIGN CHOICE). -/
def hostBarMaster : Nat := 2 ^ 34
def dmaMaster (channel : Nat) : Nat := 2 ^ 34 + 1 + channel

/-- The granules of an access. -/
def HostAccess.granules (r : HostAccess) (pa : Nat) : List Nat :=
  (List.range ((pa % 65536 + r.len + 65535) / 65536)).map (fun k => pa / 65536 + k)

/-- An access by a host master at a physical address: refused in recovery (R423), and unless every granule of it grants rights.
Log entries 76 (DEDUCED), 94 (DESIGN CHOICE). -/
def State.hostGranted (s : State) (master : Nat) (r : HostAccess) (pa : Nat) : Bool :=
  decide (0 < r.len) && !s.inRecovery && (HostAccess.granules r pa).all (fun g =>
    let v := s.accessRights master (65536 * g)
    if r.write then v.2.1 else v.1)

/-- The access itself: data to the host, or a write that goes through its home; a read of poison, and any access to a granule
that is poisoned as a whole, is reported and moves no byte (R336). Log entry 94 (DESIGN CHOICE). -/
def State.hostMove (s : State) (r : HostAccess) (pa : Nat) : State :=
  if r.write then
    match (HostAccess.granules r pa).find? s.die.gpoison.contains with
    | some g => s.report (.poison (word (65536 * g)) 0)
    | none => s.storeHome (ByteMap.put [] pa (r.data.take r.len)) none
  else
    match ((List.range ((pa % 64 + r.len + 63) / 64)).map (fun k => pa / 64 + k)).find? s.poisoned with
    | some l => s.report (.poison (word (64 * l)) 0)
    | none => s.report (.hostData (s.die.mem.bytes pa r.len))

/-- Whether a write waits: a granule of it is being copied (R334). -/
def State.hostWaits (s : State) (r : HostAccess) (pa : Nat) : Bool :=
  (HostAccess.granules r pa).any (fun g => (s.granule (65536 * g)).mig)

/-- An access that its target refuses completes with Unsupported Request, and no byte is moved; a write to a granule that is being
copied waits, and later writes behind it. Log entry 94 (DESIGN CHOICE). -/
def State.hostAccess (s : State) (master : Nat) (r : HostAccess) (pa : Nat) : State :=
  if s.hostGranted master r pa then
    if r.write && (s.hostWaits r pa || !s.pkg.hostWrites.isEmpty) then
      { s with pkg := { s.pkg with hostWrites := s.pkg.hostWrites ++ [(r, pa)] } }
    else s.hostMove r pa
  else s.report .unsupportedRequest

/-- The oldest write of the host that waited is done (R334, R421). Log entry 94 (DESIGN CHOICE). -/
def State.moveHost (s : State) : State :=
  match s.pkg.hostWrites with
  | [] => s
  | w :: ws => if s.hostWaits w.1 w.2 then s
    else State.hostMove { s with pkg := { s.pkg with hostWrites := ws } } w.1 w.2

/-- One event set of the counters as the firmware loads it (R460). -/
def pmSetOf (evs : List Word) : PmSet := { PmSet.reset with ev := Vector.ofFn (fun (i : Fin 8) => evs.getD i.val 0) }

/-- A core whose counting begins: one to four event sets, ROTATE, and every count and time zero (R460). -/
def CoreSt.startCounting (c : CoreSt) (sets : List (List Word)) (rotate : BitVec 32) : CoreSt :=
  { c with
    pm := Vector.ofFn (fun (i : Fin 4) => pmSetOf (sets.getD i.val []))
    pmActive := 0
    pmctl := BitVec.ofNat 34 (rotate.toNat + (sets.length - 1) * 2 ^ 32)
    pmOn := true
    pmLeft := rotate.toNat }

/-- A period of the geyser tick (R463). -/
def periodOk (p : Nat) : Bool := (List.range 15).any (fun k => p == 2 ^ (k + 10))

/-- What the firmware sets at the host's request for the partition, its core and its die (R457, R460, R463, R465, R467, R468); a
value outside the spec's range changes nothing. Log entry 93 (DESIGN CHOICE). -/
def State.setting (s : State) : MailRequest → State
  | .trace en cap => { s with dbg := { s.dbg with enables := en, traceCap := cap } }
  | .hold on => { s with dbg := { s.dbg with hold := on } }
  | .replay cap full feed =>
    if 1 < full.toNat then s
    else { s with dbg := { s.dbg with
      replayCap := cap, replayFull := full, replayOff := false, replayMode := feed.isSome
      replay := feed.getD (if s.dbg.replayMode then [] else s.dbg.replay) } }
  | .counters sets rotate =>
    if sets.length = 0 || 4 < sets.length then s else { s with core := s.core.startCounting sets rotate }
  | .geyser p =>
    if periodOk p then { s with dbg := { s.dbg with gperiod := p, gdone := (s.cycle.toNat + (p - 1)) / p } } else s

/-- BAR 0: the mailboxes. A write asks the firmware for a setting, or for a new base of BAR 2, which must be a multiple of 1 GiB
below the caldera; a read asks for the signature. The layout of the mailboxes is the firmware's. Log entry
93 (DESIGN CHOICE). -/
def State.mailbox (s : State) (r : HostAccess) : State :=
  if r.write then
    match r.req with
    | some q => s.setting q
    | none =>
      let b := natOfBytes (r.data.take r.len)
      if b % 2 ^ 30 = 0 && b < Config.calBase then { s with pkg := { s.pkg with barBase := b } }
      else s.report .unsupportedRequest
  else s.readSignature

/-- HOST_BAR_ACCESS. Log entry 93 (DESIGN CHOICE). -/
def State.barAccess (s : State) (r : HostAccess) : State :=
  if r.unit = 0 then
    (if r.addr + r.len ≤ 2 ^ 26 && !s.inRecovery then s.mailbox r else s.report .unsupportedRequest)
  else if r.unit = 2 && r.addr + r.len ≤ 2 ^ 30 then
    s.hostAccess hostBarMaster r (s.pkg.number.toNat * 2 ^ 42 + s.pkg.barBase + r.addr)
  else s.report .unsupportedRequest

/-- HOST_DMA: one of the eight channels; it reaches HBM only. -/
def State.dmaAccess (s : State) (r : HostAccess) : State :=
  let pa := s.pkg.number.toNat * 2 ^ 42 + r.addr
  if r.unit < 8 && r.addr + r.len ≤ Config.calBase then s.hostAccess (dmaMaster r.unit) r pa
  else s.report .unsupportedRequest

/-! ### The management port (R422) -/

/-- MANAGEMENT_ETHERNET_FRAME: the port belongs to the firmware; an image it brings is the one that boots next, an error report
reads and clears the counters (R429), and in recovery only the recovery protocol is served (R423). Log entry 76 (DEDUCED). -/
def State.ethernet (s : State) : EthFrame → State
  | .telemetry => if s.inRecovery then s else s.report .telemetry
  | .firmwareUpdate image => if s.inRecovery then s else { s with pkg := { s.pkg with stored := some image } }
  | .errorReport =>
    if s.inRecovery then s
    else
      let counts := s.pkg.soft.toList.flatMap (fun d => d.toList.map (·.toNat))
      State.report { s with pkg := { s.pkg with soft := Vector.replicate 4 (Vector.replicate 6 0) } } (.softErrors counts)
  | .recovery image => if s.pkg.booted then s else { s with pkg := { s.pkg with stored := some image } }

/-! ### Events -/


/-- BOOT (R423). -/
def execBoot (r : BootResult) (s : State) : Host.Outcome State Fault Refusal :=
  .next (s.boot r)

/-- ATTESTATION_REQUEST (R424). -/
def execAttestationRequest (nonce : List (BitVec 8)) (s : State) : Host.Outcome State Fault Refusal :=
  .next (s.attest nonce)

/-- HOST_BAR_ACCESS (R421). -/
def execHostBarAccess (r : HostAccess) (s : State) : Host.Outcome State Fault Refusal :=
  .next (s.barAccess r)

/-- HOST_DMA (R421). -/
def execHostDma (r : HostAccess) (s : State) : Host.Outcome State Fault Refusal :=
  .next (s.dmaAccess r)

/-- MANAGEMENT_ETHERNET_FRAME (R422). -/
def execManagementEthernetFrame (f : EthFrame) (s : State) : Host.Outcome State Fault Refusal :=
  .next (s.ethernet f)

end Sys2Proof.Machine
end

