-- ==== Sys2Proof/Machine/ScalarFloat.lean ====
section
/-!
DEFINITION. Machine/ScalarFloat.lean: row 2: scalar floating point (spec/05 R133 to R140).
-/

namespace Sys2Proof.Machine

/-- A scalar source of a format: the low bits of the register (R133). -/
def State.rdFloat (s : State) (f : Fmt) (r : Reg) : Nat := (s.rd r).toNat % 2 ^ f.w

/-- Writes a result, zero-extended, and raises its flags (R133, R16). -/
def writeFloat (d : Reg) (r : State → Nat × Flags) (s : State) : Host.Outcome State Fault Refusal :=
  runBody 4 s (fun s => .ok ((s.wr d (word (r s).1)).raise (r s).2))

/-- An operation of two operands with one rounding (R134). -/
def arith2 (f : Fmt) (op : RMode → FVal → FVal → FVal × Flags) (d a b : Reg) (fn : BitVec 3) (s : State) :
    Host.Outcome State Fault Refusal :=
  writeFloat d (fun s => binF f (s.scalarMode fn) (op (s.scalarMode fn)) (s.rdFloat f a) (s.rdFloat f b)) s

/-- √a (R134). -/
def sqrtF (f : Fmt) (mode : RMode) (a : Nat) : Nat × Flags :=
  let r := sqrtV (decodeF f a)
  let v := roundF f mode false r.1
  (v.1, r.2 ||| v.2)

/-- a·b + c with one rounding (R134). -/
def fmaF (f : Fmt) (mode : RMode) (a b c : Nat) : Nat × Flags :=
  let r := fmaV mode (decodeF f a) (decodeF f b) (decodeF f c)
  let v := roundF f mode false r.1
  (v.1, r.2 ||| v.2)

/-- `fadd.f32` (R134). -/
def execFaddF32 (d a b : Reg) (fn : BitVec 3) (s : State) : Host.Outcome State Fault Refusal :=
  arith2 fp32 opAdd d a b fn s

/-- `fsub.f32` (R134). -/
def execFsubF32 (d a b : Reg) (fn : BitVec 3) (s : State) : Host.Outcome State Fault Refusal :=
  arith2 fp32 opSub d a b fn s

/-- `fmul.f32` (R134). -/
def execFmulF32 (d a b : Reg) (fn : BitVec 3) (s : State) : Host.Outcome State Fault Refusal :=
  arith2 fp32 (fun _ => mulV) d a b fn s

/-- `fdiv.f32` (R134). -/
def execFdivF32 (d a b : Reg) (fn : BitVec 3) (s : State) : Host.Outcome State Fault Refusal :=
  arith2 fp32 (fun _ => divV) d a b fn s

/-- `fsqrt.f32` (R134). -/
def execFsqrtF32 (d a : Reg) (fn : BitVec 3) (s : State) : Host.Outcome State Fault Refusal :=
  writeFloat d (fun s => sqrtF fp32 (s.scalarMode fn) (s.rdFloat fp32 a)) s

/-- `ffma.f32` adds S[D] (R134). -/
def execFfmaF32 (d a b : Reg) (fn : BitVec 3) (s : State) : Host.Outcome State Fault Refusal :=
  writeFloat d (fun s => fmaF fp32 (s.scalarMode fn) (s.rdFloat fp32 a) (s.rdFloat fp32 b) (s.rdFloat fp32 d)) s

/-- `fmin.f32` (R135). -/
def execFminF32 (d a b : Reg) (s : State) : Host.Outcome State Fault Refusal :=
  writeFloat d (fun s => minmaxF fp32 minV (s.rdFloat fp32 a) (s.rdFloat fp32 b)) s

/-- `fmax.f32` (R135). -/
def execFmaxF32 (d a b : Reg) (s : State) : Host.Outcome State Fault Refusal :=
  writeFloat d (fun s => minmaxF fp32 maxV (s.rdFloat fp32 a) (s.rdFloat fp32 b)) s

/-- `fcmp.f32` (R136). -/
def execFcmpF32 (d a b : Reg) (p : BitVec 2) (s : State) : Host.Outcome State Fault Refusal :=
  writeFloat d (fun s => let r := compareF fp32 p (s.rdFloat fp32 a) (s.rdFloat fp32 b)
    (if r.1 then 1 else 0, r.2)) s

/-- `fcvt.f32` (R139, R140). -/
def execFcvtF32 (d a : Reg) (fn : BitVec 3) (c : Reg) (s : State) : Host.Outcome State Fault Refusal :=
  runBody 4 s (fun s => let r := convertF fp32 fp64 (s.scalarMode fn) c (s.rd a)
    .ok ((s.wr d r.1).raise r.2))

/-- `fclass.f32` (R137). -/
def execFclassF32 (d a : Reg) (s : State) : Host.Outcome State Fault Refusal :=
  writeInt 4 d (fun s => word (classOf fp32 (decodeF fp32 (s.rdFloat fp32 a)))) s

/-- `fsgn.f32` (R138). -/
def execFsgnF32 (d a b : Reg) (j : BitVec 2) (s : State) : Host.Outcome State Fault Refusal :=
  writeFloat d (fun s => signF fp32 j (s.rdFloat fp32 a) (s.rdFloat fp32 b)) s

/-- `fadd.f64` (R134). -/
def execFaddF64 (d a b : Reg) (fn : BitVec 3) (s : State) : Host.Outcome State Fault Refusal :=
  arith2 fp64 opAdd d a b fn s

/-- `fsub.f64` (R134). -/
def execFsubF64 (d a b : Reg) (fn : BitVec 3) (s : State) : Host.Outcome State Fault Refusal :=
  arith2 fp64 opSub d a b fn s

/-- `fmul.f64` (R134). -/
def execFmulF64 (d a b : Reg) (fn : BitVec 3) (s : State) : Host.Outcome State Fault Refusal :=
  arith2 fp64 (fun _ => mulV) d a b fn s

/-- `fdiv.f64` (R134). -/
def execFdivF64 (d a b : Reg) (fn : BitVec 3) (s : State) : Host.Outcome State Fault Refusal :=
  arith2 fp64 (fun _ => divV) d a b fn s

/-- `fsqrt.f64` (R134). -/
def execFsqrtF64 (d a : Reg) (fn : BitVec 3) (s : State) : Host.Outcome State Fault Refusal :=
  writeFloat d (fun s => sqrtF fp64 (s.scalarMode fn) (s.rdFloat fp64 a)) s

/-- `ffma.f64` adds S[D] (R134). -/
def execFfmaF64 (d a b : Reg) (fn : BitVec 3) (s : State) : Host.Outcome State Fault Refusal :=
  writeFloat d (fun s => fmaF fp64 (s.scalarMode fn) (s.rdFloat fp64 a) (s.rdFloat fp64 b) (s.rdFloat fp64 d)) s

/-- `fmin.f64` (R135). -/
def execFminF64 (d a b : Reg) (s : State) : Host.Outcome State Fault Refusal :=
  writeFloat d (fun s => minmaxF fp64 minV (s.rdFloat fp64 a) (s.rdFloat fp64 b)) s

/-- `fmax.f64` (R135). -/
def execFmaxF64 (d a b : Reg) (s : State) : Host.Outcome State Fault Refusal :=
  writeFloat d (fun s => minmaxF fp64 maxV (s.rdFloat fp64 a) (s.rdFloat fp64 b)) s

/-- `fcmp.f64` (R136). -/
def execFcmpF64 (d a b : Reg) (p : BitVec 2) (s : State) : Host.Outcome State Fault Refusal :=
  writeFloat d (fun s => let r := compareF fp64 p (s.rdFloat fp64 a) (s.rdFloat fp64 b)
    (if r.1 then 1 else 0, r.2)) s

/-- `fcvt.f64` (R139, R140). -/
def execFcvtF64 (d a : Reg) (fn : BitVec 3) (c : Reg) (s : State) : Host.Outcome State Fault Refusal :=
  runBody 4 s (fun s => let r := convertF fp64 fp32 (s.scalarMode fn) c (s.rd a)
    .ok ((s.wr d r.1).raise r.2))

/-- `fclass.f64` (R137). -/
def execFclassF64 (d a : Reg) (s : State) : Host.Outcome State Fault Refusal :=
  writeInt 4 d (fun s => word (classOf fp64 (decodeF fp64 (s.rdFloat fp64 a)))) s

/-- `fsgn.f64` (R138). -/
def execFsgnF64 (d a b : Reg) (j : BitVec 2) (s : State) : Host.Outcome State Fault Refusal :=
  writeFloat d (fun s => signF fp64 j (s.rdFloat fp64 a) (s.rdFloat fp64 b)) s

end Sys2Proof.Machine
end

