-- ==== Sys2Proof/Machine/Dispatch.lean ====
section
/-!
DEFINITION. Machine/Dispatch.lean: the one match over the instructions; each arm calls the meaning of its own.
-/

namespace Sys2Proof.Machine

/-- The meaning of an instruction. -/
def exec (i : Instr) (s : State) : Host.Outcome State Fault Refusal :=
  match i with
  | .add d a b => Sys2Proof.Machine.execAdd d a b s
  | .sub d a b => Sys2Proof.Machine.execSub d a b s
  | .mul d a b => Sys2Proof.Machine.execMul d a b s
  | .mulhS d a b => Sys2Proof.Machine.execMulhS d a b s
  | .mulhZ d a b => Sys2Proof.Machine.execMulhZ d a b s
  | .divS d a b => Sys2Proof.Machine.execDivS d a b s
  | .divZ d a b => Sys2Proof.Machine.execDivZ d a b s
  | .remS d a b => Sys2Proof.Machine.execRemS d a b s
  | .remZ d a b => Sys2Proof.Machine.execRemZ d a b s
  | .and d a b => Sys2Proof.Machine.execAnd d a b s
  | .or d a b => Sys2Proof.Machine.execOr d a b s
  | .xor d a b => Sys2Proof.Machine.execXor d a b s
  | .andn d a b => Sys2Proof.Machine.execAndn d a b s
  | .shl d a b => Sys2Proof.Machine.execShl d a b s
  | .shr d a b => Sys2Proof.Machine.execShr d a b s
  | .sha d a b => Sys2Proof.Machine.execSha d a b s
  | .minS d a b => Sys2Proof.Machine.execMinS d a b s
  | .minZ d a b => Sys2Proof.Machine.execMinZ d a b s
  | .maxS d a b => Sys2Proof.Machine.execMaxS d a b s
  | .maxZ d a b => Sys2Proof.Machine.execMaxZ d a b s
  | .sel d a b => Sys2Proof.Machine.execSel d a b s
  | .clz d a => Sys2Proof.Machine.execClz d a s
  | .popc d a => Sys2Proof.Machine.execPopc d a s
  | .extS d a b => Sys2Proof.Machine.execExtS d a b s
  | .extZ d a b => Sys2Proof.Machine.execExtZ d a b s
  | .ins d a b => Sys2Proof.Machine.execIns d a b s
  | .lea d a b sc => Sys2Proof.Machine.execLea d a b sc s
  | .rot d a b => Sys2Proof.Machine.execRot d a b s
  | .bswap d a => Sys2Proof.Machine.execBswap d a s
  | .addi d a imm => Sys2Proof.Machine.execAddi d a imm s
  | .addiLit d a l => Sys2Proof.Machine.execAddiLit d a l s
  | .andi d a imm => Sys2Proof.Machine.execAndi d a imm s
  | .andiLit d a l => Sys2Proof.Machine.execAndiLit d a l s
  | .ori d a imm => Sys2Proof.Machine.execOri d a imm s
  | .oriLit d a l => Sys2Proof.Machine.execOriLit d a l s
  | .xori d a imm => Sys2Proof.Machine.execXori d a imm s
  | .xoriLit d a l => Sys2Proof.Machine.execXoriLit d a l s
  | .shli d a imm => Sys2Proof.Machine.execShli d a imm s
  | .shliLit d a l => Sys2Proof.Machine.execShliLit d a l s
  | .shri d a imm => Sys2Proof.Machine.execShri d a imm s
  | .shriLit d a l => Sys2Proof.Machine.execShriLit d a l s
  | .shai d a imm => Sys2Proof.Machine.execShai d a imm s
  | .shaiLit d a l => Sys2Proof.Machine.execShaiLit d a l s
  | .li d imm => Sys2Proof.Machine.execLi d imm s
  | .liLit d l => Sys2Proof.Machine.execLiLit d l s
  | .leasw d a m => Sys2Proof.Machine.execLeasw d a m s
  | .cmpEq d a b => Sys2Proof.Machine.execCmpEq d a b s
  | .cmpNe d a b => Sys2Proof.Machine.execCmpNe d a b s
  | .cmpLtS d a b => Sys2Proof.Machine.execCmpLtS d a b s
  | .cmpLtZ d a b => Sys2Proof.Machine.execCmpLtZ d a b s
  | .cmpLeS d a b => Sys2Proof.Machine.execCmpLeS d a b s
  | .cmpLeZ d a b => Sys2Proof.Machine.execCmpLeZ d a b s
  | .cmpiEq d a imm => Sys2Proof.Machine.execCmpiEq d a imm s
  | .cmpiEqLit d a l => Sys2Proof.Machine.execCmpiEqLit d a l s
  | .cmpiNe d a imm => Sys2Proof.Machine.execCmpiNe d a imm s
  | .cmpiNeLit d a l => Sys2Proof.Machine.execCmpiNeLit d a l s
  | .cmpiLtS d a imm => Sys2Proof.Machine.execCmpiLtS d a imm s
  | .cmpiLtSLit d a l => Sys2Proof.Machine.execCmpiLtSLit d a l s
  | .cmpiLtZ d a imm => Sys2Proof.Machine.execCmpiLtZ d a imm s
  | .cmpiLtZLit d a l => Sys2Proof.Machine.execCmpiLtZLit d a l s
  | .cmpiLeS d a imm => Sys2Proof.Machine.execCmpiLeS d a imm s
  | .cmpiLeSLit d a l => Sys2Proof.Machine.execCmpiLeSLit d a l s
  | .cmpiLeZ d a imm => Sys2Proof.Machine.execCmpiLeZ d a imm s
  | .cmpiLeZLit d a l => Sys2Proof.Machine.execCmpiLeZLit d a l s
  | .nop => Sys2Proof.Machine.execNop s
  | .faddF32 d a b f => Sys2Proof.Machine.execFaddF32 d a b f s
  | .faddF64 d a b f => Sys2Proof.Machine.execFaddF64 d a b f s
  | .fsubF32 d a b f => Sys2Proof.Machine.execFsubF32 d a b f s
  | .fsubF64 d a b f => Sys2Proof.Machine.execFsubF64 d a b f s
  | .fmulF32 d a b f => Sys2Proof.Machine.execFmulF32 d a b f s
  | .fmulF64 d a b f => Sys2Proof.Machine.execFmulF64 d a b f s
  | .fdivF32 d a b f => Sys2Proof.Machine.execFdivF32 d a b f s
  | .fdivF64 d a b f => Sys2Proof.Machine.execFdivF64 d a b f s
  | .fsqrtF32 d a f => Sys2Proof.Machine.execFsqrtF32 d a f s
  | .fsqrtF64 d a f => Sys2Proof.Machine.execFsqrtF64 d a f s
  | .ffmaF32 d a b f => Sys2Proof.Machine.execFfmaF32 d a b f s
  | .ffmaF64 d a b f => Sys2Proof.Machine.execFfmaF64 d a b f s
  | .fminF32 d a b => Sys2Proof.Machine.execFminF32 d a b s
  | .fminF64 d a b => Sys2Proof.Machine.execFminF64 d a b s
  | .fmaxF32 d a b => Sys2Proof.Machine.execFmaxF32 d a b s
  | .fmaxF64 d a b => Sys2Proof.Machine.execFmaxF64 d a b s
  | .fcmpF32 d a b p => Sys2Proof.Machine.execFcmpF32 d a b p s
  | .fcmpF64 d a b p => Sys2Proof.Machine.execFcmpF64 d a b p s
  | .fcvtF32 d a f c => Sys2Proof.Machine.execFcvtF32 d a f c s
  | .fcvtF64 d a f c => Sys2Proof.Machine.execFcvtF64 d a f c s
  | .fclassF32 d a => Sys2Proof.Machine.execFclassF32 d a s
  | .fclassF64 d a => Sys2Proof.Machine.execFclassF64 d a s
  | .fsgnF32 d a b j => Sys2Proof.Machine.execFsgnF32 d a b j s
  | .fsgnF64 d a b j => Sys2Proof.Machine.execFsgnF64 d a b j s
  | .br o => Sys2Proof.Machine.execBr o s
  | .brLit l => Sys2Proof.Machine.execBrLit l s
  | .bcEq a o => Sys2Proof.Machine.execBcEq a o s
  | .bcEqLit a l => Sys2Proof.Machine.execBcEqLit a l s
  | .bcNe a o => Sys2Proof.Machine.execBcNe a o s
  | .bcNeLit a l => Sys2Proof.Machine.execBcNeLit a l s
  | .bcLt a o => Sys2Proof.Machine.execBcLt a o s
  | .bcLtLit a l => Sys2Proof.Machine.execBcLtLit a l s
  | .bcGe a o => Sys2Proof.Machine.execBcGe a o s
  | .bcGeLit a l => Sys2Proof.Machine.execBcGeLit a l s
  | .bcLe a o => Sys2Proof.Machine.execBcLe a o s
  | .bcLeLit a l => Sys2Proof.Machine.execBcLeLit a l s
  | .bcGt a o => Sys2Proof.Machine.execBcGt a o s
  | .bcGtLit a l => Sys2Proof.Machine.execBcGtLit a l s
  | .jmp a imm => Sys2Proof.Machine.execJmp a imm s
  | .jmpLit a l => Sys2Proof.Machine.execJmpLit a l s
  | .call a o => Sys2Proof.Machine.execCall a o s
  | .callLit a l => Sys2Proof.Machine.execCallLit a l s
  | .ret a => Sys2Proof.Machine.execRet a s
  | .loop a o => Sys2Proof.Machine.execLoop a o s
  | .loopLit a l => Sys2Proof.Machine.execLoopLit a l s
  | .endAct => Sys2Proof.Machine.execEndAct s
  | .trap imm => Sys2Proof.Machine.execTrap imm s
  | .eret => Sys2Proof.Machine.execEret s
  | .csrr d c => Sys2Proof.Machine.execCsrr d c s
  | .csrw d c => Sys2Proof.Machine.execCsrw d c s
  | .csrs d c => Sys2Proof.Machine.execCsrs d c s
  | .csrc d c => Sys2Proof.Machine.execCsrc d c s
  | .bkpt imm => Sys2Proof.Machine.execBkpt imm s
  | .synci a => Sys2Proof.Machine.execSynci a s
  | .idle a => Sys2Proof.Machine.execIdle a s
  | .idleExpiry => Sys2Proof.Machine.execIdleExpiry s
  | .ldS8 d a imm => Sys2Proof.Machine.execLdS8 d a imm s
  | .ldS8Lit d a l => Sys2Proof.Machine.execLdS8Lit d a l s
  | .ldS8Ext d base space swz off => Sys2Proof.Machine.execLdS8Ext d base space swz off s
  | .ldS8ExtLit d base space swz l => Sys2Proof.Machine.execLdS8ExtLit d base space swz l s
  | .ldZ8 d a imm => Sys2Proof.Machine.execLdZ8 d a imm s
  | .ldZ8Lit d a l => Sys2Proof.Machine.execLdZ8Lit d a l s
  | .ldZ8Ext d base space swz off => Sys2Proof.Machine.execLdZ8Ext d base space swz off s
  | .ldZ8ExtLit d base space swz l => Sys2Proof.Machine.execLdZ8ExtLit d base space swz l s
  | .ldS16 d a imm => Sys2Proof.Machine.execLdS16 d a imm s
  | .ldS16Lit d a l => Sys2Proof.Machine.execLdS16Lit d a l s
  | .ldS16Ext d base space swz off => Sys2Proof.Machine.execLdS16Ext d base space swz off s
  | .ldS16ExtLit d base space swz l => Sys2Proof.Machine.execLdS16ExtLit d base space swz l s
  | .ldZ16 d a imm => Sys2Proof.Machine.execLdZ16 d a imm s
  | .ldZ16Lit d a l => Sys2Proof.Machine.execLdZ16Lit d a l s
  | .ldZ16Ext d base space swz off => Sys2Proof.Machine.execLdZ16Ext d base space swz off s
  | .ldZ16ExtLit d base space swz l => Sys2Proof.Machine.execLdZ16ExtLit d base space swz l s
  | .ldS32 d a imm => Sys2Proof.Machine.execLdS32 d a imm s
  | .ldS32Lit d a l => Sys2Proof.Machine.execLdS32Lit d a l s
  | .ldS32Ext d base space swz off => Sys2Proof.Machine.execLdS32Ext d base space swz off s
  | .ldS32ExtLit d base space swz l => Sys2Proof.Machine.execLdS32ExtLit d base space swz l s
  | .ldZ32 d a imm => Sys2Proof.Machine.execLdZ32 d a imm s
  | .ldZ32Lit d a l => Sys2Proof.Machine.execLdZ32Lit d a l s
  | .ldZ32Ext d base space swz off => Sys2Proof.Machine.execLdZ32Ext d base space swz off s
  | .ldZ32ExtLit d base space swz l => Sys2Proof.Machine.execLdZ32ExtLit d base space swz l s
  | .ld64 d a imm => Sys2Proof.Machine.execLd64 d a imm s
  | .ld64Lit d a l => Sys2Proof.Machine.execLd64Lit d a l s
  | .ld64Ext d base space swz off => Sys2Proof.Machine.execLd64Ext d base space swz off s
  | .ld64ExtLit d base space swz l => Sys2Proof.Machine.execLd64ExtLit d base space swz l s
  | .ld128 d a imm => Sys2Proof.Machine.execLd128 d a imm s
  | .ld128Lit d a l => Sys2Proof.Machine.execLd128Lit d a l s
  | .ld128Ext d base space swz off => Sys2Proof.Machine.execLd128Ext d base space swz off s
  | .ld128ExtLit d base space swz l => Sys2Proof.Machine.execLd128ExtLit d base space swz l s
  | .st8 d a imm => Sys2Proof.Machine.execSt8 d a imm s
  | .st8Lit d a l => Sys2Proof.Machine.execSt8Lit d a l s
  | .st8Ext d base space swz off => Sys2Proof.Machine.execSt8Ext d base space swz off s
  | .st8ExtLit d base space swz l => Sys2Proof.Machine.execSt8ExtLit d base space swz l s
  | .st16 d a imm => Sys2Proof.Machine.execSt16 d a imm s
  | .st16Lit d a l => Sys2Proof.Machine.execSt16Lit d a l s
  | .st16Ext d base space swz off => Sys2Proof.Machine.execSt16Ext d base space swz off s
  | .st16ExtLit d base space swz l => Sys2Proof.Machine.execSt16ExtLit d base space swz l s
  | .st32 d a imm => Sys2Proof.Machine.execSt32 d a imm s
  | .st32Lit d a l => Sys2Proof.Machine.execSt32Lit d a l s
  | .st32Ext d base space swz off => Sys2Proof.Machine.execSt32Ext d base space swz off s
  | .st32ExtLit d base space swz l => Sys2Proof.Machine.execSt32ExtLit d base space swz l s
  | .st64 d a imm => Sys2Proof.Machine.execSt64 d a imm s
  | .st64Lit d a l => Sys2Proof.Machine.execSt64Lit d a l s
  | .st64Ext d base space swz off => Sys2Proof.Machine.execSt64Ext d base space swz off s
  | .st64ExtLit d base space swz l => Sys2Proof.Machine.execSt64ExtLit d base space swz l s
  | .st128 d a imm => Sys2Proof.Machine.execSt128 d a imm s
  | .st128Lit d a l => Sys2Proof.Machine.execSt128Lit d a l s
  | .st128Ext d base space swz off => Sys2Proof.Machine.execSt128Ext d base space swz off s
  | .st128ExtLit d base space swz l => Sys2Proof.Machine.execSt128ExtLit d base space swz l s
  | .ldf d a imm => Sys2Proof.Machine.execLdf d a imm s
  | .ldsS8 d a imm => Sys2Proof.Machine.execLdsS8 d a imm s
  | .ldsZ8 d a imm => Sys2Proof.Machine.execLdsZ8 d a imm s
  | .ldsS16 d a imm => Sys2Proof.Machine.execLdsS16 d a imm s
  | .ldsZ16 d a imm => Sys2Proof.Machine.execLdsZ16 d a imm s
  | .ldsS32 d a imm => Sys2Proof.Machine.execLdsS32 d a imm s
  | .ldsZ32 d a imm => Sys2Proof.Machine.execLdsZ32 d a imm s
  | .lds64 d a imm => Sys2Proof.Machine.execLds64 d a imm s
  | .sts8 d a imm => Sys2Proof.Machine.execSts8 d a imm s
  | .sts16 d a imm => Sys2Proof.Machine.execSts16 d a imm s
  | .sts32 d a imm => Sys2Proof.Machine.execSts32 d a imm s
  | .sts64 d a imm => Sys2Proof.Machine.execSts64 d a imm s
  | .amoAdd32 d a b sc => Sys2Proof.Machine.execAmoAdd32 d a b sc s
  | .amoAdd64 d a b sc => Sys2Proof.Machine.execAmoAdd64 d a b sc s
  | .amoMinS32 d a b sc => Sys2Proof.Machine.execAmoMinS32 d a b sc s
  | .amoMinS64 d a b sc => Sys2Proof.Machine.execAmoMinS64 d a b sc s
  | .amoMinZ32 d a b sc => Sys2Proof.Machine.execAmoMinZ32 d a b sc s
  | .amoMinZ64 d a b sc => Sys2Proof.Machine.execAmoMinZ64 d a b sc s
  | .amoMaxS32 d a b sc => Sys2Proof.Machine.execAmoMaxS32 d a b sc s
  | .amoMaxS64 d a b sc => Sys2Proof.Machine.execAmoMaxS64 d a b sc s
  | .amoMaxZ32 d a b sc => Sys2Proof.Machine.execAmoMaxZ32 d a b sc s
  | .amoMaxZ64 d a b sc => Sys2Proof.Machine.execAmoMaxZ64 d a b sc s
  | .amoAnd32 d a b sc => Sys2Proof.Machine.execAmoAnd32 d a b sc s
  | .amoAnd64 d a b sc => Sys2Proof.Machine.execAmoAnd64 d a b sc s
  | .amoOr32 d a b sc => Sys2Proof.Machine.execAmoOr32 d a b sc s
  | .amoOr64 d a b sc => Sys2Proof.Machine.execAmoOr64 d a b sc s
  | .amoXor32 d a b sc => Sys2Proof.Machine.execAmoXor32 d a b sc s
  | .amoXor64 d a b sc => Sys2Proof.Machine.execAmoXor64 d a b sc s
  | .amoXchg32 d a b sc => Sys2Proof.Machine.execAmoXchg32 d a b sc s
  | .amoXchg64 d a b sc => Sys2Proof.Machine.execAmoXchg64 d a b sc s
  | .amoCas32 d a b sc => Sys2Proof.Machine.execAmoCas32 d a b sc s
  | .amoCas64 d a b sc => Sys2Proof.Machine.execAmoCas64 d a b sc s
  | .amoCas128 d a b sc => Sys2Proof.Machine.execAmoCas128 d a b sc s
  | .amoFaddF32 d a b sc => Sys2Proof.Machine.execAmoFaddF32 d a b sc s
  | .ldx32 d a sc => Sys2Proof.Machine.execLdx32 d a sc s
  | .ldx64 d a sc => Sys2Proof.Machine.execLdx64 d a sc s
  | .stx32 d a sc => Sys2Proof.Machine.execStx32 d a sc s
  | .stx64 d a sc => Sys2Proof.Machine.execStx64 d a sc s
  | .ldacq64 d a sc => Sys2Proof.Machine.execLdacq64 d a sc s
  | .strel64 d a sc => Sys2Proof.Machine.execStrel64 d a sc s
  | .fence sc => Sys2Proof.Machine.execFence sc s
  | .xfence sc m => Sys2Proof.Machine.execXfence sc m s
  | .vaddVv d a b f => Sys2Proof.Machine.execVaddVv d a b f s
  | .vaddVs d a b f => Sys2Proof.Machine.execVaddVs d a b f s
  | .vaddVq d a b f => Sys2Proof.Machine.execVaddVq d a b f s
  | .vsubVv d a b f => Sys2Proof.Machine.execVsubVv d a b f s
  | .vsubVs d a b f => Sys2Proof.Machine.execVsubVs d a b f s
  | .vsubVq d a b f => Sys2Proof.Machine.execVsubVq d a b f s
  | .vmulVv d a b f => Sys2Proof.Machine.execVmulVv d a b f s
  | .vmulVs d a b f => Sys2Proof.Machine.execVmulVs d a b f s
  | .vmulVq d a b f => Sys2Proof.Machine.execVmulVq d a b f s
  | .vminVv d a b => Sys2Proof.Machine.execVminVv d a b s
  | .vminVs d a b => Sys2Proof.Machine.execVminVs d a b s
  | .vminVq d a b => Sys2Proof.Machine.execVminVq d a b s
  | .vmaxVv d a b => Sys2Proof.Machine.execVmaxVv d a b s
  | .vmaxVs d a b => Sys2Proof.Machine.execVmaxVs d a b s
  | .vmaxVq d a b => Sys2Proof.Machine.execVmaxVq d a b s
  | .vfmaVv d a b f => Sys2Proof.Machine.execVfmaVv d a b f s
  | .vfmaVs d a b f => Sys2Proof.Machine.execVfmaVs d a b f s
  | .vfmaVq d a b f => Sys2Proof.Machine.execVfmaVq d a b f s
  | .vabs d a => Sys2Proof.Machine.execVabs d a s
  | .vneg d a => Sys2Proof.Machine.execVneg d a s
  | .vcvt d a f t => Sys2Proof.Machine.execVcvt d a f t s
  | .vscale d a b f => Sys2Proof.Machine.execVscale d a b f s
  | .vsum d a f => Sys2Proof.Machine.execVsum d a f s
  | .vdot d a b f => Sys2Proof.Machine.execVdot d a b f s
  | .vdotQ d a b f => Sys2Proof.Machine.execVdotQ d a b f s
  | .vcmp d a b p => Sys2Proof.Machine.execVcmp d a b p s
  | .vsel d a b => Sys2Proof.Machine.execVsel d a b s
  | .vclass d a => Sys2Proof.Machine.execVclass d a s
  | .vcopy d a => Sys2Proof.Machine.execVcopy d a s
  | .vcopyW d a => Sys2Proof.Machine.execVcopyW d a s
  | .vcopyWAll d a => Sys2Proof.Machine.execVcopyWAll d a s
  | .vfill d a => Sys2Proof.Machine.execVfill d a s
  | .vfillI d a => Sys2Proof.Machine.execVfillI d a s
  | .vfillB d a => Sys2Proof.Machine.execVfillB d a s
  | .vgath d a b => Sys2Proof.Machine.execVgath d a b s
  | .vq4 d a b => Sys2Proof.Machine.execVq4 d a b s
  | .vrng d a => Sys2Proof.Machine.execVrng d a s
  | .vmaxabs d a => Sys2Proof.Machine.execVmaxabs d a s
  | .viadd d a b => Sys2Proof.Machine.execViadd d a b s
  | .visub d a b => Sys2Proof.Machine.execVisub d a b s
  | .vimul d a b => Sys2Proof.Machine.execVimul d a b s
  | .viand d a b => Sys2Proof.Machine.execViand d a b s
  | .vior d a b => Sys2Proof.Machine.execVior d a b s
  | .vixor d a b => Sys2Proof.Machine.execVixor d a b s
  | .vishl d a b => Sys2Proof.Machine.execVishl d a b s
  | .vishr d a b f => Sys2Proof.Machine.execVishr d a b f s
  | .vidx d a b => Sys2Proof.Machine.execVidx d a b s
  | .vpack d a b => Sys2Proof.Machine.execVpack d a b s
  | .vunpk d a b => Sys2Proof.Machine.execVunpk d a b s
  | .vrcp d a f => Sys2Proof.Machine.execVrcp d a f s
  | .vrsqrt d a f => Sys2Proof.Machine.execVrsqrt d a f s
  | .waitf d a imm => Sys2Proof.Machine.execWaitf d a imm s
  | .waitfLit d a l => Sys2Proof.Machine.execWaitfLit d a l s
  | .waite d a imm => Sys2Proof.Machine.execWaite d a imm s
  | .waiteLit d a l => Sys2Proof.Machine.execWaiteLit d a l s
  | .advp d a imm => Sys2Proof.Machine.execAdvp d a imm s
  | .advpLit d a l => Sys2Proof.Machine.execAdvpLit d a l s
  | .advc d a imm => Sys2Proof.Machine.execAdvc d a imm s
  | .advcLit d a l => Sys2Proof.Machine.execAdvcLit d a l s
  | .hset d a imm => Sys2Proof.Machine.execHset d a imm s
  | .hget d a imm => Sys2Proof.Machine.execHget d a imm s
  | .hmov d a => Sys2Proof.Machine.execHmov d a s
  | .hld d a imm => Sys2Proof.Machine.execHld d a imm s
  | .hldLit d a l => Sys2Proof.Machine.execHldLit d a l s
  | .hst d a imm => Sys2Proof.Machine.execHst d a imm s
  | .hstLit d a l => Sys2Proof.Machine.execHstLit d a l s
  | .send d a b => Sys2Proof.Machine.execSend d a b s
  | .sendSp d a b => Sys2Proof.Machine.execSendSp d a b s
  | .sendCode d a b => Sys2Proof.Machine.execSendCode d a b s
  | .sendNz d a b => Sys2Proof.Machine.execSendNz d a b s
  | .sendw d a b => Sys2Proof.Machine.execSendw d a b s
  | .sendwSp d a b => Sys2Proof.Machine.execSendwSp d a b s
  | .sendwCode d a b => Sys2Proof.Machine.execSendwCode d a b s
  | .sendwNz d a b => Sys2Proof.Machine.execSendwNz d a b s
  | .relw d => Sys2Proof.Machine.execRelw d s
  | .wcnt d a => Sys2Proof.Machine.execWcnt d a s
  | .ckpt => Sys2Proof.Machine.execCkpt s
  | .yield => Sys2Proof.Machine.execYield s
  | .tstamp d => Sys2Proof.Machine.execTstamp d s
  | .spawn d a b => Sys2Proof.Machine.execSpawn d a b s
  | .abort => Sys2Proof.Machine.execAbort s
  | .fnfit d a b c => Sys2Proof.Machine.execFnfit d a b c s
  | .fnld d a imm => Sys2Proof.Machine.execFnld d a imm s
  | .fnldLit d a l => Sys2Proof.Machine.execFnldLit d a l s
  | .fnst d a imm => Sys2Proof.Machine.execFnst d a imm s
  | .fnstLit d a l => Sys2Proof.Machine.execFnstLit d a l s
  | .fnadd d a b c => Sys2Proof.Machine.execFnadd d a b c s
  | .fnsub d a b c => Sys2Proof.Machine.execFnsub d a b c s
  | .fnmul d a b c => Sys2Proof.Machine.execFnmul d a b c s
  | .fnscale d a b c => Sys2Proof.Machine.execFnscale d a b c s
  | .fncomp d a b c => Sys2Proof.Machine.execFncomp d a b c s
  | .fnint d a c => Sys2Proof.Machine.execFnint d a c s
  | .fnder d a c => Sys2Proof.Machine.execFnder d a c s
  | .fnroot d a b => Sys2Proof.Machine.execFnroot d a b s
  | .fneval d a b c => Sys2Proof.Machine.execFneval d a b c s
  | .fnevs d a b c => Sys2Proof.Machine.execFnevs d a b c s
  | .fntrunc d a b c => Sys2Proof.Machine.execFntrunc d a b c s
  | .fndom d a b => Sys2Proof.Machine.execFndom d a b s
  | .fnfree d => Sys2Proof.Machine.execFnfree d s
  | .fnlen d a => Sys2Proof.Machine.execFnlen d a s
  | .fnmov d a c => Sys2Proof.Machine.execFnmov d a c s
  | .pdict a => Sys2Proof.Machine.execPdict a s
  | .pimg a => Sys2Proof.Machine.execPimg a s
  | .pthr a b => Sys2Proof.Machine.execPthr a b s
  | .penc d a b => Sys2Proof.Machine.execPenc d a b s
  | .pacc d a => Sys2Proof.Machine.execPacc d a s
  | .pesc d a => Sys2Proof.Machine.execPesc d a s
  | .pdec d a => Sys2Proof.Machine.execPdec d a s
  | .pgrad d a b => Sys2Proof.Machine.execPgrad d a b s
  | .pstat d => Sys2Proof.Machine.execPstat d s
  | .mxq a b => Sys2Proof.Machine.execMxq a b s
  | .mxseq d => Sys2Proof.Machine.execMxseq d s
  | .mxwait a => Sys2Proof.Machine.execMxwait a s
  | .accmv d a b => Sys2Proof.Machine.execAccmv d a b s
  | .accpk d a b => Sys2Proof.Machine.execAccpk d a b s
  | .mxLdw => Sys2Proof.Machine.execMxLdw s
  | .mxMma mis => Sys2Proof.Machine.execMxMma mis s
  | .mxMmat mis => Sys2Proof.Machine.execMxMmat mis s
  | .mxStacc => Sys2Proof.Machine.execMxStacc s
  | .mxZero => Sys2Proof.Machine.execMxZero s
  | .mxChk => Sys2Proof.Machine.execMxChk s
  | .admode m => Sys2Proof.Machine.execAdmode m s
  | .adld d a imm => Sys2Proof.Machine.execAdld d a imm s
  | .adldLit d a l => Sys2Proof.Machine.execAdldLit d a l s
  | .adst d a imm => Sys2Proof.Machine.execAdst d a imm s
  | .adstLit d a l => Sys2Proof.Machine.execAdstLit d a l s
  | .adclr d a imm => Sys2Proof.Machine.execAdclr d a imm s
  | .adclrLit d a l => Sys2Proof.Machine.execAdclrLit d a l s
  | .tmark d => Sys2Proof.Machine.execTmark d s
  | .trew a => Sys2Proof.Machine.execTrew a s
  | .tstat d => Sys2Proof.Machine.execTstat d s
  | .lkset a => Sys2Proof.Machine.execLkset a s
  | .lkget d => Sys2Proof.Machine.execLkget d s
  | .qbind d a => Sys2Proof.Machine.execQbind d a s
  | .qpush d a => Sys2Proof.Machine.execQpush d a s
  | .nxld d a n => Sys2Proof.Machine.execNxld d a n s
  | .nxst d a n => Sys2Proof.Machine.execNxst d a n s
  | .balloc d => Sys2Proof.Machine.execBalloc d s
  | .bfree a => Sys2Proof.Machine.execBfree a s
  | .barr d a b c => Sys2Proof.Machine.execBarr d a b c s
  | .barrM d a b c => Sys2Proof.Machine.execBarrM d a b c s
  | .barrMCs d a b c => Sys2Proof.Machine.execBarrMCs d a b c s
  | .bwait d a b => Sys2Proof.Machine.execBwait d a b s
  | .bwaitCs d a b => Sys2Proof.Machine.execBwaitCs d a b s
  | .bwaitGv d a b => Sys2Proof.Machine.execBwaitGv d a b s
  | .btest d a b => Sys2Proof.Machine.execBtest d a b s
  | .btestCs d a b => Sys2Proof.Machine.execBtestCs d a b s
  | .btestGv d a b => Sys2Proof.Machine.execBtestGv d a b s
  | .barto => Sys2Proof.Machine.execBarto s
  | .barrierChangeNotice => Sys2Proof.Machine.execBarrierChangeNotice s
  | .capxfer a b => Sys2Proof.Machine.execCapxfer a b s
  | .capq d a => Sys2Proof.Machine.execCapq d a s
  | .circ d a b => Sys2Proof.Machine.execCirc d a b s
  | .circrel a => Sys2Proof.Machine.execCircrel a s
  | .sopen d a b => Sys2Proof.Machine.execSopen d a b s
  | .sclose a => Sys2Proof.Machine.execSclose a s
  | .cp d a c => Sys2Proof.Machine.execCp d a c s
  | .cpt d a c => Sys2Proof.Machine.execCpt d a c s
  | .gath d a b c => Sys2Proof.Machine.execGath d a b c s
  | .cpwp d c => Sys2Proof.Machine.execCpwp d c s
  | .cpwait c => Sys2Proof.Machine.execCpwait c s
  | .engseq d a => Sys2Proof.Machine.execEngseq d a s
  | .halo d a c => Sys2Proof.Machine.execHalo d a c s
  | .lclock d => Sys2Proof.Machine.execLclock d s
  | .engineUnit c => Sys2Proof.Machine.execEngineUnit c s
  | .pst d a imm => Sys2Proof.Machine.execPst d a imm s
  | .pstLit d a l => Sys2Proof.Machine.execPstLit d a l s
  | .pstb d a imm => Sys2Proof.Machine.execPstb d a imm s
  | .pstbLit d a l => Sys2Proof.Machine.execPstbLit d a l s
  | .redst d a imm => Sys2Proof.Machine.execRedst d a imm s
  | .redstLit d a l => Sys2Proof.Machine.execRedstLit d a l s
  | .redq d a => Sys2Proof.Machine.execRedq d a s
  | .wake a => Sys2Proof.Machine.execWake a s
  | .sigx a => Sys2Proof.Machine.execSigx a s
  | .mark d imm => Sys2Proof.Machine.execMark d imm s
  | .packetPlacement p num => Sys2Proof.Machine.execPacketPlacement p s num
  | .unboundArrivalAnswer slot entry => Sys2Proof.Machine.execUnboundArrivalAnswer slot entry s
  | .activationStart => Sys2Proof.Machine.execActivationStart s
  | .heldRequest r num => Sys2Proof.Machine.execHeldRequest r s num
  | .applyNotice r data val num => Sys2Proof.Machine.execApplyNotice r data val s num
  | .dropNotice r num => Sys2Proof.Machine.execDropNotice r s num
  | .commitAcknowledgement => Sys2Proof.Machine.execCommitAcknowledgement s
  | .speculationEnd => Sys2Proof.Machine.execSpeculationEnd s
  | .preempt flight => Sys2Proof.Machine.execPreempt flight s
  | .contextSave => Sys2Proof.Machine.execContextSave s
  | .contextResume k => Sys2Proof.Machine.execContextResume s k
  | .partitionSwitch part => Sys2Proof.Machine.execPartitionSwitch part s
  | .parkedActivationReturn imm retire => Sys2Proof.Machine.execParkedActivationReturn imm retire s
  | .linkPassThrough toNext arrival => Sys2Proof.Machine.execLinkPassThrough toNext arrival s
  | .circuitIdleTimeout key => Sys2Proof.Machine.execCircuitIdleTimeout key s
  | .closingMarker c => Sys2Proof.Machine.execClosingMarker c s
  | .setupFlit r num => Sys2Proof.Machine.execSetupFlit r s num
  | .setupGrant src => Sys2Proof.Machine.execSetupGrant src s
  | .syncPacket core die slot n => Sys2Proof.Machine.execSyncPacket core die slot n s
  | .wakePlacement p count part ksel => Sys2Proof.Machine.execWakePlacement p count s part ksel
  | .kernelInstall k => Sys2Proof.Machine.execKernelInstall k s
  | .kernelRemoval ksel => Sys2Proof.Machine.execKernelRemoval ksel s
  | .slotRecordWrite idx rec others => Sys2Proof.Machine.execSlotRecordWrite idx rec s others
  | .quantumEnd => Sys2Proof.Machine.execQuantumEnd s
  | .clockChange mhz => Sys2Proof.Machine.execClockChange mhz s
  | .thermalThrottle mhz => Sys2Proof.Machine.execThermalThrottle mhz s
  | .thermalPreemption => Sys2Proof.Machine.execThermalPreemption s
  | .thermalResume => Sys2Proof.Machine.execThermalResume s
  | .thermalTrip => Sys2Proof.Machine.execThermalTrip s
  | .boot r => Sys2Proof.Machine.execBoot r s
  | .attestationRequest nonce => Sys2Proof.Machine.execAttestationRequest nonce s
  | .hostBarAccess r => Sys2Proof.Machine.execHostBarAccess r s
  | .hostDma r => Sys2Proof.Machine.execHostDma r s
  | .sliceAccess r => Sys2Proof.Machine.execSliceAccess r s
  | .hbmFill line core => Sys2Proof.Machine.execHbmFill line s core
  | .calderaRefreshStart bank => Sys2Proof.Machine.execCalderaRefreshStart bank s
  | .calderaRefreshEnd bank => Sys2Proof.Machine.execCalderaRefreshEnd bank s
  | .tlbWalk va kind => Sys2Proof.Machine.execTlbWalk va kind s
  | .firmwareInvalidation va => Sys2Proof.Machine.execFirmwareInvalidation va s
  | .migration granule frame frames => Sys2Proof.Machine.execMigration granule frame s frames
  | .migrationCopyComplete granule res => Sys2Proof.Machine.execMigrationCopyComplete granule res s
  | .hotnessRead granule => Sys2Proof.Machine.execHotnessRead granule s
  | .uncorrectableError site => Sys2Proof.Machine.execUncorrectableError site s
  | .correctableError cls die => Sys2Proof.Machine.execCorrectableError cls s die
  | .fabricRequest src num r => Sys2Proof.Machine.execFabricRequest src num r s
  | .fabricResendTimeout pkg kind => Sys2Proof.Machine.execFabricResendTimeout pkg kind s
  | .flitCrcFailure link => Sys2Proof.Machine.execFlitCrcFailure link s
  | .onDieLinkCrcFailure link noRoute => Sys2Proof.Machine.execOnDieLinkCrcFailure link noRoute s
  | .leaseRecall granule => Sys2Proof.Machine.execLeaseRecall granule s
  | .leaseHolderFailed pkg => Sys2Proof.Machine.execLeaseHolderFailed pkg s
  | .reduceContribution core addr val num => Sys2Proof.Machine.execReduceContribution core addr val s num
  | .geyserTick others => Sys2Proof.Machine.execGeyserTick others s
  | .counterRotate => Sys2Proof.Machine.execCounterRotate s
  | .debugStop passed => Sys2Proof.Machine.execDebugStop passed s
  | .debugResume => Sys2Proof.Machine.execDebugResume s
  | .breakResume => Sys2Proof.Machine.execBreakResume s
  | .patch addr words => Sys2Proof.Machine.execPatch addr words s
  | .replayLogDrain => Sys2Proof.Machine.execReplayLogDrain s
  | .frmWrite v => Sys2Proof.Machine.execFrmWrite v s
  | .fntolWrite v => Sys2Proof.Machine.execFntolWrite v s
  | .pmselWrite v => Sys2Proof.Machine.execPmselWrite v s
  | .csrWrite c v => Sys2Proof.Machine.execCsrWrite c v s
  | .nonInstruction w bit => Sys2Proof.Machine.execNonInstruction w bit s
  | .placementAcknowledgement => Sys2Proof.Machine.execPlacementAcknowledgement s
  | .atomicReply => Sys2Proof.Machine.execAtomicReply s
  | .holdAnswer => Sys2Proof.Machine.execHoldAnswer s
  | .managementEthernetFrame f => Sys2Proof.Machine.execManagementEthernetFrame f s

end Sys2Proof.Machine
end

