-- ==== Sys2Proof/Machine/Turn.lean ====
section
/-!
DEFINITION. Machine/Turn.lean: what happens in one turn of the core: time passes, what works beside the core moves, a wait
goes on, or an instruction is fetched (spec/02 R37, R38, R40, R59) and run.
-/

namespace Sys2Proof.Machine

/-! ### Fetching (R37, R38, R40) -/

/-- The cached word at a code address. -/
def State.cachedWord (s : State) (a : Word) : Option (BitVec 32) :=
  (s.core.icache.find? (fun c => c.addr == a.toNat && c.part == s.pkg.part && c.asid == s.core.asid)).map (·.word)

/-- The word at a home address before the changes of code that fetches may still miss (R40). Log entry 103 (DEDUCED). -/
def State.oldWord (s : State) (pa : Nat) : BitVec 32 :=
  BitVec.ofNat 32 (natOfBytes ((List.range 4).map (fun i => (assoc (pa + i) s.core.codeOld).getD (s.die.mem.get (pa + i)))))

/-- The word that a fetch yields where memory holds `m` and held `old`: a cached word, or an old one that differs may still be
seen (R40). Log entry 103 (DEDUCED). -/
def State.fetchedWord (s : State) (a : Word) (old m : BitVec 32) : BitVec 32 :=
  let o := match s.cachedWord a with
    | some c => if c = m then old else c
    | none => old
  if o = m then m else if Config.fetchOld s.fresh a.toNat then o else m

/-- Fetches one word: rows 1 and 3 to 5 of R126, then poison; a fault's TVAL is the address of the word (R38). Stores in
the write log are not seen (R40). Log entries 101 (DEDUCED), 102 (DEDUCED). -/
def State.fetchWord (s : State) (a : Word) : Except Exc (BitVec 32) :=
  match need (canonical a) (.trap cILLOPD a) with
  | .error e => .error e
  | .ok _ =>
    match s.translate a .fetch needX with
    | .error e => .error e
    | .ok e =>
      match checks [need e.accR (.trap cACCF a), need e.formatOk (.trap cFMTF a),
          s.leaseCheck (e.physical a) a { askLoad with kind := .fetch }, s.poisonCheck (e.physical a) 4] with
      | .error x => .error x
      | .ok _ => .ok (s.fetchedWord a (s.oldWord (e.physical a)) (BitVec.ofNat 32 (s.die.mem.nat (e.physical a) 4)))

/-- Fetches `n` words in ascending address order. -/
def State.fetchWords (s : State) (a : Word) : Nat → Except Exc (List (BitVec 32))
  | 0 => .ok []
  | n + 1 => match s.fetchWord a with
    | .error e => .error e
    | .ok w => match State.fetchWords s (a + 4) n with
      | .error e => .error e
      | .ok ws => .ok (w :: ws)

/-- Fetches every word of the instruction at the PC (R37, R38). -/
def State.fetch (s : State) : Except Exc (List (BitVec 32)) :=
  match s.fetchWord s.run.ctx.pc with
  | .error e => .error e
  | .ok w => match s.fetchWords (s.run.ctx.pc + 4) (wordCount (lenOf w) - 1) with
    | .error e => .error e
    | .ok ws => .ok (w :: ws)

/-- The instruction cache holds a fetched word. Log entry 103 (DEDUCED). -/
def State.cacheWord (s : State) (a : Word) (w : BitVec 32) : State :=
  if s.cachedWord a = some w then s
  else
    let c : CodeWord := ⟨s.pkg.part, s.core.asid, a.toNat, w⟩
    { s with core := { s.core with
        icache := c :: s.core.icache.filter (fun d => !(d.addr == c.addr && d.part == c.part && d.asid == c.asid)) } }

/-- The instruction cache holds the fetched words. -/
def State.cacheWords (s : State) (a : Word) : List (BitVec 32) → State
  | [] => s
  | w :: ws => State.cacheWords (s.cacheWord a w) (a + 4) ws

/-- What the words at the PC are (R59). -/
noncomputable def decodeFetched (ws : List (BitVec 32)) : Except DecodeError Instr :=
  match Words.ofList ws with
  | none => .error .truncated
  | some x => decodeWords x

/-! ### What works beside the core -/

/-- The next unit of a channel's work may be done (R357): when is a free choice. Log entry 105 (DESIGN CHOICE). -/
def State.moveChan (s : State) (i : BitVec 3) : State :=
  match (s.chan i).queue with
  | [] => s
  | _ :: _ => if Config.moves s.fresh i.toNat then s.engineUnit i else s

/-- Whether a replay holds the unit at the count that the next `accpk` of the log read (R249, R467). Log entry 130 (DEDUCED). -/
def State.mxHeld (s : State) : Bool :=
  s.dbg.replayMode && (match s.dbg.replay.find? (fun e => fieldOf e 0 8 == ReplaySource.accpk.code) with
    | some e => decide (fieldOf e 64 64 ≤ s.run.mx.seq)
    | none => false)

/-- The next step of the matrix unit may be done (R243). Log entry 105 (DESIGN CHOICE). -/
def State.moveMatrix (s : State) : State :=
  match s.run.mx.queue with
  | [] => s
  | _ :: _ => if Config.moves s.fresh 8 && !s.mxHeld then s.mxTurn else s

/-- Packets that wait or are on their way to the core itself may be placed (R99, R108). Log entry 105 (DESIGN CHOICE). -/
def State.movePackets (s : State) : State :=
  match s.net.waiting ++ s.net.flight with
  | [] => s
  | _ :: _ => if Config.moves s.fresh 9 then s.settleArrivals else s

/-- Circuits close when their idle timers run out, and the core's own markers follow its packets (R348). Log entry
74 (DEDUCED). -/
def State.moveCircuits (s : State) : State :=
  match s.net.circs, s.net.rcircs with
  | [], [] => s
  | _, _ =>
    let s := (s.net.circs.map (·.key)).foldl (fun s k => s.idleClose k) s
    s.ownMarks.foldl State.closeId s

/-- Set-ups that wait are answered as soon as they can be (R349). -/
def State.moveSetups (s : State) : State :=
  match s.net.setups with
  | [] => s
  | _ :: _ => s.grantAll

/-- Time passes and what works beside the core moves. Log entries 66 (DESIGN CHOICE), 105 (DESIGN CHOICE). -/
def State.turn (s : State) : State :=
  State.movePatches (State.moveHost (State.moveSetups (State.moveCircuits (State.movePackets (State.moveMatrix
    (qregs.foldl State.moveChan s.passStep))))))

/-! ### A wait goes on (R407) -/

/-- The wait ends, and the instruction tests its condition again. -/
def State.retry (s : State) : State := { s with run := { s.run with stall := none } }

/-- A quantum's end where the mode has them, else a new test (R403). -/
def State.retryOrEnd (s : State) : State := if s.det then s.quantumTurn else s.retry

/-- Every channel does one unit of work. -/
def State.engineStep (s : State) : State := qregs.foldl State.engineUnit s

/-- The commit asks its next home, or takes an answer (R94). -/
def State.holdStep (s : State) : State :=
  if s.die.answers.any (fun a => a.1.core == s.lcore) then s.holdAnswer
  else match s.run.commit with
    | some c => match c.pending with
      | r :: _ => s.holdRequest r
      | [] => s.settle c
    | none => s.retry

/-- The step that the wait of the running instruction makes. Log entries 64 (DEDUCED), 104 (DEDUCED). -/
def State.progress (s : State) : Wait → State
  | .idle =>
    if s.run.idleDone then s.retryOrEnd
    else if !s.idleMayEnd || s.replayStalls .idle then (if s.det then s.quantumTurn else s)
    else
      let s := s.record .idle 0
      { s with run := { s.run with idleDone := true, stall := if s.det then s.run.stall else none } }
  | .ring _ goal => if goal.isSome then s.engineStep.retryOrEnd else s.engineStep.retry
  | .acks => s.commitAck
  | .hold => s.holdStep
  | .speculation => s.endSpeculation
  | .quantum => s.retryOrEnd
  | .deferred => s.retryOrEnd
  | .engine _ => s.engineStep.retry
  | .engineRoom _ => s.engineStep.retry
  | .engines => s.engineStep.retry
  | .matrix => s.mxTurn.retry
  | .matrixRoom => s.mxTurn.retry
  | .bwait =>
    State.retryOrEnd { s with run := { s.run with waited := max 1 (s.run.waited - 1) } }
  | .stream _ => s.retryOrEnd
  | .link next =>
    if s.det then s.quantumTurn
    else if Config.linkTaken s.fresh then ((s.linkMove next none).testLinks).tick
    else s.tick
  | .placement => if s.det then s.quantumTurn else s.settleArrivals.placementAck
  | .migration => s.retry
  | .walk va kind => s.endWalk va kind
  | .round => s.retryOrEnd
  | .streamOpen => s.retryOrEnd
  | .replay => s.retry

/-! ### One turn of the core -/

/-- With no activation on the core: arrivals are placed, a stop is settled, a quantum ends, or the next one starts. -/
def State.idleTurn (s : State) : State :=
  let s := s.settleArrivals.settleStop
  if s.core.halt.isSome then s
  else if s.net.queue.isEmpty then s.quantumTurn
  else s.startNext

/-- Whether the core issues nothing (R407, R411, R427, R464, R465). Log entry 106 (DEDUCED). -/
def State.held (s : State) : Bool := !s.pkg.booted || s.core.halt.isSome || s.pkg.thermalHold || s.inPlace.isSome

/-- An activation that is to park does so, or waits on (R412). -/
def State.parkNow (s : State) : State :=
  match s.run.parking with
  | some r => s.tryPark r
  | none => s

/-- The record of a page fault that a replay feeds back: the log holds its cause only (R467). Log entry 130 (DEDUCED). -/
def State.fedFault (s : State) (cause : Nat) : FaultRec :=
  ⟨s.run.ctx.pc, 0, 0, s.lcore, .read, 0, 0, false, BitVec.ofNat 6 cause⟩

/-- An abort that the replay log feeds back does what its cause does: a page fault parks, an ordering conflict or a refused commit
restarts, and every other retires the activation (R116, R411, R467). Log entry 130 (DEDUCED). -/
def State.feedAbort (s : State) (cause : Nat) : State :=
  if cause = cPAGEF || cause = cPAGEF2 then
    (((s.traceAbort cause).abortCore).report (.pageFault (s.fedFault cause))).tryPark (s.fedFault cause)
  else if cause = cORDABORT || cause = cCAPF then (s.traceAbort cause).abort
  else s.abortRetire cause

/-- What an activation does in a turn in which it issues no instruction, if this is such a turn: an abort that waited for the
replay log (R468), a LINKF that was held (R434), an abort that the replay log feeds back (R467), its end (R114), its park
(R412), a wait, the quantum's end (R402), or the reply that is owed (R388). Log entries 66 (DESIGN CHOICE), 130 (DEDUCED). -/
def State.otherTurn (s : State) : Option (Host.Outcome State Fault Refusal) :=
  if s.run.late.isSome then some (.next (s.takeLate (s.run.late.getD .order)))
  else if s.pkg.linkf.isSome && s.takesLinkf then some (.next (s.linkFault (s.pkg.linkf.getD 0)))
  else if s.takesLinkf && s.abortFed.isSome then some (.next (s.feedAbort (s.abortFed.getD 0)))
  else match s.run.stall with
    | some w => some (.next (s.progress w))
    | none =>
      if s.run.retiring then some (execAbort s)
      else if s.run.parking.isSome then some (.next (s.parkNow))
      else if s.det && s.atQuantumEnd then some (.next s.quantumTurn)
      else if s.run.owed.isSome then some (.next { s with run := s.run.reply })
      else none

/-- Fetches, decodes and runs the instruction at the PC (R38, R59). -/
noncomputable def State.issue (s : State) : Host.Outcome State Fault Refusal :=
  match s.fetch with
  | .error e => .next (s.raiseExc (s.run.ctx.pc + 4) e)
  | .ok ws =>
    let s := s.cacheWords s.run.ctx.pc ws
    match decodeFetched ws with
    | .ok i => exec i s
    | .error (.illopd b) => execNonInstruction (ws.headD 0) (some b) s
    | .error _ => execNonInstruction (ws.headD 0) none s

/-- One turn of the core. -/
noncomputable def State.coreTurn (s : State) : Host.Outcome State Fault Refusal :=
  if s.held then .next s
  else match s.run.act with
    | none => .next s.idleTurn
    | some _ => match s.otherTurn with
      | some o => o
      | none => s.issue

end Sys2Proof.Machine
end

