-- ==== Sys2Proof/Machine/Step.lean ====
section
/-!
DEFINITION. Machine/Step.lean: one step of the machine: the next event of the outside world, or a turn of the core; and the
placing of one instruction where the next step fetches it (log entry 6).
-/

namespace Sys2Proof.Machine

/-- What a turn leaves where a pre-emption came within its instruction (R161, R407). -/
def State.settled (s : State) (o : Host.Outcome State Fault Refusal) : Host.Outcome State Fault Refusal :=
  match s.core.stopAt, o with
  | some _, .next t => .next t.settlePreempt
  | _, o => o

/-- A turn of the core, and what came within it. -/
noncomputable def State.wholeTurn (s : State) : Host.Outcome State Fault Refusal := s.turn.settled s.turn.coreTurn

/-- One step: the oldest input, an event row of the table that comes to pass now, or else a turn of the core. Log entries
6 (DESIGN CHOICE), 66 (DESIGN CHOICE), 96 (DEDUCED). -/
noncomputable def step (s : State) : Host.Outcome State Fault Refusal :=
  if s.pkg.powered then
    match s.inputs with
    | some e :: rest => exec e { s with inputs := rest }
    | none :: rest => State.wholeTurn { s with inputs := rest }
    | [] => s.wholeTurn
  else .fault .powerOff

/-- The virtual page that `withFetchWord` maps, in granules, and its home in the core's own package. -/
def fetchGranule : Nat := 1

/-- The home address of that page. -/
def State.fetchHome (s : State) : Nat := s.phys.toNat / 2 ^ 12 * 2 ^ 42 + fetchGranule * 65536

/-- The translation of that page: code that both levels may execute. Log entry 6 (DESIGN CHOICE). -/
def State.fetchEntry (s : State) : TlbEntry where
  part := s.pkg.part
  asid := s.core.asid
  va := fetchGranule
  pa := s.fetchHome
  ipa := 0
  psize := 65536
  fpage := 65536
  frame := 0
  r1 := true
  w1 := false
  x1 := true
  u1 := true
  r2 := true
  w2 := false
  x2 := true
  u2 := true
  lvl1 := 3
  lvl2 := 3
  fmt := 0
  t := false
  g := 0
  ad := false
  frames := []
  accR := true
  accW := false
  accA := false
  grant := .shared

/-- An activation at an entry, for the load that `withFetchWord` stands for. Log entry 6 (DESIGN CHOICE). -/
def State.loadedAct (s : State) (entry : Word) : Act := ⟨0, 0, 0, 0, 0, entry, 0, s.pkg.part, 0, 0, 0, 0, false, s.core.serial⟩

/-- The state with an instruction placed where the next step fetches it: the booted core runs an activation whose PC is the
first byte of a mapped page of code that holds the instruction. Log entry 6 (DESIGN CHOICE). -/
def State.withFetchWord (s : State) (nbits w : Nat) : State :=
  let pc := word (fetchGranule * 65536)
  { s with
    run := { s.run with
      act := some (s.loadedAct pc), ctx := { s.run.ctx with pc := pc }, stall := none, retiring := false, owed := none, part := 0, partIdx := []
      late := none, sent := none, redst := none, lost := [], parking := none }
    core := { s.core with itlb := s.fetchEntry :: s.core.itlb, icache := [], codeOld := [], stopAt := none, halt := none }
    die := { s.die with
      mem := s.die.mem.put s.fetchHome (bytesOfNat 20 (w % 2 ^ nbits))
      poison := s.die.poison.filter (fun l => l != s.fetchHome / 64)
      gpoison := s.die.gpoison.filter (fun g => g != s.fetchHome / 65536) }
    pkg := { s.pkg with powered := true, booted := true, det := false, linkf := none, thermalHold := false }
    dbg := { s.dbg with replayMode := false }
    inPlace := none
    inputs := [] }

end Sys2Proof.Machine
end

