-- ==== Sys2Proof/Safety.lean ====
section
/-!
DEFINITION. Safety.lean: the terms that statements use: the invariant of the machine's memory, what a retired instruction
changes of the state and what it keeps (spec/05 R117, R119; spec/23 R460), and the way an exception enters its handler (R125).
-/

namespace Sys2Proof.Machine

/-- The memory invariant: the one memory is in canonical form, so that equal memories are equal data (R4). -/
def State.MemOk (s : State) : Prop := s.die.mem.wf = true

/-- `t` differs from `s` at most in the running context, in what a retiring instruction clears of a wait, in RETIRED, the
counters and the trace: memory, the write log, every queue, table, slot, channel and unit is as it was. -/
def State.Kept (s t : State) : Prop :=
  t = { s with
    run := { s.run with
      ctx := t.run.ctx, stall := t.run.stall, waited := t.run.waited, served := t.run.served
      idleDone := t.run.idleDone, sent := t.run.sent, part := t.run.part, partIdx := t.run.partIdx
      watch := t.run.watch, freed := t.run.freed, redst := t.run.redst }
    core := { s.core with retired := t.core.retired, pm := t.core.pm }
    dbg := { s.dbg with trace := t.dbg.trace, lost := t.dbg.lost } }

/-- The instruction retired: RETIRED and LIC count it, nothing waits, and PC is `pc` (R119, R401). -/
def State.RetiredAt (s t : State) (pc : Word) : Prop :=
  t.run.ctx.pc = pc ∧ t.run.ctx.lic = s.run.ctx.lic + 1 ∧ t.core.retired = s.core.retired + 1 ∧ t.run.stall = none

/-- The context after an instruction that writes only scalar registers and flags: every other register, among them the
handles, windows, streams, control and status registers and the exception registers, is as it was. -/
def Ctx.OnlyScalars (c d : Ctx) (fl : Flags) : Prop :=
  d = { c with s := d.s, pc := d.pc, lic := d.lic, fflags := c.fflags ||| fl }

/-- `i` at `s` retires in `len` bytes, writes `v` to S[d] (nothing where `d` is 0, R10), raises `fl`, and leaves every other
register and every byte of memory, as the activation reads it, as they were. -/
def WritesScalar (i : Instr) (s : State) (d : Reg) (v : Word) (fl : Flags) (len : Nat) : Prop :=
  ∃ t, exec i s = .next t ∧ s.RetiredAt t (s.run.ctx.pc + BitVec.ofNat 64 len) ∧
    (∀ r, t.rd r = if r = 0 then 0 else if r = d then v else s.rd r) ∧
    Ctx.OnlyScalars s.run.ctx t.run.ctx fl ∧ s.Kept t ∧ ∀ a, t.seen a = s.seen a

/-- `t` differs from `s` as `Kept` says, and by the records that debugging makes: the trace and the replay log (R457, R467). -/
def State.KeptButDebug (s t : State) : Prop := State.Kept { s with dbg := t.dbg } t

/-- `i` at `s` retires and writes to S[d] a value that the replay log may record (R467); it changes nothing else. -/
def ReadsScalar (i : Instr) (s : State) (d : Reg) (v : Word) (len : Nat) : Prop :=
  ∃ t, exec i s = .next t ∧ s.RetiredAt t (s.run.ctx.pc + BitVec.ofNat 64 len) ∧
    (∀ r, t.rd r = if r = 0 then 0 else if r = d then v else s.rd r) ∧
    Ctx.OnlyScalars s.run.ctx t.run.ctx 0 ∧ s.KeptButDebug t ∧ ∀ a, t.seen a = s.seen a

/-- `i` at `s` retires with `target` as the next PC and changes no other register and no byte of memory. -/
def GoesTo (i : Instr) (s : State) (target : Word) : Prop :=
  ∃ t, exec i s = .next t ∧ s.RetiredAt t target ∧ t.run.ctx = { s.run.ctx with pc := target, lic := t.run.ctx.lic } ∧
    s.Kept t ∧ ∀ a, t.seen a = s.seen a

/-- `i` at `s` takes a trap into its handler (R125): EPC holds `ret`, TCAUSE and TVAL the cause and its value, PPRIV the old
level; the level is supervisor and the next PC is TVEC. Nothing retires, and no other register and no byte of memory changes. -/
def EntersTrap (i : Instr) (s : State) (cause : Nat) (val ret : Word) : Prop :=
  ∃ t, exec i s = .next t ∧
    t.run.ctx = { s.run.ctx with
      pc := s.core.tvec, epc := ret, tcause := BitVec.ofNat 6 cause, tval := val, priv := true, ppriv := false } ∧
    t.run.stall = none ∧ t.core.retired = s.core.retired ∧ s.Kept t ∧ ∀ a, t.seen a = s.seen a

/-- Rows 1 to 6 of R126 for `n` bytes at `a` in a space pass, with `l` as the place, whatever a failing row 1 would raise. -/
def State.Reaches (s : State) (space : Nat) (a : Word) (n : Nat) (q : Ask) (l : Loc) : Prop :=
  ∀ bad, s.access space a bad n q noCheck noCheck = .ok l

/-- What a load leaves as it was: all of the homes, the network interface, the package, and every unit of the core. A load
may set read-set bits (R95), tag lines (R102) and wait for a refreshing bank of the caldera (R312), in which time the counter sets
may rotate (R460). -/
def State.KeptByLoad (s t : State) : Prop :=
  State.Kept { s with
    run := { s.run with readSet := t.run.readSet, readTags := t.run.readTags, deps := t.run.deps }
    core := { s.core with pmActive := t.core.pmActive, pmLeft := t.core.pmLeft }
    cycle := t.cycle } t

/-- Byte `k` of a unit of storage at `u` is `v` after a store: in the core's own scratchpad at once, else in the write log
(R93, R151). -/
def State.Stored (s t : State) (u k : Nat) (v : Byte) : Prop :=
  if s.ownSp u then t.die.mem.get (u + k) = v else t.run.log.find (u + k) = some v

/-- A byte of memory is as it was: at its home, in the write log, and as the activation reads it. -/
def State.SameByte (s t : State) (a : Nat) : Prop :=
  t.die.mem.get a = s.die.mem.get a ∧ t.run.log.find a = s.run.log.find a ∧ t.seen a = s.seen a

/-- Whether an address lies in a list of units of storage. -/
def inUnits (us : List (Nat × Nat)) (a : Nat) : Bool := us.any (fun u => decide (u.1 ≤ a) && decide (a < u.1 + u.2))

/-- Only bytes of the listed units of storage may have changed. -/
def State.SameOutside (s t : State) (us : List (Nat × Nat)) : Prop := ∀ a, inUnits us a = false → s.SameByte t a

/-- `t`'s context keeps every register of `s`'s: scalars, handles, functions, windows, the control and status registers, the
level and the exception registers; flags may only be added (R21). -/
def Ctx.SameRegisters (c d : Ctx) : Prop :=
  d.s = c.s ∧ d.h = c.h ∧ d.f = c.f ∧ d.w = c.w ∧ d.frm = c.frm ∧ d.admode = c.admode ∧ d.seed = c.seed ∧
    d.fntol = c.fntol ∧ d.circidle = c.circidle ∧ d.priv = c.priv ∧ d.ppriv = c.ppriv ∧ d.epc = c.epc ∧
    d.tcause = c.tcause ∧ d.tval = c.tval ∧ d.tscratch = c.tscratch ∧ d.fflags &&& c.fflags = c.fflags

/-- What a store leaves as it was: everything but memory, what other paths may still see of the scratchpad (R162), the log, and
the line tags of ordered activations (R102). -/
def State.KeptByStore (s t : State) : Prop :=
  State.Kept { s with
    run := { s.run with log := t.run.log, writeTags := t.run.writeTags }
    die := { s.die with mem := t.die.mem, stale := t.die.stale, tags := t.die.tags } } t

/-- A trap taken here enters its handler: the level is user level and TVEC is set (R124). -/
def State.Trappable (s : State) : Prop := s.run.ctx.priv = false ∧ s.core.tvec ≠ 0

end Sys2Proof.Machine
end

