-- ==== Sys2Proof/Certificates/Slice0/Obligations.lean ====
section
/-!
DEFINITION. Certificates/Slice0/Obligations.lean: the statements for the provers. The tables of namespace Sys2Proof.Claims list,
instruction by instruction, what a statement says of each; a statement says it for every entry of its table.
-/

open Sys2Proof Sys2Proof.Machine

namespace Sys2Proof.Claims

/-- Writes of one scalar register beside effects on other units. -/
def WroteReg (s t : State) (d : Reg) (v : Word) : Prop := ∀ r, t.rd r = if r = 0 then 0 else if r = d then v else s.rd r

/-- A checkpoint that has nothing to wait for and no poison to report (R94, R101, R334, R336, R439). -/
def settled (s : State) : Bool :=
  !s.speculative && s.commitPoison.isNone && !s.logMigrating && !s.logRoundFull && s.run.commit.isNone && s.heldRequests.isEmpty

/-- `t` differs from `s` as `KeptButDebug` says, and by what the activation has observed of the writes of other paths (R162). -/
def Observed (s t : State) : Prop :=
  State.KeptButDebug { s with run := { s.run with path := { s.run.path with done := t.run.path.done } } } t

/-- `i` at `s` retires with the next PC `target`, has observed what other units have completed (R162), and changes nothing else. -/
def ObservesTo (i : Instr) (s : State) (target : Word) : Prop :=
  ∃ t, exec i s = .next t ∧ s.RetiredAt t target ∧ t.run.ctx = { s.run.ctx with pc := target, lic := t.run.ctx.lic } ∧
    Observed s t ∧ t.dbg.replay = s.dbg.replay ∧ ∀ a, t.seen a = s.seen a

/-- `i` at `s` retires, writes to S[d] a value that the replay log may record (R467), has observed what other units have completed
(R162), and changes nothing else. -/
def ObservesScalar (i : Instr) (s : State) (d : Reg) (v : Word) (len : Nat) : Prop :=
  ∃ t, exec i s = .next t ∧ s.RetiredAt t (s.run.ctx.pc + BitVec.ofNat 64 len) ∧
    (∀ r, t.rd r = if r = 0 then 0 else if r = d then v else s.rd r) ∧
    Ctx.OnlyScalars s.run.ctx t.run.ctx 0 ∧ Observed s t ∧ ∀ a, t.seen a = s.seen a

end Sys2Proof.Claims

namespace Sys2Proof.Claims

/-! ### Integer (R127 to R132) -/

/-- The larger and the smaller of two words under an order. -/
def pick (lt : Bool) (x y : Word) : Word := if lt then x else y

/-- The number of one bits of a word. -/
def ones (x : Word) : Nat := ((List.range 64).filter x.getLsbD).length

/-- The number of leading zero bits of a word, 0 to 64. -/
def leading (x : Word) : Nat := if x = 0 then 64 else 63 - Nat.log2 x.toNat

/-- A word with its eight bytes in reverse order. -/
def swapped (x : Word) : Word :=
  x.extractLsb' 0 8 ++ x.extractLsb' 8 8 ++ x.extractLsb' 16 8 ++ x.extractLsb' 24 8 ++
  x.extractLsb' 32 8 ++ x.extractLsb' 40 8 ++ x.extractLsb' 48 8 ++ x.extractLsb' 56 8

/-- The rows of R127: the destination and t, but for the divisions and the fields. -/
def registerForm (i : Instr) : Option (Reg × (State → Word)) :=
  match i with
  | .add d a b => some (d, fun s => s.rd a + s.rd b)
  | .sub d a b => some (d, fun s => s.rd a - s.rd b)
  | .mul d a b => some (d, fun s => s.rd a * s.rd b)
  | .mulhS d a b => some (d, fun s => (((s.rd a).signExtend 128 * (s.rd b).signExtend 128) >>> 64).setWidth 64)
  | .mulhZ d a b => some (d, fun s => (((s.rd a).setWidth 128 * (s.rd b).setWidth 128) >>> 64).setWidth 64)
  | .and d a b => some (d, fun s => s.rd a &&& s.rd b)
  | .or d a b => some (d, fun s => s.rd a ||| s.rd b)
  | .xor d a b => some (d, fun s => s.rd a ^^^ s.rd b)
  | .andn d a b => some (d, fun s => s.rd a &&& ~~~s.rd b)
  | .shl d a b => some (d, fun s => s.rd a <<< (s.rd b).setWidth 6)
  | .shr d a b => some (d, fun s => s.rd a >>> (s.rd b).setWidth 6)
  | .sha d a b => some (d, fun s => (s.rd a).sshiftRight' ((s.rd b).setWidth 6))
  | .minS d a b => some (d, fun s => pick ((s.rd a).sle (s.rd b)) (s.rd a) (s.rd b))
  | .minZ d a b => some (d, fun s => pick ((s.rd a).ule (s.rd b)) (s.rd a) (s.rd b))
  | .maxS d a b => some (d, fun s => pick ((s.rd b).sle (s.rd a)) (s.rd a) (s.rd b))
  | .maxZ d a b => some (d, fun s => pick ((s.rd b).ule (s.rd a)) (s.rd a) (s.rd b))
  | .sel d a b => some (d, fun s => if s.rd d = 0 then s.rd b else s.rd a)
  | .clz d a => some (d, fun s => BitVec.ofNat 64 (leading (s.rd a)))
  | .popc d a => some (d, fun s => BitVec.ofNat 64 (ones (s.rd a)))
  | .lea d a b k => some (d, fun s => s.rd a + s.rd b <<< k)
  | .rot d a b => some (d, fun s => (s.rd a).rotateLeft ((s.rd b).setWidth 6).toNat)
  | .bswap d a => some (d, fun s => swapped (s.rd a))
  | _ => none

/-- R128: quotient and remainder, truncating towards zero, and the rows of its table. -/
def divisionForm (i : Instr) : Option (Reg × (State → Word)) :=
  match i with
  | .divS d a b => some (d, fun s => if s.rd b = 0 then BitVec.allOnes 64 else (s.rd a).sdiv (s.rd b))
  | .divZ d a b => some (d, fun s => if s.rd b = 0 then BitVec.allOnes 64 else (s.rd a).udiv (s.rd b))
  | .remS d a b => some (d, fun s => if s.rd b = 0 then s.rd a else (s.rd a).srem (s.rd b))
  | .remZ d a b => some (d, fun s => if s.rd b = 0 then s.rd a else (s.rd a).umod (s.rd b))
  | _ => none

/-- The field of R129: bits lo to h. -/
def lowBit (b : Word) : Nat := (b.extractLsb' 0 6).toNat
def highBit (b : Word) : Nat := min (lowBit b + (b.extractLsb' 8 6).toNat + 1) 64 - 1

/-- Bit k of the result of `ext.z`, `ext.s` and `ins` (R129). -/
def extZBit (a b : Word) (k : Nat) : Bool := decide (lowBit b + k ≤ highBit b) && a.getLsbD (lowBit b + k)
def extSBit (a b : Word) (k : Nat) : Bool := a.getLsbD (min (lowBit b + k) (highBit b))
def insBit (old a b : Word) (k : Nat) : Bool :=
  if lowBit b ≤ k ∧ k ≤ highBit b then a.getLsbD (k - lowBit b) else old.getLsbD k

/-- The operand i of an immediate form and what it makes of a := S[A] (R130, R131): its destination, the value and the
length of the instruction. -/
def immediateForm (i : Instr) : Option (Reg × (State → Word) × Nat) :=
  match i with
  | .addi d a n => some (d, fun s => s.rd a + n.signExtend 64, 4)
  | .addiLit d a n => some (d, fun s => s.rd a + n, 12)
  | .andi d a n => some (d, fun s => s.rd a &&& n.signExtend 64, 4)
  | .andiLit d a n => some (d, fun s => s.rd a &&& n, 12)
  | .ori d a n => some (d, fun s => s.rd a ||| n.signExtend 64, 4)
  | .oriLit d a n => some (d, fun s => s.rd a ||| n, 12)
  | .xori d a n => some (d, fun s => s.rd a ^^^ n.signExtend 64, 4)
  | .xoriLit d a n => some (d, fun s => s.rd a ^^^ n, 12)
  | .li d n => some (d, fun _ => n.signExtend 64, 4)
  | .liLit d n => some (d, fun _ => n, 12)
  | .nop => some (0, fun _ => 0, 4)
  | _ => none

/-- The shifts by an immediate from 0 to 63 (R130): the shift amount and the value. -/
def shiftForm (i : Instr) : Option (Reg × Word × (State → Word) × Nat) :=
  match i with
  | .shli d a n => some (d, n.signExtend 64, fun s => s.rd a <<< n.toNat, 4)
  | .shliLit d a n => some (d, n, fun s => s.rd a <<< n.toNat, 12)
  | .shri d a n => some (d, n.signExtend 64, fun s => s.rd a >>> n.toNat, 4)
  | .shriLit d a n => some (d, n, fun s => s.rd a >>> n.toNat, 12)
  | .shai d a n => some (d, n.signExtend 64, fun s => (s.rd a).sshiftRight n.toNat, 4)
  | .shaiLit d a n => some (d, n, fun s => (s.rd a).sshiftRight n.toNat, 12)
  | _ => none

/-- The address that the banks see under swizzle mode m (R47, R132). -/
def banked (m : BitVec 3) (x : Word) : Word :=
  if m = 0 then x else x ^^^ (((x >>> (7 + m.toNat)) &&& 0x1F) <<< 3)

/-- The compares (R131): the destination, the relation and the length. -/
def compareForm (i : Instr) : Option (Reg × (State → Bool) × Nat) :=
  match i with
  | .cmpEq d a b => some (d, fun s => s.rd a == s.rd b, 4)
  | .cmpNe d a b => some (d, fun s => s.rd a != s.rd b, 4)
  | .cmpLtS d a b => some (d, fun s => (s.rd a).slt (s.rd b), 4)
  | .cmpLtZ d a b => some (d, fun s => (s.rd a).ult (s.rd b), 4)
  | .cmpLeS d a b => some (d, fun s => (s.rd a).sle (s.rd b), 4)
  | .cmpLeZ d a b => some (d, fun s => (s.rd a).ule (s.rd b), 4)
  | .cmpiEq d a n => some (d, fun s => s.rd a == n.signExtend 64, 4)
  | .cmpiEqLit d a n => some (d, fun s => s.rd a == n, 12)
  | .cmpiNe d a n => some (d, fun s => s.rd a != n.signExtend 64, 4)
  | .cmpiNeLit d a n => some (d, fun s => s.rd a != n, 12)
  | .cmpiLtS d a n => some (d, fun s => (s.rd a).slt (n.signExtend 64), 4)
  | .cmpiLtSLit d a n => some (d, fun s => (s.rd a).slt n, 12)
  | .cmpiLtZ d a n => some (d, fun s => (s.rd a).ult (n.signExtend 64), 4)
  | .cmpiLtZLit d a n => some (d, fun s => (s.rd a).ult n, 12)
  | .cmpiLeS d a n => some (d, fun s => (s.rd a).sle (n.signExtend 64), 4)
  | .cmpiLeSLit d a n => some (d, fun s => (s.rd a).sle n, 12)
  | .cmpiLeZ d a n => some (d, fun s => (s.rd a).ule (n.signExtend 64), 4)
  | .cmpiLeZLit d a n => some (d, fun s => (s.rd a).ule n, 12)
  | _ => none

/-- A relation as the word that a compare writes. -/
def truth (b : Bool) : Word := if b then 1 else 0

/-! ### Scalar floating point (R133 to R140) -/

/-- An exact result and its flags, rounded once to a format: the register result of R133 and the flags of R16. -/
def rounded (f : Fmt) (m : RMode) (r : FVal × Flags) : Word × Flags :=
  (BitVec.ofNat 64 (roundF f m false r.1).1, r.2 ||| (roundF f m false r.1).2)

/-- The value of a scalar source of a format (R133): the low 32 bits for FP32, all 64 for FP64. -/
def src (s : State) (f : Fmt) (r : Reg) : FVal := decodeF f ((s.rd r).toNat % 2 ^ f.w)

/-- R134: the operations of a format that round once by the FN of R62; `ffma` adds S[D]. -/
def arithmeticForm (i : Instr) : Option (Reg × (State → Word × Flags)) :=
  match i with
  | .faddF32 d a b n => some (d, fun s => rounded fp32 (s.scalarMode n) (addV (s.scalarMode n) (src s fp32 a) (src s fp32 b)))
  | .faddF64 d a b n => some (d, fun s => rounded fp64 (s.scalarMode n) (addV (s.scalarMode n) (src s fp64 a) (src s fp64 b)))
  | .fsubF32 d a b n => some (d, fun s =>
      rounded fp32 (s.scalarMode n) (addV (s.scalarMode n) (src s fp32 a) (src s fp32 b).negate))
  | .fsubF64 d a b n => some (d, fun s =>
      rounded fp64 (s.scalarMode n) (addV (s.scalarMode n) (src s fp64 a) (src s fp64 b).negate))
  | .fmulF32 d a b n => some (d, fun s => rounded fp32 (s.scalarMode n) (mulV (src s fp32 a) (src s fp32 b)))
  | .fmulF64 d a b n => some (d, fun s => rounded fp64 (s.scalarMode n) (mulV (src s fp64 a) (src s fp64 b)))
  | .fdivF32 d a b n => some (d, fun s => rounded fp32 (s.scalarMode n) (divV (src s fp32 a) (src s fp32 b)))
  | .fdivF64 d a b n => some (d, fun s => rounded fp64 (s.scalarMode n) (divV (src s fp64 a) (src s fp64 b)))
  | .fsqrtF32 d a n => some (d, fun s => rounded fp32 (s.scalarMode n) (sqrtV (src s fp32 a)))
  | .fsqrtF64 d a n => some (d, fun s => rounded fp64 (s.scalarMode n) (sqrtV (src s fp64 a)))
  | .ffmaF32 d a b n => some (d, fun s =>
      rounded fp32 (s.scalarMode n) (fmaV (s.scalarMode n) (src s fp32 a) (src s fp32 b) (src s fp32 d)))
  | .ffmaF64 d a b n => some (d, fun s =>
      rounded fp64 (s.scalarMode n) (fmaV (s.scalarMode n) (src s fp64 a) (src s fp64 b) (src s fp64 d)))
  | _ => none

/-- The codes of R139: T up to 8, and SAT only toward the two 8-bit formats. -/
def conversionOk (c : BitVec 6) : Prop :=
  (c.setWidth 4).toNat ≤ 8 ∧ (c.getLsbD 5 = true → c.getLsbD 4 = false ∧ (c.setWidth 4 = 6#4 ∨ c.setWidth 4 = 7#4))

/-- The floating-point formats that T names, the other width under 8 (R139). -/
def conversionFormat (other : Fmt) (t : BitVec 4) : Fmt :=
  if t = 4 then fp16 else if t = 5 then bf16 else if t = 6 then e4m3 else if t = 7 then e5m2 else other

/-- The integer that `±k·2^e` rounds to in a mode, and whether it is another number (R14, R31). -/
def integral (m : RMode) (neg : Bool) (k : Nat) (e : Int) : Nat × Bool :=
  let n := 2 ^ (-e).toNat
  let x := k * 2 ^ e.toNat
  let r := x % n
  let up := match m with
    | .rz => false
    | .rdn => neg && r != 0
    | .rup => !neg && r != 0
    | _ => decide (n < 2 * r) || (decide (2 * r = n) && x / n % 2 == 1)
  (x / n + (if up then 1 else 0), r != 0)

/-- The least and the greatest integer of the types that T names (R139). -/
def integerRange (t : BitVec 4) : Int × Int :=
  if t = 0 then (-2147483648, 2147483647) else if t = 1 then (0, 4294967295)
  else if t = 2 then (-9223372036854775808, 9223372036854775807) else (0, 18446744073709551615)

/-- A value as an integer of a type (R31): NaN gives 0, what lies outside the nearest end of the range, each with NV. -/
def toInteger (t : BitVec 4) (m : RMode) (v : FVal) : Word × Flags :=
  let lo := (integerRange t).1
  let hi := (integerRange t).2
  match v with
  | .nan _ => (0, flNV)
  | .inf neg => (BitVec.ofInt 64 (if neg then lo else hi), flNV)
  | .fin neg k e =>
    let r := integral m neg k e
    let x : Int := if neg then -(r.1 : Int) else r.1
    if x < lo then (BitVec.ofInt 64 lo, flNV) else if hi < x then (BitVec.ofInt 64 hi, flNV)
    else (BitVec.ofInt 64 x, if r.2 then flNX else 0)

/-- The integer that a source register holds as a type (R140). -/
def fromInteger (t : BitVec 4) (a : Word) : Int :=
  if t = 0 then (a.extractLsb' 0 32).toInt else if t = 1 then (a.extractLsb' 0 32).toNat
  else if t = 2 then a.toInt else a.toNat

/-- The result and the flags of `fcvt` in the form's format, from the code and S[A] (R139, R140). -/
def conversion (form other : Fmt) (m : RMode) (c : BitVec 6) (a : Word) : Word × Flags :=
  let t := c.setWidth 4
  let sat := c.getLsbD 5
  let out := fun (f : Fmt) (s : Bool) (v : FVal) => (BitVec.ofNat 64 (roundF f m s v).1, (roundF f m s v).2)
  if c.getLsbD 4 then
    (if t.toNat < 4 then
      let x := fromInteger t a
      out form false (.fin (decide (x < 0)) x.natAbs 0)
    else out form false (decodeF (conversionFormat other t) (a.toNat % 2 ^ (conversionFormat other t).w)))
  else if t.toNat < 4 then toInteger t m (decodeF form (a.toNat % 2 ^ form.w))
  else out (conversionFormat other t) sat (decodeF form (a.toNat % 2 ^ form.w))

/-- The smaller or larger of two values (R135): a NaN loses, −0 is below +0. -/
def smaller (x y : FVal) : FVal :=
  if x.isNan then y else if y.isNan then x else if ltV x y || (eqV x y && x.neg?) then x else y
def larger (x y : FVal) : FVal :=
  if x.isNan then y else if y.isNan then x else if ltV y x || (eqV x y && !x.neg?) then x else y

/-- NV when an operand is a signalling NaN, or when any is a NaN (R135, R136). -/
def signalling (x y : FVal) : Flags := if x.isSig || y.isSig then flNV else 0
def unordered (x y : FVal) : Flags := if x.isNan || y.isNan then flNV else 0

/-- Exact choices and predicates (R135 to R137): the result and the flags. -/
def choiceForm (i : Instr) : Option (Reg × (State → Word × Flags)) :=
  let mm := fun (f : Fmt) (g : FVal → FVal → FVal) (d a b : Reg) => some (d, fun (s : State) =>
    (BitVec.ofNat 64 (roundF f .rne false (g (src s f a) (src s f b))).1, signalling (src s f a) (src s f b)))
  let cmp := fun (f : Fmt) (p : BitVec 2) (d a b : Reg) => some (d, fun (s : State) =>
    let x := src s f a
    let y := src s f b
    let nan := x.isNan || y.isNan
    if p = 0 then (truth (!nan && eqV x y), signalling x y)
    else if p = 1 then (truth (!nan && ltV x y), unordered x y)
    else if p = 2 then (truth (!nan && leV x y), unordered x y)
    else (truth nan, signalling x y))
  match i with
  | .fminF32 d a b => mm fp32 smaller d a b
  | .fminF64 d a b => mm fp64 smaller d a b
  | .fmaxF32 d a b => mm fp32 larger d a b
  | .fmaxF64 d a b => mm fp64 larger d a b
  | .fcmpF32 d a b p => cmp fp32 p d a b
  | .fcmpF64 d a b p => cmp fp64 p d a b
  | _ => none

/-- The bit of the class mask of an encoding of `w` bits with `fb` fraction bits (R137). -/
def classBit (w fb x : Nat) : Nat :=
  let neg := x / 2 ^ (w - 1) % 2 = 1
  let e := x / 2 ^ fb % 2 ^ (w - 1 - fb)
  let m := x % 2 ^ fb
  if e = 2 ^ (w - 1 - fb) - 1 then (if m = 0 then (if neg then 0 else 7) else if m < 2 ^ (fb - 1) then 8 else 9)
  else if e = 0 then (if m = 0 then (if neg then 3 else 4) else if neg then 2 else 5)
  else if neg then 1 else 6

/-- `fclass` (R137): the destination and the mask. -/
def classForm (i : Instr) : Option (Reg × (State → Word)) :=
  match i with
  | .fclassF32 d a => some (d, fun s => BitVec.ofNat 64 (2 ^ classBit 32 23 ((s.rd a).toNat % 2 ^ 32)))
  | .fclassF64 d a => some (d, fun s => BitVec.ofNat 64 (2 ^ classBit 64 52 (s.rd a).toNat))
  | _ => none

/-- `fsgn` (R138): the sign that a form takes from the signs of both operands. -/
def newSign (j : BitVec 2) (x y : Bool) : Bool := if j = 0 then y else if j = 1 then !y else x != y

/-- `fsgn` on encodings of `n + 1` bits, with the canonical NaN and the NaN test of the format (R138). -/
def signResult (n : Nat) (quiet : Word) (nan sig : Bool) (j : BitVec 2) (x y : Word) : Word × Flags :=
  if nan then (quiet, if sig then flNV else 0)
  else (BitVec.ofNat 64 (x.toNat % 2 ^ n + if newSign j (x.getLsbD n) (y.getLsbD n) then 2 ^ n else 0), 0)

/-- `fsgn` (R138): the destination, the result and the flags. -/
def signForm (i : Instr) : Option (Reg × (State → Word × Flags)) :=
  match i with
  | .fsgnF32 d a b j => some (d, fun s =>
      signResult 31 0x7FC00000 (src s fp32 a).isNan (src s fp32 a).isSig j (s.rd a) (s.rd b))
  | .fsgnF64 d a b j => some (d, fun s =>
      signResult 63 0x7FF8000000000000 (src s fp64 a).isNan (src s fp64 a).isSig j (s.rd a) (s.rd b))
  | _ => none

/-! ### Control flow (R141 to R143) -/

/-- The branches (R141): the condition, the offset in words and the length. -/
def branchForm (i : Instr) : Option ((State → Bool) × Word × Nat) :=
  let zero := fun (a : Reg) (p : Int → Bool) (s : State) => p (s.rd a).toInt
  match i with
  | .br o => some (fun _ => true, o.signExtend 64, 4)
  | .brLit o => some (fun _ => true, o, 12)
  | .bcEq a o => some (zero a (fun x => x == 0), o.signExtend 64, 4)
  | .bcEqLit a o => some (zero a (fun x => x == 0), o, 12)
  | .bcNe a o => some (zero a (fun x => x != 0), o.signExtend 64, 4)
  | .bcNeLit a o => some (zero a (fun x => x != 0), o, 12)
  | .bcLt a o => some (zero a (fun x => decide (x < 0)), o.signExtend 64, 4)
  | .bcLtLit a o => some (zero a (fun x => decide (x < 0)), o, 12)
  | .bcGe a o => some (zero a (fun x => decide (x ≥ 0)), o.signExtend 64, 4)
  | .bcGeLit a o => some (zero a (fun x => decide (x ≥ 0)), o, 12)
  | .bcLe a o => some (zero a (fun x => decide (x ≤ 0)), o.signExtend 64, 4)
  | .bcLeLit a o => some (zero a (fun x => decide (x ≤ 0)), o, 12)
  | .bcGt a o => some (zero a (fun x => decide (x > 0)), o.signExtend 64, 4)
  | .bcGtLit a o => some (zero a (fun x => decide (x > 0)), o, 12)
  | _ => none

/-- The jumps to a register (R142): the target. -/
def jumpForm (i : Instr) : Option (State → Word) :=
  match i with
  | .jmp a n => some (fun s => s.rd a + n.signExtend 64)
  | .jmpLit a n => some (fun s => s.rd a + n)
  | .ret a => some (fun s => s.rd a)
  | _ => none

/-- The calls and the loops (R142, R143): the register written, its new value, the offset in words if it branches, and the
length. -/
def linkForm (i : Instr) : Option (Reg × (State → Word) × (State → Option Word) × Nat) :=
  match i with
  | .call a o => some (a, fun s => s.run.ctx.pc + 4, fun _ => some (o.signExtend 64), 4)
  | .callLit a o => some (a, fun s => s.run.ctx.pc + 12, fun _ => some o, 12)
  | .loop a o => some (a, fun s => s.rd a - 1,
      fun s => if a = 0 ∨ s.rd a - 1 = 0 then none else some (o.signExtend 64), 4)
  | .loopLit a o => some (a, fun s => s.rd a - 1, fun s => if a = 0 ∨ s.rd a - 1 = 0 then none else some o, 12)
  | _ => none

/-- Where a CSR may be read or written: the supervisor's own CSRs 0x100 to 0x105 at supervisor level only, and the event
counters 0x200 to 0x20F written there only (R119, R460). -/
def readable (c : BitVec 12) (priv : Bool) : Bool := priv || c.toNat < 0x100 || 0x105 < c.toNat
def writable (c : BitVec 12) (priv : Bool) : Bool := readable c priv && (priv || c.toNat < 0x200 || 0x20F < c.toNat)

/-- `csrw`, `csrs` and `csrc` (R146): the CSR and the value written, before the field rules of R120. -/
def csrForm (i : Instr) : Option (BitVec 12 × (State → Word)) :=
  match i with
  | .csrw d c => some (c, fun s => s.rd d)
  | .csrs d c => some (c, fun s => s.csrRead c ||| s.rd d)
  | .csrc d c => some (c, fun s => s.csrRead c &&& ~~~s.rd d)
  | _ => none

/-- The context after a write of `v` to a CSR, by the field rules (R20, R21, R119, R121, R122, R190, R348): reserved bits ignore the
write, MODE takes 0 to 4 only, τ only what is no NaN, not infinite and not negative (−0 counts as +0), and FNSPACE is bit 32 of FNTOL;
a register whose Write column says Ignored does not change. -/
def written (c : BitVec 12) (v : Word) (x : Ctx) : Ctx :=
  if c = 0x000 then { x with fflags := v.setWidth 9 }
  else if c = 0x001 then { x with frm := if v.toNat % 8 < 5 then v.setWidth 3 else x.frm }
  else if c = 0x002 then { x with seed := v }
  else if c = 0x003 then { x with
    fntol := if v.setWidth 32 = 0x80000000#32 then 0
      else if (v.setWidth 32).toNat < 0x7F800000 then v.setWidth 32 else x.fntol
    fnspace := v.getLsbD 32 }
  else if c = 0x005 then { x with estat := v }
  else if c = 0x006 then { x with circidle := v.setWidth 32 }
  else if c = 0x100 then { x with ppriv := v.getLsbD 1 }
  else if c = 0x102 then { x with epc := v &&& ~~~3#64 }
  else if c = 0x103 then { x with tcause := v.setWidth 6 }
  else if c = 0x104 then { x with tval := v }
  else if c = 0x105 then { x with tscratch := v }
  else x

/-- What a write to a CSR of the core, and not of the activation, leaves there: TVEC, the count and the event number k of the set that
PMSEL names, and PMSEL (R122, R460). -/
def coreWritten (c : BitVec 12) (v : Word) (x : CoreSt) : CoreSt :=
  let set := x.pm[x.pmsel.toFin]
  let k : BitVec 3 := c.setWidth 3
  if c = 0x101 then { x with tvec := v &&& ~~~3#64 }
  else if 0x200 ≤ c.toNat ∧ c.toNat < 0x208 then
    { x with pm := x.pm.set x.pmsel.toFin { set with cnt := set.cnt.set k.toFin v } }
  else if 0x208 ≤ c.toNat ∧ c.toNat < 0x210 then
    { x with pm := x.pm.set x.pmsel.toFin { set with ev := set.ev.set k.toFin (v &&& 0x1FFF) } }
  else if c = 0x220 then { x with pmsel := v.setWidth 2 }
  else x

/-- The first word of a CSR instruction (R41), which PRIV puts into TVAL. -/
def csrWord (i : Instr) : Word := (i.word).setWidth 64

end Sys2Proof.Claims

open Sys2Proof.Claims

/-- R127: the register-register instructions but for the divisions and the fields. R128: division truncates towards zero; b
= 0 gives all ones and a, −2^63 / −1 gives −2^63 and 0. R129: `ext.z`, `ext.s` and `ins`, bit by bit. -/
def Obligations.IntegerResults : Prop :=
  (∀ i d v, registerForm i = some (d, v) → ∀ s, WritesScalar i s d (v s) 0 4) ∧
  (∀ i d v, divisionForm i = some (d, v) → ∀ s, WritesScalar i s d (v s) 0 4) ∧
  (∀ d a b s,
     (∃ v, (∀ k < 64, v.getLsbD k = extZBit (s.rd a) (s.rd b) k) ∧ WritesScalar (.extZ d a b) s d v 0 4) ∧
     (∃ v, (∀ k < 64, v.getLsbD k = extSBit (s.rd a) (s.rd b) k) ∧ WritesScalar (.extS d a b) s d v 0 4) ∧
     (∃ v, (∀ k < 64, v.getLsbD k = insBit (s.rd d) (s.rd a) (s.rd b) k) ∧ WritesScalar (.ins d a b) s d v 0 4))

/-- R130: `addi`, `andi`, `ori`, `xori`, `li` and `nop`, and the shifts by 0 to 63; R132, R47: `leasw` writes the address
that the banks see. R131: the compares write 1 or 0. -/
def Obligations.ImmediateAndCompareResults : Prop :=
  ((∀ i d v n, immediateForm i = some (d, v, n) → ∀ s, WritesScalar i s d (v s) 0 n) ∧
   (∀ i d k v n, shiftForm i = some (d, k, v, n) → k.toNat < 64 → ∀ s, WritesScalar i s d (v s) 0 n) ∧
   (∀ d a m s, WritesScalar (.leasw d a m) s d (banked m (s.rd a)) 0 4)) ∧
  (∀ i d p n, compareForm i = some (d, p, n) → ∀ s, WritesScalar i s d (truth (p s)) 0 n)

/-- R134: one rounding of the exact result, and the flags. -/
def Obligations.FloatArithmeticResults : Prop :=
  ∀ i d r, arithmeticForm i = some (d, r) → ∀ s, WritesScalar i s d (r s).1 (r s).2 4

/-- R135, R136: `fmin`, `fmax` and `fcmp`. R137, R138: `fclass` writes a mask of one bit and raises nothing; `fsgn` gives
the magnitude a new sign. -/
def Obligations.FloatChoiceAndClassResults : Prop :=
  (∀ i d r, choiceForm i = some (d, r) → ∀ s, WritesScalar i s d (r s).1 (r s).2 4) ∧
  ((∀ i d v, classForm i = some (d, v) → ∀ s, WritesScalar i s d (v s) 0 4) ∧
   (∀ i d r, signForm i = some (d, r) → ∀ s, WritesScalar i s d (r s).1 (r s).2 4))

/-- R139, R140, R31: `fcvt` writes the conversion that its code names, rounded once by FN, with its flags: between floating-point
formats, saturating where SAT asks for it, and from and to the integer types, where a value outside the range gives the nearest end
and a NaN 0. -/
def Obligations.FloatConversionResults : Prop :=
  ∀ d a n c s, conversionOk c →
    WritesScalar (.fcvtF32 d a n c) s d (conversion fp32 fp64 (s.scalarMode n) c (s.rd a)).1
      (conversion fp32 fp64 (s.scalarMode n) c (s.rd a)).2 4 ∧
    WritesScalar (.fcvtF64 d a n c) s d (conversion fp64 fp32 (s.scalarMode n) c (s.rd a)).1
      (conversion fp64 fp32 (s.scalarMode n) c (s.rd a)).2 4

/-- R141: a branch goes to its first word plus 4·OFF15 or 4·literal when its condition holds, else to the next word. R142:
`jmp` and `ret` go to an aligned target; at any other target they raise ALIGN with the target in TVAL. R142, R143: `call`
writes the link and branches; `loop` decrements and branches while S[A] is not zero. S[0] takes no value, and `loop s0` goes
on to the next instruction (log entry 40). -/
def Obligations.ControlTransferResults : Prop :=
  (∀ i p o n, branchForm i = some (p, o, n) → ∀ s,
     GoesTo i s (if p s then s.run.ctx.pc + 4 * o else s.run.ctx.pc + BitVec.ofNat 64 n)) ∧
  (∀ i v, jumpForm i = some v → ∀ s,
     ((v s).extractLsb' 0 2 = 0 → GoesTo i s (v s)) ∧
     ((v s).extractLsb' 0 2 ≠ 0 → s.Trappable → EntersTrap i s 0x17 (v s) (s.run.ctx.pc &&& ~~~3#64))) ∧
  (∀ i a v o n, linkForm i = some (a, v, o, n) → ∀ s, ∃ t, exec i s = .next t ∧
     s.RetiredAt t (match o s with
       | some w => s.run.ctx.pc + 4 * w
       | none => s.run.ctx.pc + BitVec.ofNat 64 n) ∧
     (∀ r, t.rd r = if r = 0 then 0 else if r = a then v s else s.rd r) ∧
     Ctx.OnlyScalars s.run.ctx t.run.ctx 0 ∧ s.Kept t ∧ ∀ x, t.seen x = s.seen x)

/-- R124, R125, R144: `trap` enters the handler with the next instruction in EPC, `bkpt` with itself, IMM15 in TVAL. R465,
R458: under debug hold a `bkpt` of 0x7F00 to 0x7FFF halts the core before it takes effect, with PC at itself and nothing
changed, and makes a BREAK record of PC and LIC where the kind is enabled. R145: `eret` returns to EPC at the level PPRIV
saved; at user level it raises PRIV. -/
def Obligations.TrapEntryAndReturn : Prop :=
  (∀ n s, (s.Trappable →
     EntersTrap (.trap n) s 0x13 (n.setWidth 64) ((s.run.ctx.pc + 4) &&& ~~~3#64) ∧
     ((s.dbg.hold = false ∨ n.toNat < 0x7F00) →
       EntersTrap (.bkpt n) s 0x12 (n.setWidth 64) (s.run.ctx.pc &&& ~~~3#64))) ∧
   (s.dbg.hold = true → 0x7F00 ≤ n.toNat → ∃ t, exec (.bkpt n) s = .next t ∧ t.core = { s.core with halt := some .brk } ∧
     t.run = s.run ∧ t.die = s.die ∧ t.net = s.net ∧ t.pkg = s.pkg ∧ t.cycle = s.cycle ∧
     (s.dbg.enables.getLsbD 6 = false → t.dbg = s.dbg) ∧
     (s.dbg.enables.getLsbD 6 = true → s.dbg.trace.length < s.dbg.traceCap → ∃ r, t.dbg.trace = s.dbg.trace ++ [r] ∧
       r.hdr.extractLsb' 128 8 = 6 ∧ r.body = bytesOf 8 s.run.ctx.pc.toNat ++ bytesOf 8 s.run.ctx.lic))) ∧
  (∀ s,
     (s.run.ctx.priv = true → ∃ t, exec .eret s = .next t ∧ s.RetiredAt t s.run.ctx.epc ∧
       t.run.ctx = { s.run.ctx with pc := s.run.ctx.epc, lic := s.run.ctx.lic + 1, priv := s.run.ctx.ppriv, ppriv := false } ∧
       s.Kept t ∧ ∀ a, t.seen a = s.seen a) ∧
     (s.Trappable → EntersTrap .eret s 0x18 0x1B4 (s.run.ctx.pc &&& ~~~3#64)))

/-- R120, R146: `csrr` reads a CSR that its level may read, one that the replay log records (R467) once the log does not
stall; at another level PRIV is raised with the first word in TVAL. -/
def Obligations.CsrReads : Prop :=
  ∀ d c s,
    (readable c s.run.ctx.priv = true → csrSource c = none → WritesScalar (.csrr d c) s d (s.csrRead c) 0 4) ∧
    (∀ k, readable c s.run.ctx.priv = true → csrSource c = some k → s.replayStalls k = false →
      ReadsScalar (.csrr d c) s d (s.csrRead c) 4) ∧
    (readable c s.run.ctx.priv = false → s.Trappable →
      EntersTrap (.csrr d c) s 0x18 (csrWord (.csrr d c)) (s.run.ctx.pc &&& ~~~3#64))

/-- R119 to R122, R146: `csrw` writes S[D], `csrs` and `csrc` set and clear the bits of S[D], each by the field rules of the CSR, and
nothing else of the machine changes: of the counters the named count or event number of the set that PMSEL names, and what the
retired instruction itself counts (R460, R461); at a level that may not write it, PRIV is raised
with the first word in TVAL. -/
def Obligations.CsrWrites : Prop :=
  ∀ i c v, csrForm i = some (c, v) → ∀ s,
    (writable c s.run.ctx.priv = true → ∃ t, exec i s = .next t ∧ s.RetiredAt t (s.run.ctx.pc + 4) ∧
      t.run.ctx = { written c (v s) s.run.ctx with pc := t.run.ctx.pc, lic := t.run.ctx.lic } ∧
      State.Kept { s with core := coreWritten c (v s) s.core } t ∧
      t.core.pm = (State.count { s with core := coreWritten c (v s) s.core } 2 1).core.pm ∧
      (∀ k : BitVec 3, c = 0x208 + k.setWidth 12 → t.pmView.ev[k.toFin] = v s &&& 0x1FFF) ∧
      (∀ r, t.rd r = s.rd r) ∧ ∀ a, t.seen a = s.seen a) ∧
    (writable c s.run.ctx.priv = false → s.Trappable →
      EntersTrap i s 0x18 (csrWord i) (s.run.ctx.pc &&& ~~~3#64))
namespace Sys2Proof.Claims

/-! ### Scalar loads and stores (R149 to R151) -/

/-- A scalar load or store: the register, the space, the swizzle, the effective address (R45, R46), the bytes, whether a load
extends the sign, and the length of the instruction. -/
structure Access where
  d : Reg
  space : Nat
  swz : Nat
  addr : State → Word
  n : Nat
  signed : Bool
  len : Nat

/-- The four forms of a global access (R44 to R46): IMM9, literal, extended with OFF21, and extended with a literal. -/
def short (d a : Reg) (i : BitVec 9) (n : Nat) (sg : Bool) : Option Access :=
  some ⟨d, 0, 0, fun s => s.rd a + i.signExtend 64, n, sg, 4⟩
def literal (d a : Reg) (l : Word) (n : Nat) (sg : Bool) : Option Access := some ⟨d, 0, 0, fun s => s.rd a + l, n, sg, 12⟩
def extended (d a : Reg) (sp : BitVec 2) (z : BitVec 3) (o : BitVec 21) (n : Nat) (sg : Bool) : Option Access :=
  some ⟨d, sp.toNat, z.toNat, fun s => s.rd a + o.signExtend 64, n, sg, 12⟩
def extendedLit (d a : Reg) (sp : BitVec 2) (z : BitVec 3) (l : Word) (n : Nat) (sg : Bool) : Option Access :=
  some ⟨d, sp.toNat, z.toNat, fun s => s.rd a + l, n, sg, 20⟩
/-- The forms of row 4 that name the scratchpad (R149). -/
def pad (d a : Reg) (i : BitVec 9) (n : Nat) (sg : Bool) : Option Access :=
  some ⟨d, 1, 0, fun s => s.rd a + i.signExtend 64, n, sg, 4⟩

/-- The loads of row 4 but `ldf` (R150). -/
def loadForm (i : Instr) : Option Access :=
  match i with
  | .ldS8 d a i => short d a i 1 true
  | .ldS8Lit d a l => literal d a l 1 true
  | .ldS8Ext d a p z o => extended d a p z o 1 true
  | .ldS8ExtLit d a p z l => extendedLit d a p z l 1 true
  | .ldZ8 d a i => short d a i 1 false
  | .ldZ8Lit d a l => literal d a l 1 false
  | .ldZ8Ext d a p z o => extended d a p z o 1 false
  | .ldZ8ExtLit d a p z l => extendedLit d a p z l 1 false
  | .ldS16 d a i => short d a i 2 true
  | .ldS16Lit d a l => literal d a l 2 true
  | .ldS16Ext d a p z o => extended d a p z o 2 true
  | .ldS16ExtLit d a p z l => extendedLit d a p z l 2 true
  | .ldZ16 d a i => short d a i 2 false
  | .ldZ16Lit d a l => literal d a l 2 false
  | .ldZ16Ext d a p z o => extended d a p z o 2 false
  | .ldZ16ExtLit d a p z l => extendedLit d a p z l 2 false
  | .ldS32 d a i => short d a i 4 true
  | .ldS32Lit d a l => literal d a l 4 true
  | .ldS32Ext d a p z o => extended d a p z o 4 true
  | .ldS32ExtLit d a p z l => extendedLit d a p z l 4 true
  | .ldZ32 d a i => short d a i 4 false
  | .ldZ32Lit d a l => literal d a l 4 false
  | .ldZ32Ext d a p z o => extended d a p z o 4 false
  | .ldZ32ExtLit d a p z l => extendedLit d a p z l 4 false
  | .ld64 d a i => short d a i 8 false
  | .ld64Lit d a l => literal d a l 8 false
  | .ld64Ext d a p z o => extended d a p z o 8 false
  | .ld64ExtLit d a p z l => extendedLit d a p z l 8 false
  | .ld128 d a i => short d a i 16 false
  | .ld128Lit d a l => literal d a l 16 false
  | .ld128Ext d a p z o => extended d a p z o 16 false
  | .ld128ExtLit d a p z l => extendedLit d a p z l 16 false
  | .ldsS8 d a i => pad d a i 1 true
  | .ldsZ8 d a i => pad d a i 1 false
  | .ldsS16 d a i => pad d a i 2 true
  | .ldsZ16 d a i => pad d a i 2 false
  | .ldsS32 d a i => pad d a i 4 true
  | .ldsZ32 d a i => pad d a i 4 false
  | .lds64 d a i => pad d a i 8 false
  | _ => none

/-- The stores of row 4 (R150). -/
def storeForm (i : Instr) : Option Access :=
  match i with
  | .st8 d a i => short d a i 1 false
  | .st8Lit d a l => literal d a l 1 false
  | .st8Ext d a p z o => extended d a p z o 1 false
  | .st8ExtLit d a p z l => extendedLit d a p z l 1 false
  | .st16 d a i => short d a i 2 false
  | .st16Lit d a l => literal d a l 2 false
  | .st16Ext d a p z o => extended d a p z o 2 false
  | .st16ExtLit d a p z l => extendedLit d a p z l 2 false
  | .st32 d a i => short d a i 4 false
  | .st32Lit d a l => literal d a l 4 false
  | .st32Ext d a p z o => extended d a p z o 4 false
  | .st32ExtLit d a p z l => extendedLit d a p z l 4 false
  | .st64 d a i => short d a i 8 false
  | .st64Lit d a l => literal d a l 8 false
  | .st64Ext d a p z o => extended d a p z o 8 false
  | .st64ExtLit d a p z l => extendedLit d a p z l 8 false
  | .st128 d a i => short d a i 16 false
  | .st128Lit d a l => literal d a l 16 false
  | .st128Ext d a p z o => extended d a p z o 16 false
  | .st128ExtLit d a p z l => extendedLit d a p z l 16 false
  | .sts8 d a i => pad d a i 1 false
  | .sts16 d a i => pad d a i 2 false
  | .sts32 d a i => pad d a i 4 false
  | .sts64 d a i => pad d a i 8 false
  | _ => none

/-- The bytes that a load takes at a place, in ascending order of address, each as the activation reads it. -/
def loaded (s : State) (x : Access) (l : Loc) : Nat := natOfBytes (s.unitBytes (s.homeUnits l x.swz x.n))

/-- The value that a load of less than 16 bytes writes (R150). -/
def extendedValue (x : Access) (v : Nat) : Word :=
  if x.signed then (BitVec.ofNat (8 * x.n) v).signExtend 64 else BitVec.ofNat 64 v

/-- The bytes that a store moves (R150): the low bytes of S[D], or S[D] and S[D+1] for 16. -/
def storedByte (s : State) (x : Access) (k : Nat) : Byte :=
  if k < 8 then BitVec.ofNat 8 ((s.rd x.d).toNat / 256 ^ k) else BitVec.ofNat 8 ((s.rd (x.d + 1)).toNat / 256 ^ (k - 8))

/-- A place that a store takes without a rule of its own: no page of blocks, and no differentiable page under FWD or REV. -/
def plainStore (s : State) (l : Loc) : Bool :=
  !(l.fmt == 6 && l.space == 0) && !(l.onAd && (s.rev || s.fwd))

/-- A place that a load takes without a rule of its own: no differentiable page under REV. -/
def plainLoad (s : State) (l : Loc) : Bool := !(l.onAd && s.rev)

/-! ### `ldf` (R153) -/

/-- The exact value of an element of whole bytes in a format of R11: a floating-point encoding, or an integer (R13, R31). -/
def numberOf (f : Nat) (x : Nat) : FVal :=
  let int := fun (n : Int) => FVal.fin (decide (n < 0)) n.natAbs 0
  if f = 1 then decodeF fp32 x else if f = 2 then decodeF bf16 x else if f = 3 then decodeF fp16 x
  else if f = 4 then decodeF e4m3 x else if f = 5 then decodeF e5m2 x else if f = 13 then decodeF fp64 x
  else if f = 7 then int (BitVec.ofNat 8 x).toInt else if f = 8 then int (BitVec.ofNat 16 x).toInt
  else if f = 9 then int (BitVec.ofNat 32 x).toInt else int x

/-- The value of an E2M1 element under its block scale and band scale (R24, R25, R27): the exact product; a NaN scale gives NaN,
and so does a zero under an infinite band scale, which counts as an invalid operation (log entry 123). -/
def blockValue (x scale : Nat) (band : FVal) : FVal :=
  let m : Nat := if x % 8 < 2 then x % 2 else 2 + x % 2
  let g : Int := if x % 8 < 2 then -1 else ((x % 8 / 2 : Nat) : Int) - 2
  let n : Nat := if scale / 32 = 0 then scale % 32 else 32 + scale % 32
  let e : Int := if scale / 32 = 0 then -7 else ((scale / 32 : Nat) : Int) - 8
  let neg := x / 8 % 2 == 1
  if scale = 255 then .nan false
  else match band with
    | .nan sig => .nan sig
    | .inf b => if m * n = 0 then .nan true else .inf (neg != b)
    | .fin b k f => .fin (neg != b) (m * n * k) (g + e + f)

/-- The value of element `i` of a BFP24 block, the 512 bits of its line (R30). -/
def sharedValue (block : Nat) (i : Nat) : FVal :=
  let e : Nat := block / 2 ^ 384 % 256
  let m := (BitVec.ofNat 24 (block / 2 ^ (24 * i))).toInt
  if e = 0 then .fin false 0 0 else if e = 255 then .nan false else .fin (decide (m < 0)) m.natAbs ((e : Int) - 150)

/-- The homes of the bytes that `ldf` reads in a page of a format (R26, R153): the element, with its block scale and band scale, or the
block. -/
def elementHomes (l : Loc) (e : TlbEntry) : List (Nat × Nat) :=
  let block := l.va.toNat % 65536 / 4
  if e.fmt = 6 then
    [(l.home, 1), (e.frameByte block, 1), (e.frameByte (16384 + 2 * (block / 2 ^ e.g.toNat / 64)), 2)]
  else if e.fmt = 14 then [(l.home / 64 * 64, 64)]
  else [(l.home, fmtSize e.fmt.toNat)]

/-- What `ldf` writes at a place, with its flags (R153): the element as FP32, rounded to nearest; on an E2M1 page the elements of both
halves of the byte. -/
def decoded (s : State) (l : Loc) (e : TlbEntry) : Word × Flags :=
  let at_ := fun (k : Nat) => s.seenNat ((elementHomes l e).getD k (0, 0)).1 ((elementHomes l e).getD k (0, 0)).2
  let out := fun (v : FVal) => roundF fp32 .rne false v
  if e.fmt = 6 then
    let lo := out (blockValue (at_ 0 % 16) (at_ 1) (decodeF bf16 (at_ 2)))
    let hi := out (blockValue (at_ 0 / 16) (at_ 1) (decodeF bf16 (at_ 2)))
    (BitVec.ofNat 64 (lo.1 + 2 ^ 32 * hi.1), lo.2 ||| hi.2)
  else
    let r := out (if e.fmt = 14 then sharedValue (at_ 0) (l.va.toNat % 64 / 3) else numberOf e.fmt.toNat (at_ 0))
    (BitVec.ofNat 64 r.1, r.2)

/-! ### Atomics (R376 to R381) -/

/-- An atomic: the operation, the bytes and its registers. -/
structure Atomic where
  op : AmoOp
  n : Nat
  d : Reg
  a : Reg
  b : Reg

/-- The atomics of row 5 (R376 to R378). -/
def atomicForm (i : Instr) : Option Atomic :=
  match i with
  | .amoAdd32 d a b _ => some ⟨.add, 4, d, a, b⟩
  | .amoAdd64 d a b _ => some ⟨.add, 8, d, a, b⟩
  | .amoMinS32 d a b _ => some ⟨.minS, 4, d, a, b⟩
  | .amoMinS64 d a b _ => some ⟨.minS, 8, d, a, b⟩
  | .amoMinZ32 d a b _ => some ⟨.minZ, 4, d, a, b⟩
  | .amoMinZ64 d a b _ => some ⟨.minZ, 8, d, a, b⟩
  | .amoMaxS32 d a b _ => some ⟨.maxS, 4, d, a, b⟩
  | .amoMaxS64 d a b _ => some ⟨.maxS, 8, d, a, b⟩
  | .amoMaxZ32 d a b _ => some ⟨.maxZ, 4, d, a, b⟩
  | .amoMaxZ64 d a b _ => some ⟨.maxZ, 8, d, a, b⟩
  | .amoAnd32 d a b _ => some ⟨.and, 4, d, a, b⟩
  | .amoAnd64 d a b _ => some ⟨.and, 8, d, a, b⟩
  | .amoOr32 d a b _ => some ⟨.or, 4, d, a, b⟩
  | .amoOr64 d a b _ => some ⟨.or, 8, d, a, b⟩
  | .amoXor32 d a b _ => some ⟨.xor, 4, d, a, b⟩
  | .amoXor64 d a b _ => some ⟨.xor, 8, d, a, b⟩
  | .amoXchg32 d a b _ => some ⟨.xchg, 4, d, a, b⟩
  | .amoXchg64 d a b _ => some ⟨.xchg, 8, d, a, b⟩
  | .amoCas32 d a b _ => some ⟨.cas, 4, d, a, b⟩
  | .amoCas64 d a b _ => some ⟨.cas, 8, d, a, b⟩
  | .amoCas128 d a b _ => some ⟨.cas, 16, d, a, b⟩
  | .amoFaddF32 d a b _ => some ⟨.fadd, 4, d, a, b⟩
  | _ => none

/-- The value that an operation writes (R376 to R378), from the old value, S[B] and S[D] at the width of the access. -/
def atomicNew (op : AmoOp) {w : Nat} (old v cmp : BitVec w) : BitVec w :=
  match op with
  | .add => old + v
  | .minS => if v.slt old then v else old
  | .minZ => if v.ult old then v else old
  | .maxS => if old.slt v then v else old
  | .maxZ => if old.ult v then v else old
  | .and => old &&& v
  | .or => old ||| v
  | .xor => old ^^^ v
  | .xchg => v
  | .cas => if old = cmp then v else old
  | .fadd => (addFp32 (old.setWidth 32) (v.setWidth 32)).setWidth w

/-- A register, or a pair for 16 bytes, at the width of an access (R377). -/
def wide (s : State) (r : Reg) (n : Nat) : BitVec (8 * n) :=
  if n = 16 then BitVec.ofNat (8 * n) ((s.rd r).toNat + 2 ^ 64 * (s.rd (r + 1)).toNat) else (s.rd r).setWidth (8 * n)

/-- The strong loads (R379, R380) and the strong stores (R379, R381): the bytes, the register and the address register. -/
def strongLoadForm (i : Instr) : Option (Nat × Reg × Reg) :=
  match i with
  | .ldx32 d a _ => some (4, d, a)
  | .ldx64 d a _ => some (8, d, a)
  | .ldacq64 d a _ => some (8, d, a)
  | _ => none
def strongStoreForm (i : Instr) : Option (Nat × Reg × Reg) :=
  match i with
  | .stx32 d a _ => some (4, d, a)
  | .stx64 d a _ => some (8, d, a)
  | .strel64 d a _ => some (8, d, a)
  | _ => none

/-- The instruction is none that a LINKF has named, whose request is sent again under its old number (R433, R434). -/
def notResent (s : State) : Bool := !s.run.lost.any (fun u => u.pc == s.run.ctx.pc && u.sent.isNone)

/-- The checks of R375 pass for a strong access of `n` bytes at `a`; no migration, quantum or replay log makes it wait. -/
def strongReady (s : State) (a : Word) (n : Nat) (q : Ask) (l : Loc) : Prop :=
  (∀ w, s.strongAccess w a n q = .ok l) ∧ (l.home < Config.csHome → (s.granule l.home).mig = false) ∧
    (s.det = true → s.run.served = true) ∧ s.replayStalls .strong = false

end Sys2Proof.Claims

/-- R150, R151: a load whose checks pass (R126) writes the bytes at its place, extended or as a pair, and changes no byte of
memory; the address is that of the form, swizzled by units of 8 bytes in the scratchpad (R47). -/
def Obligations.LoadResults : Prop :=
  ∀ i x, loadForm i = some x → ∀ s l, s.Reaches x.space (x.addr s) x.n askLoad l → plainLoad s l = true →
    s.loadPoison (s.homeUnits l x.swz x.n) = .ok () →
    ∃ t, exec i s = .next t ∧ s.RetiredAt t (s.run.ctx.pc + BitVec.ofNat 64 x.len) ∧
      (∀ r, t.rd r = if r = 0 then 0
        else if r = x.d then (if x.n = 16 then BitVec.ofNat 64 (loaded s x l) else extendedValue x (loaded s x l))
        else if x.n = 16 ∧ r = x.d + 1 then BitVec.ofNat 64 (loaded s x l / 2 ^ 64) else s.rd r) ∧
      Ctx.OnlyScalars s.run.ctx t.run.ctx 0 ∧ s.KeptByLoad t ∧ ∀ a, t.seen a = s.seen a

/-- R150, R151, R93: a store whose checks pass puts the low bytes of its register, or of the pair, at its place, in its own
scratchpad at once and elsewhere in the write log, and changes no other byte. `s'` is the state after the checkpoint that the
log or the read set may need first (R91), which is `s` where none is needed. -/
def Obligations.StoreResults : Prop :=
  ∀ i x, storeForm i = some x → ∀ s l s', s.Reaches x.space (x.addr s) x.n askStore l → plainStore s l = true →
    l.fmt ≠ 14 → s.ordered = false → s.MemOk →
    s.storeRoom ((s.homeUnits l x.swz x.n).map Prod.fst) [] = .ok s' →
    ∃ t, exec i s = .next t ∧ s.RetiredAt t (s.run.ctx.pc + BitVec.ofNat 64 x.len) ∧
      (∀ r, t.rd r = s.rd r) ∧
      (∀ j, (h : j < (s.homeUnits l x.swz x.n).length) → ∀ k < ((s.homeUnits l x.swz x.n)[j]).2,
        s'.Stored t ((s.homeUnits l x.swz x.n)[j]).1 k (storedByte s x (8 * j + k))) ∧
      s'.SameOutside t (s.homeUnits l x.swz x.n) ∧ Ctx.OnlyScalars s'.run.ctx t.run.ctx 0 ∧ s'.KeptByStore t

/-- R126 row 2: a load or store of more than one byte at an address that is no multiple of its size raises ALIGN with the
address in TVAL, before translation; a `st.128` in SPACE 0 is checked after it (R149). -/
def Obligations.MisalignedAccessTraps : Prop :=
  ∀ i x, loadForm i = some x ∨ (storeForm i = some x ∧ (x.n ≠ 16 ∨ x.space ≠ 0)) → ∀ s,
    inSpace x.space (x.addr s) = true → (x.addr s).toNat % x.n ≠ 0 → s.Trappable →
    EntersTrap i s 0x17 (x.addr s) (s.run.ctx.pc &&& ~~~3#64)

/-- R153, R24 to R27, R30, R31: `ldf` writes the element at its address, decoded in the format of its page, as FP32, with the flags of
its rounding. A zero under an infinite band scale, and the NV of a signalling one, are log entry 123. -/
def Obligations.DecodingLoadResults : Prop :=
  ∀ d a n s l e, (∀ bad, s.access 0 (s.rd a + n.signExtend 64) bad 1 askLoad (ldfAlign (s.rd a + n.signExtend 64))
      (ldfFmt (s.rd a + n.signExtend 64)) = .ok l) → l.entry = some e → plainLoad s l = true →
    s.loadPoison (elementHomes l e) = .ok () →
    ∃ t, exec (.ldf d a n) s = .next t ∧ s.RetiredAt t (s.run.ctx.pc + 4) ∧
      (∀ r, t.rd r = if r = 0 then 0 else if r = d then (decoded s l e).1 else s.rd r) ∧
      Ctx.OnlyScalars s.run.ctx t.run.ctx (decoded s l e).2 ∧ s.KeptByLoad t ∧ ∀ a, t.seen a = s.seen a

/-- R376 to R378: an atomic writes the new value at its home and the old value, zero-extended, to S[D] (in replay mode what the log
feeds back for it, log entry 130), and changes no other byte; `s'` is the state after the checkpoint before it (R91), where every
committed line is acknowledged. -/
def Obligations.AtomicResults : Prop :=
  ∀ i x, atomicForm i = some x → ∀ s s' l, notResent s = true → s.checkpointAck = .ok s' → strongReady s' (s.rd x.a) x.n askAmo l → s'.MemOk →
    ∃ t, exec i s = .next t ∧ s.RetiredAt t (s.run.ctx.pc + 4) ∧
      t.die.mem.nat l.home x.n = (atomicNew x.op (BitVec.ofNat (8 * x.n) (s'.die.mem.nat l.home x.n)) (wide s x.b x.n)
        (wide s x.d x.n)).toNat ∧
      (∀ a, ¬(l.home ≤ a ∧ a < l.home + x.n) → t.die.mem.get a = s'.die.mem.get a) ∧
      (∀ r, t.rd r = if r = 0 then 0
        else if r = x.d then s'.replayed .strong (BitVec.ofNat 64 (s'.die.mem.nat l.home x.n))
        else if x.n = 16 ∧ r = x.d + 1 then
          (s'.record .strong (s'.replayed .strong (BitVec.ofNat 64 (s'.die.mem.nat l.home x.n))).toNat).replayed .strong
            (BitVec.ofNat 64 (s'.die.mem.nat l.home x.n / 2 ^ 64))
        else s.rd r) ∧
      t.run.ctx.fflags = s.run.ctx.fflags ∧ t.run.ctx.h = s.run.ctx.h ∧ t.run.ctx.f = s.run.ctx.f ∧
      t.run.ctx.priv = s.run.ctx.priv ∧ t.run.ctx.epc = s.run.ctx.epc

/-- R379, R380: a strong load writes to S[D] what the home serves (in replay mode what the log feeds back for it, log entry
130) and changes no byte of memory. R379, R381, R92: a strong store writes its register to the home directly, past the write
log, and changes no register and no other byte; `s'` is the state after the checkpoint before it. -/
def Obligations.StrongAccessResults : Prop :=
  (∀ i n d a, strongLoadForm i = some (n, d, a) → ∀ s l, strongReady s (s.rd a) n askStrongLoad l →
     s.logLines.contains (l.home / 64) = false →
     ∃ t, exec i s = .next t ∧ s.RetiredAt t (s.run.ctx.pc + 4) ∧
       (∀ r, t.rd r = if r = 0 then 0 else if r = d then s.replayed .strong (BitVec.ofNat 64 (s.seenNat l.home n)) else s.rd r) ∧
       Ctx.OnlyScalars s.run.ctx t.run.ctx 0 ∧ t.die = s.die ∧ t.net = s.net ∧ ∀ x, t.seen x = s.seen x) ∧
  (∀ i n d a, strongStoreForm i = some (n, d, a) → ∀ s s' l, notResent s = true → s.checkpointAck = .ok s' →
     strongReady s' (s.rd a) n askStrongStore l → s'.MemOk →
     ∃ t, exec i s = .next t ∧ s.RetiredAt t (s.run.ctx.pc + 4) ∧
       (∀ k < n, t.die.mem.get (l.home + k) = BitVec.ofNat 8 ((s.rd d).toNat / 256 ^ k)) ∧
       (∀ x, ¬(l.home ≤ x ∧ x < l.home + n) → t.die.mem.get x = s'.die.mem.get x) ∧
       (∀ r, t.rd r = s.rd r) ∧ t.run.ctx.fflags = s.run.ctx.fflags ∧ t.run.ctx.h = s.run.ctx.h ∧
       t.run.ctx.f = s.run.ctx.f)

/-- R383: `fence.cr` only retires; a wider `fence` commits the write log, with the next instruction as the restart point, and retires
once no committed line is unacknowledged. R384, R162: `xfence` retires; what a path of its mask wrote, every path of the mask then
reads; it commits nothing and changes no byte of memory. R388: ATOMIC_REPLY brings the old value owed to S[D]. -/
def Obligations.FenceResults : Prop :=
  ∀ s,
    GoesTo (.fence 0) s (s.run.ctx.pc + 4) ∧
    (∀ c, c ≠ 0 → settled s = true → s.run.log = [] → s.run.adj = [] → s.run.acks = 0 → s.deferredOf s.lcore = false →
      ∃ t, exec (.fence c) s = .next t ∧ s.RetiredAt t (s.run.ctx.pc + 4) ∧ t.run.snap.pc = s.run.ctx.pc + 4 ∧
        t.run.snap.lic = s.run.ctx.lic + 1 ∧ s.run.ctx.SameRegisters t.run.ctx ∧ t.die.mem = s.die.mem) ∧
    (∀ c, c ≠ 0 → settled s = true → s.run.log ≠ [] → s.run.adj = [] →
      ∃ t, exec (.fence c) s = .next t ∧ t.run.stall = some .acks ∧ t.run.ctx.pc = s.run.ctx.pc ∧
        t.core.retired = s.core.retired ∧ t.die.mem = s.die.mem.apply s.run.log ∧ t.run.log = [] ∧
        t.run.acks = s.run.acks + s.logLines.length ∧ t.run.snap.pc = s.run.ctx.pc + 4) ∧
    (∀ m k, ∃ t, exec (.xfence m k) s = .next t ∧ s.RetiredAt t (s.run.ctx.pc + 4) ∧
      t.run.ctx = { s.run.ctx with pc := t.run.ctx.pc, lic := t.run.ctx.lic } ∧
      State.Kept { s with die := { s.die with stale := t.die.stale } } t ∧
      (∀ b ∈ t.die.stale, k.getLsbD b.cls = true → ∀ c < 6, k.getLsbD c = true → b.late.getLsbD c = false) ∧
      (∀ b ∈ s.die.stale, k.getLsbD b.cls = false → b.late ≠ 0 → b ∈ t.die.stale) ∧
      (k.getLsbD 0 = true → (∀ b ∈ s.die.stale, k.getLsbD b.cls = true) → ∀ a, t.memByte a = s.die.mem.get a)) ∧
    (∀ d v, (∀ w ∈ s.saved, w.run.owed = none) → s.run.owed = some (d, v) → ∃ t, exec .atomicReply s = .next t ∧
      (∀ r, t.rd r = if r = 0 then 0 else if r = d then v else s.rd r) ∧ t.run.owed = none ∧ t.die = s.die ∧
      t.run.ctx = { s.run.ctx with s := t.run.ctx.s })
namespace Sys2Proof.Claims

/-! ### Rings and handles (R164 to R171) -/

/-- The waits and the advances of a ring (R169): the register, the count m, the length, whether the count taken is that of
free slots (`waite`, `advp`), and whether the instruction advances. -/
structure RingOp where
  d : Reg
  m : State → Word
  len : Nat
  free : Bool
  advance : Bool

/-- The ring instructions of row 8. -/
def ringForm (i : Instr) : Option RingOp :=
  match i with
  | .waitf d a n => some ⟨d, fun s => s.rd a + n.signExtend 64, 4, false, false⟩
  | .waitfLit d a l => some ⟨d, fun s => s.rd a + l, 12, false, false⟩
  | .waite d a n => some ⟨d, fun s => s.rd a + n.signExtend 64, 4, true, false⟩
  | .waiteLit d a l => some ⟨d, fun s => s.rd a + l, 12, true, false⟩
  | .advp d a n => some ⟨d, fun s => s.rd a + n.signExtend 64, 4, true, true⟩
  | .advpLit d a l => some ⟨d, fun s => s.rd a + l, 12, true, true⟩
  | .advc d a n => some ⟨d, fun s => s.rd a + n.signExtend 64, 4, false, true⟩
  | .advcLit d a l => some ⟨d, fun s => s.rd a + l, 12, false, true⟩
  | _ => none

/-- The filled slots of a ring, PROD − CONS modulo 2^14, and the free ones (R168). -/
def filled (h : BitVec 256) : Nat := (h.extractLsb' 228 14 - h.extractLsb' 242 14).toNat
def free (h : BitVec 256) : Nat := (h.extractLsb' 216 12).toNat - filled h

/-- A sound ring: KIND 1, FMT not 15, CAP not zero, and no more than CAP slots filled (R53). -/
def soundRing (h : BitVec 256) : Prop :=
  h.extractLsb' 68 4 = 1 ∧ h.extractLsb' 72 4 ≠ 15 ∧ h.extractLsb' 216 12 ≠ 0 ∧ filled h ≤ (h.extractLsb' 216 12).toNat

/-- `i` at `s` retires in `len` bytes and changes, of all registers and memory, at most H[d]; `p` says what H[d] then holds. -/
def WritesHandle (i : Instr) (s : State) (d : Reg) (len : Nat) (p : BitVec 256 → Prop) : Prop :=
  ∃ t, exec i s = .next t ∧ s.RetiredAt t (s.run.ctx.pc + BitVec.ofNat 64 len) ∧ p (t.rdH d) ∧
    (∀ r : Reg, r.setWidth 5 ≠ d.setWidth 5 → t.rdH r = s.rdH r) ∧
    t.run.ctx = { s.run.ctx with h := t.run.ctx.h, pc := t.run.ctx.pc, lic := t.run.ctx.lic } ∧
    s.Kept t ∧ ∀ a, t.seen a = s.seen a

/-- A handle that agrees with another outside the `w` bits from `lo` on, and holds `v` there. -/
def FieldSet (h g : BitVec 256) (lo w v : Nat) : Prop :=
  g.toNat / 2 ^ lo % 2 ^ w = v % 2 ^ w ∧ ∀ k, ¬(lo ≤ k ∧ k < lo + w) → g.getLsbD k = h.getLsbD k

/-- The field that a selector of `hset` and `hget` names: lowest bit and width (R165). -/
def fieldOfSelector (x : Nat) : Nat × Nat :=
  match x with
  | 0 => (0, 64)
  | 1 => (64, 2)
  | 2 => (68, 4)
  | 3 => (72, 4)
  | 4 => (76, 3)
  | 5 => (80, 2)
  | 14 => (216, 32)
  | 15 => (216, 12)
  | 16 => (228, 14)
  | 17 => (242, 14)
  | n => if n < 10 then (88 + 16 * (n - 6), 16) else if n < 14 then (152 + 16 * (n - 10), 16) else (64 * (n - 18), 64)

/-- `hld` and `hst` (R167): the handle register, the address and the length. -/
def handleLoadForm (i : Instr) : Option (Reg × (State → Word) × Nat) :=
  match i with
  | .hld d a n => some (d, fun s => s.rd a + n.signExtend 64, 4)
  | .hldLit d a l => some (d, fun s => s.rd a + l, 12)
  | _ => none
def handleStoreForm (i : Instr) : Option (Reg × (State → Word) × Nat) :=
  match i with
  | .hst d a n => some (d, fun s => s.rd a + n.signExtend 64, 4)
  | .hstLit d a l => some (d, fun s => s.rd a + l, 12)
  | _ => none

/-! ### Vector instructions (R157 to R184) -/

/-- A vector instruction with a destination: the handle register of D, what D is asked (R158), its sources, the counts they
must have (R157), and whether it reads D (R160). -/
structure VecOp where
  d : Reg
  want : State → Want
  srcs : State → List Src
  counts : Nat → List Nat → Bool
  self : Bool

/-- Two sources, or one, of numbers. -/
def two (d a b : Reg) (self : Bool) : Option VecOp :=
  some ⟨d, fun _ => arithDst self, fun s => [.plain (s.rdH a) srcWant, .plain (s.rdH b) srcWant], sameCount, self⟩
def one (d a : Reg) (self : Bool) : Option VecOp :=
  some ⟨d, fun _ => arithDst self, fun s => [.plain (s.rdH a) srcWant], sameCount, self⟩
/-- An integer operation (R182). -/
def ints (d a b : Reg) : Option VecOp :=
  let fs := fun (s : State) => [hFmt (s.rdH d), hFmt (s.rdH a), hFmt (s.rdH b)]
  some ⟨d, fun s => sameIntDst (fs s), fun s => [⟨s.rdH a, sameIntSrc (fs s)⟩, ⟨s.rdH b, sameIntSrc (fs s)⟩], sameCount, false⟩
/-- No source (R179, R184). -/
def fill (d : Reg) (x : Want) : Option VecOp := some ⟨d, fun _ => x, fun _ => [], sameCount, false⟩

/-- The instructions of rows 6 and 7 that write a vector from vectors and scalars. `vcopy` is the one whose operands do not
lie on a differentiable page in REV (R269); `vunpk` and `vq4` take a scalar that `vecScalarOk` tests. -/
def vecForm (i : Instr) : Option VecOp :=
  match i with
  | .vaddVv d a b _ => two d a b false
  | .vaddVs d a _ _ => one d a false
  | .vsubVv d a b _ => two d a b false
  | .vsubVs d a _ _ => one d a false
  | .vmulVv d a b _ => two d a b false
  | .vmulVs d a _ _ => one d a false
  | .vminVv d a b => two d a b false
  | .vminVs d a _ => one d a false
  | .vmaxVv d a b => two d a b false
  | .vmaxVs d a _ => one d a false
  | .vfmaVv d a b _ => two d a b true
  | .vfmaVs d a _ _ => one d a true
  | .vabs d a => one d a false
  | .vneg d a => one d a false
  | .vcvt d a _ t => some ⟨d, fun _ => { dstWant with named := satFmt (t == 1) }, fun s => [.plain (s.rdH a) srcWant],
      sameCount, false⟩
  | .vscale d a _ _ => one d a false
  | .vrcp d a _ => one d a false
  | .vrsqrt d a _ => one d a false
  | .vcmp d a b _ => some ⟨d, fun _ => { dstWant with named := fmtIsInt },
      fun s => [.plain (s.rdH a) srcWant, .plain (s.rdH b) srcWant], sameCount, false⟩
  | .vsel d a b => some ⟨d, fun s => moveDst [hFmt (s.rdH b)], fun s => [.plain (s.rdH a) intWant, ⟨s.rdH b, moveSrc⟩],
      sameCount, false⟩
  | .vclass d a => some ⟨d, fun _ => { dstWant with named := fun f => f == 8 || f == 9 || f == 11 },
      fun s => [.plain (s.rdH a) srcWant], sameCount, false⟩
  | .vcopy d a => some ⟨d, fun s => copyDst (hFmt (s.rdH a)), fun s => [⟨s.rdH a, copySrc⟩], sameCount, false⟩
  | .vfill d _ => fill d dstWant
  | .vfillI d _ => fill d dstWant
  | .vfillB d _ => fill d { dstWant with permit := fun f => f != 6 && f != 14 }
  | .vgath d a b => some ⟨d, fun s => moveDst [hFmt (s.rdH a)], fun s => [⟨s.rdH a, moveSrc⟩, .plain (s.rdH b) intWant],
      fun n l => l.getD 1 0 == n, false⟩
  | .vq4 d a _ => some ⟨d, fun _ => { dstWant with named := fun f => f == 6, permit := fun f => f == 6 },
      fun s => [.plain (s.rdH a) srcWant], sameCount, false⟩
  | .vrng d _ => fill d { dstWant with permit := fun f => intFmt f || f == 13 || f == 1 || f == 3 || f == 2 }
  | .viadd d a b => ints d a b
  | .visub d a b => ints d a b
  | .vimul d a b => ints d a b
  | .viand d a b => ints d a b
  | .vior d a b => ints d a b
  | .vixor d a b => ints d a b
  | .vishl d a b => ints d a b
  | .vishr d a b _ => ints d a b
  | .vidx d _ _ => fill d dstWant
  | .vpack d a b => some ⟨d, fun s => moveDst [hFmt (s.rdH a), hFmt (s.rdH b)],
      fun s => [⟨s.rdH a, moveSrc⟩, ⟨s.rdH b, moveSrc⟩], fun n l => l.all (fun m => 2 * m == n), false⟩
  | .vunpk d a _ => some ⟨d, fun s => moveDst [hFmt (s.rdH a)], fun s => [⟨s.rdH a, moveSrc⟩],
      fun n l => l.all (fun m => m == 2 * n), false⟩
  | _ => none

/-- The scalar operands that `vunpk` and `vq4` refuse (R181, R183): a half that is not 0 or 1; a band scale that is not a
positive finite BF16 number with zeros above it. -/
def vecScalarOk (i : Instr) (s : State) : Prop :=
  match i with
  | .vunpk _ _ b => s.rd b = 0 ∨ s.rd b = 1
  | .vq4 _ _ b => (s.rd b).toNat < 2 ^ 16 ∧ ltV (.fin false 0 0) (decodeF bf16 (s.rd b).toNat) = true ∧
      decodeF bf16 (s.rd b).toNat ≠ .inf false
  | _ => True

/-- An instruction that a pre-emption may divide starts at its beginning, and no pre-emption stops it (R161, R228). -/
def undivided (s : State) : Prop := s.run.part = 0 ∧ s.core.stopAt = none

/-- The destination `o` of a vector instruction that reads `srcs` has its room: `after` says whether a checkpoint follows it, and `s'` is
the state in which the elements are computed, after the checkpoint that may come before (R160) and the tape entries of FWD (R264). -/
def VecRoom (s : State) (o : Opnd) (srcs : List Opnd) (after : Bool) (s' : State) : Prop :=
  ∃ s2, (∀ w, s.destRoom w o srcs = .ok (s2, after)) ∧ s2.pushAll (s2.destEntries o) = .ok s'

/-- Every check of R126 and R160 passes for the operands of a vector instruction: `o` and `os` are the destination and the
sources, `after` and `s'` as `VecRoom` says. -/
def VecReady (s : State) (x : VecOp) (o : Opnd) (os : List Opnd) (after : Bool) (s' : State) : Prop :=
  undivided s ∧ ∃ s1, (∀ w, s.vecOperands w (s.rdH x.d) (x.want s) (x.srcs s) x.counts x.self = .ok (s1, o, os)) ∧
    VecRoom s1 o (os ++ if x.self then [o] else []) after s'

/-- Everything a destination's elements are stored in, the scale bytes of E2M1 blocks too (R28). -/
def destUnits (o : Opnd) : List (Nat × Nat) :=
  o.els.flatMap (fun e => e.units ++ (match e.loc.entry with
    | some t => if o.fmt = 6 then [(t.scaleByte e.loc.va, 1)] else []
    | none => []))

/-- No operand lies on a differentiable page while ADMODE is REV (R269). -/
def notReversed (s : State) (o : Opnd) (os : List Opnd) : Prop :=
  s.rev = true → o.onAd = [] ∧ ∀ a ∈ os, a.onAd = []

/-- The element-wise arithmetic of R173 and R174: its rounding field, whether it saturates, and its exact result, from the
mode, a, b and the old destination. -/
structure ElemOp where
  fn : BitVec 3
  sat : Bool
  op : RMode → FVal → FVal → FVal → FVal × Flags

/-- R173, R174: the instructions and their operations; b is an element of B, or S[B] as FP32. -/
def elementForm (i : Instr) : Option ElemOp :=
  match i with
  | .vaddVv _ _ _ n => some ⟨n, false, fun m a b _ => addV m a b⟩
  | .vaddVs _ _ _ n => some ⟨n, false, fun m a b _ => addV m a b⟩
  | .vsubVv _ _ _ n => some ⟨n, false, fun m a b _ => addV m a b.negate⟩
  | .vsubVs _ _ _ n => some ⟨n, false, fun m a b _ => addV m a b.negate⟩
  | .vmulVv _ _ _ n => some ⟨n, false, fun _ a b _ => mulV a b⟩
  | .vmulVs _ _ _ n => some ⟨n, false, fun _ a b _ => mulV a b⟩
  | .vminVv _ _ _ => some ⟨7, false, fun _ a b _ => (smaller a b, signalling a b)⟩
  | .vminVs _ _ _ => some ⟨7, false, fun _ a b _ => (smaller a b, signalling a b)⟩
  | .vmaxVv _ _ _ => some ⟨7, false, fun _ a b _ => (larger a b, signalling a b)⟩
  | .vmaxVs _ _ _ => some ⟨7, false, fun _ a b _ => (larger a b, signalling a b)⟩
  | .vfmaVv _ _ _ n => some ⟨n, false, fun m a b d => fmaV m a b d⟩
  | .vfmaVs _ _ _ n => some ⟨n, false, fun m a b d => fmaV m a b d⟩
  | .vabs _ _ => some ⟨7, false, fun _ a _ _ => (a.abs, 0)⟩
  | .vneg _ _ => some ⟨7, false, fun _ a _ _ => (a.negate, 0)⟩
  | .vcvt _ _ n t => some ⟨n, t == 1, fun _ a _ _ => (a, 0)⟩
  | .vrcp _ _ n => some ⟨n, false, fun _ a _ _ => divV (.fin false 1 0) a⟩
  | .vrsqrt _ _ n => some ⟨n, false, fun _ a _ _ => rsqrtV a⟩
  | _ => none

/-- The second operand of an element-wise instruction: element j of B, or S[B] bits 31:0 as FP32 (R173). -/
def secondOperand (i : Instr) (s s' : State) (os : List Opnd) (j : Nat) : FVal :=
  match i with
  | .vaddVs _ _ b _ => src s fp32 b
  | .vsubVs _ _ b _ => src s fp32 b
  | .vmulVs _ _ b _ => src s fp32 b
  | .vminVs _ _ b => src s fp32 b
  | .vmaxVs _ _ b => src s fp32 b
  | .vfmaVs _ _ b _ => src s fp32 b
  | _ => match os with
    | [_, b] => s'.val b j
    | _ => .fin false 0 0

/-- No other element of D is stored in a byte of element j of D, or in a byte of the elements `rs`, which the instruction reads for
element j: what is written for the others then changes nothing of element j (R159). -/
def independentOf (o : Opnd) (rs : List (Opnd × Nat)) (j : Nat) : Prop :=
  (∀ k < o.sh.n, k ≠ j → ∀ a, inUnits (o.el j).units a = true → inUnits (o.el k).units a = false) ∧
  (∀ x ∈ rs, ∀ k < o.sh.n, k ≠ j → ∀ a, inUnits (x.1.reads (x.1.el x.2)) a = true → inUnits (o.el k).units a = false)

/-- The same where element j of every source is what is read for it. -/
def independent (o : Opnd) (os : List Opnd) (j : Nat) : Prop := independentOf o (os.map (fun x => (x, j))) j

/-- An exact result with its flags, rounded once into element j of D (R159). -/
def into (s : State) (fn : BitVec 3) (sat : Bool) (o : Opnd) (j : Nat) (r : FVal × Flags) : Nat × Flags :=
  let v := encodeVal o.fmt (s.destMode fn o j) sat r.1
  (v.1, r.2 ||| v.2)

/-- Element `k` of A as it moves to element `j` of D (R178): bit for bit in one format, else rounded by FRM.MODE. -/
def moved (s : State) (o a : Opnd) (j k : Nat) : Nat × Flags :=
  if o.fmt = a.fmt then (s.raw a k, 0) else into s 7 false o j (s.val a k, 0)

/-- An element from 64 random bits, by D's format (R184). -/
def randomElement (f : Nat) (v : Word) : Nat :=
  let part := fun (t : Fmt) (lo : Nat) (e : Int) => (roundF t .rne false (.fin false (v.toNat / 2 ^ lo) e)).1
  if f = 13 then part fp64 11 (-53) else if f = 1 then part fp32 40 (-24) else if f = 3 then part fp16 53 (-11)
  else if f = 2 then part bf16 56 (-8) else if f = 8 then (v.extractLsb' 48 16).toNat
  else if f = 7 ∨ f = 10 then (v.extractLsb' 56 8).toNat else (v.extractLsb' 32 32).toNat

/-- What an instruction makes of element j of D (R159): the elements that it reads for it, from the state before and the sources, and what
it stores with the flags that it raises, `none` where the element stays as it was, from the states before and after its room was made. -/
structure ElemResult where
  reads : State → List Opnd → Nat → List (Opnd × Nat)
  result : State → State → Opnd → List Opnd → Nat → Option (Nat × Flags)

/-- An instruction that reads element j of its sources and always stores. -/
def ElemResult.plain (f : State → State → Opnd → List Opnd → Nat → Nat × Flags) : ElemResult :=
  ⟨fun _ os j => os.map (fun x => (x, j)), fun s s' o os j => some (f s s' o os j)⟩

/-- An integer operation on elements of `w` bits (R182). -/
def ElemResult.ints (f : (w : Nat) → BitVec w → BitVec w → BitVec w) : ElemResult :=
  .plain (fun _ s' o os j =>
    ((f (8 * fmtSize o.fmt) (BitVec.ofNat _ (s'.raw (os.headD o) j)) (BitVec.ofNat _ (s'.raw (os.getD 1 o) j))).toNat, 0))

/-- The index that `vgath` reads (R180). -/
def gathered (s : State) (os : List Opnd) (j : Nat) : Int :=
  intOf (os.getD 1 ⟨Shape.of 0 false, 0, []⟩).fmt (s.raw (os.getD 1 ⟨Shape.of 0 false, 0, []⟩) j)

/-- R173, R174, R176 to R182, R184: every instruction of rows 6 and 7 that writes element by element, with what each element becomes. -/
def resultForm (i : Instr) : Option ElemResult :=
  match i with
  | .vscale _ _ b n => some (.plain (fun s s' o os j =>
      into s' n false o j (scaleV (s'.val (os.headD o) j) (max (-2000) (min 2000 (s.rd b).toInt)), 0)))
  | .vcmp _ _ _ p => some (.plain (fun _ s' o os j =>
      let x := s'.val (os.headD o) j
      let y := s'.val (os.getD 1 o) j
      let nan := x.isNan || y.isNan
      let r := if p = 0 then !nan && eqV x y else if p = 1 then !nan && ltV x y else if p = 2 then !nan && leV x y else nan
      (r.toNat, if p = 1 ∨ p = 2 then unordered x y else signalling x y)))
  | .vsel _ _ _ => some ⟨fun _ os j => os.map (fun x => (x, j)), fun _ s' o os j =>
      if (s'.val (os.headD o) j).isZero then none else some (moved s' o (os.getD 1 o) j j)⟩
  | .vclass _ _ => some (.plain (fun _ s' o os j =>
      let v := s'.val (os.headD o) j
      (classElem (os.headD o).fmt v, if v.isNan ∨ v = .inf false ∨ v = .inf true then flNF else 0)))
  | .vcopy _ _ => some (.plain (fun _ s' o os j => moved s' o (os.headD o) j j))
  | .vfill _ a => some (.plain (fun s s' o _ j => into s' 7 false o j (src s fp32 a, 0)))
  | .vfillI _ a => some (.plain (fun s s' o _ j =>
      into s' 7 false o j (.fin (decide ((s.rd a).toInt < 0)) (s.rd a).toInt.natAbs 0, 0)))
  | .vfillB _ a => some (.plain (fun s _ _ _ _ => ((s.rd a).toNat, 0)))
  | .vidx _ a b => some (.plain (fun s s' o _ j =>
      let x := (s.rd a).toInt + j * (s.rd b).toInt
      into s' 7 false o j (.fin (decide (x < 0)) x.natAbs 0, 0)))
  | .vgath _ _ _ => some ⟨fun s os j => (os.take 1).map (fun x => (x, (gathered s os j).toNat)), fun s s' o os j =>
      some (if 0 ≤ gathered s os j ∧ gathered s os j < (os.headD o).sh.n
        then moved s' o (os.headD o) j (gathered s os j).toNat else (0, flOOR))⟩
  | .vpack _ _ _ => some ⟨fun _ os j => (os[j % 2]?.toList).map (fun x => (x, j / 2)), fun _ s' o os j =>
      some (moved s' o (os.getD (j % 2) o) j (j / 2))⟩
  | .vunpk _ _ b => some ⟨fun s os j => os.map (fun x => (x, 2 * j + (s.rd b).toNat)), fun s s' o os j =>
      some (moved s' o (os.headD o) j (2 * j + (s.rd b).toNat))⟩
  | .vrng _ a => some (.plain (fun s _ o _ j =>
      (randomElement o.fmt (counterBits (s.run.ctx.seed ^^^ s.rd a) o.sh.tid j), 0)))
  | .viadd _ _ _ => some (.ints (fun _ a b => a + b))
  | .visub _ _ _ => some (.ints (fun _ a b => a - b))
  | .vimul _ _ _ => some (.ints (fun _ a b => a * b))
  | .viand _ _ _ => some (.ints (fun _ a b => a &&& b))
  | .vior _ _ _ => some (.ints (fun _ a b => a ||| b))
  | .vixor _ _ _ => some (.ints (fun _ a b => a ^^^ b))
  | .vishl _ _ _ => some (.ints (fun w a b => a <<< (b.toNat % w)))
  | .vishr _ _ _ f => some (.ints (fun w a b => if f = 1 then a.sshiftRight (b.toNat % w) else a >>> (b.toNat % w)))
  | i => match elementForm i with
    | some e => some (.plain (fun s s' o os j => into s' e.fn e.sat o j
        (e.op (s'.destMode e.fn o j) (s'.val (os.headD o) j) (secondOperand i s s' os j) (s'.val o j))))
    | none => none

/-- The bytes of a number, the lowest first, are stored over the units of an element. -/
def StoredIn (s t : State) : List (Nat × Nat) → Nat → Prop
  | [], _ => True
  | u :: us, v => (∀ k < u.2, s.Stored t u.1 k (BitVec.ofNat 8 (v / 256 ^ k))) ∧ StoredIn s t us (v / 256 ^ u.2)

/-- Element j of D holds what is stored there, or what it held before. -/
def ElemBecomes (s t : State) (o : Opnd) (j : Nat) (r : Option (Nat × Flags)) : Prop :=
  match r with
  | some v => StoredIn s t (o.el j).units v.1
  | none => ∀ u ∈ (o.el j).units, ∀ k < u.2, s.SameByte t (u.1 + k)

/-- The OR of the flags of some elements (R23). -/
def allFlags (f : Nat → Flags) (js : List Nat) : Flags := js.foldl (fun x j => x ||| f j) 0

/-- The scale byte of the block of an element on an E2M1 page (R28). -/
def scaleUnit (e : Elem) : List (Nat × Nat) :=
  match e.loc.entry with
  | some t => [(t.scaleByte e.loc.va, 1)]
  | none => []

/-- An E2M1 block as its 16-byte record (R28): the element word, the scale above it. -/
def blockRecord (s : State) (a : Opnd) (j : Nat) : Nat :=
  match (a.el j).loc.entry with
  | some t => s.elemRaw (a.el j) % 2 ^ 32 + 2 ^ 32 * s.seenNat (t.scaleByte (a.el j).loc.va) 1
  | none => s.elemRaw (a.el j)

/-- The instructions that write E2M1 blocks (R178, R183), with the record of the block whose first element is j and its flags. -/
def blockForm (i : Instr) (s s' : State) (a : Opnd) (j : Nat) : Option (Nat × Flags) :=
  match i with
  | .vcopy _ _ => some (blockRecord s' a j, 0)
  | .vq4 _ _ b =>
    let q := quantise ((List.range 8).map (fun k => s'.val a (j + k))) (decodeF bf16 ((s.rd b).toNat % 2 ^ 16))
    some (q.1 + 2 ^ 32 * q.2.1, q.2.2)
  | _ => none

/-- No other block of D is stored in a byte of block j of D, or in a byte that A's elements of that block are read from; the block's
word and its scale are apart. -/
def blockIndependent (o a : Opnd) (j : Nat) : Prop :=
  let all := fun k => (o.el k).units ++ scaleUnit (o.el k)
  (∀ x, inUnits (scaleUnit (o.el j)) x = true → inUnits (o.el j).units x = false) ∧
  ∀ k < o.sh.n, k / 8 ≠ j / 8 → ∀ x, inUnits (all j) x = true ∨ (∃ l < 8, inUnits (a.reads (a.el (j + l))) x = true) →
    inUnits (all k) x = false

/-- An exact result in the format of an accumulator, rounded once, and the flags of both (R175). -/
def stepped (f : Fmt) (m : RMode) (r : FVal × Flags) : Nat × Flags :=
  ((roundF f m false r.1).1, r.2 ||| (roundF f m false r.1).2)

/-- A reduction that writes a scalar register (R175): the register, the sources, the rounding field, and the accumulator after the first
element and after a later one, from the elements of A and B. -/
structure ReduceOp where
  d : Reg
  srcs : State → List (BitVec 256 × Want)
  fn : BitVec 3
  first : Fmt → RMode → FVal → FVal → Nat × Flags
  step : Fmt → RMode → FVal → FVal → FVal → Nat × Flags

/-- The steps of `vdot`: fused, one rounding each (R175). -/
def dotFirst (f : Fmt) (m : RMode) (a b : FVal) : Nat × Flags := stepped f m (mulV a b)
def dotStep (f : Fmt) (m : RMode) (acc a b : FVal) : Nat × Flags := stepped f m (fmaV m a b acc)

/-- R175: `vsum`, whose elements are rounded to the format first, and `vdot`. -/
def reduceForm (i : Instr) : Option ReduceOp :=
  match i with
  | .vsum d a n => some ⟨d, fun s => [(s.rdH a, srcWant)], n, fun f m a _ => roundF f m false a, fun f m acc a _ =>
      let t := roundF f m false a
      let r := stepped f m (addV m acc (decodeF f t.1))
      (r.1, t.2 ||| r.2)⟩
  | .vdot d a b n => some ⟨d, fun s => [(s.rdH a, srcWant), (s.rdH b, srcWant)], n, dotFirst, dotStep⟩
  | _ => none

/-- The format in which a reduction accumulates: FP64 for FP64 elements, else FP32 (R175). -/
def sumFmt (f : Nat) : Fmt := if f = 13 then fp64 else fp32

/-- The accumulator and the flags of all steps after `k` elements of a reduction in ascending order (R175): +0 after none. -/
def reduced (f : Fmt) (m : RMode) (first : Fmt → RMode → FVal → FVal → Nat × Flags)
    (step : Fmt → RMode → FVal → FVal → FVal → Nat × Flags) (a b : Nat → FVal) : Nat → Nat × Flags
  | 0 => (0, 0)
  | 1 => first f m (a 0) (b 0)
  | k + 2 =>
    let p := reduced f m first step a b (k + 1)
    let r := step f m (decodeF f p.1) (a (k + 1)) (b (k + 1))
    (r.1, p.2 ||| r.2)

/-- The largest magnitude of a list of values. -/
def largest (l : List FVal) : FVal := l.foldl (fun m v => if ltV m v.abs then v.abs else m) (.fin false 0 0)

/-- The arithmetic whose second operand comes from a stream register (R163): D, A, the stream register, whether it reads its destination,
and its operation. -/
def streamForm (i : Instr) : Option (Reg × Reg × BitVec 3 × Bool × ElemOp) :=
  match i with
  | .vaddVq d a q n => some (d, a, q.setWidth 3, false, ⟨n, false, fun m a b _ => addV m a b⟩)
  | .vsubVq d a q n => some (d, a, q.setWidth 3, false, ⟨n, false, fun m a b _ => addV m a b.negate⟩)
  | .vmulVq d a q n => some (d, a, q.setWidth 3, false, ⟨n, false, fun _ a b _ => mulV a b⟩)
  | .vminVq d a q => some (d, a, q.setWidth 3, false, ⟨7, false, fun _ a b _ => (smaller a b, signalling a b)⟩)
  | .vmaxVq d a q => some (d, a, q.setWidth 3, false, ⟨7, false, fun _ a b _ => (larger a b, signalling a b)⟩)
  | .vfmaVq d a q n => some (d, a, q.setWidth 3, true, ⟨n, false, fun m a b d => fmaV m a b d⟩)
  | _ => none

/-- The bytes that `n` elements of a format take in a stream (R163): E2M1 in block records of 16, BFP24 in lines of 64. -/
def streamBytesOf (f n : Nat) : Nat := if f = 6 then 2 * n else if f = 14 then (n + 15) / 16 * 64 else n * fmtSize f

/-- Element `j` of stream bytes in a format (R163). -/
def streamed (f : Nat) (bs : List Byte) (j : Nat) : FVal :=
  let num := fun (lo n : Nat) => natOfBytes ((bs.drop lo).take n)
  if f = 6 then blockValue (num (16 * (j / 8)) 16 / 16 ^ (j % 8) % 16) (num (16 * (j / 8)) 16 / 2 ^ 32 % 256) (.fin false 1 0)
  else if f = 14 then sharedValue (num (64 * (j / 16)) 64) (j % 16)
  else numberOf f (num (j * fmtSize f) (fmtSize f))

/-- The bytes behind a stream register, from the start of its oldest packet or link entry on (R285). -/
def queueBytes (s : State) (q : BitVec 3) : List Byte :=
  match (s.rdQ q).bind with
  | .tag _ => s.run.streams[q.toFin].flatMap (fun i => packetBytes (s.slot i).pkt)
  | .inPrev => s.net.inPrev.flatMap (fun e => e.data)
  | .inNext => s.net.inNext.flatMap (fun e => e.data)
  | _ => []

/-- A stream register serves `size` bytes (R163, R286): the checkpoint that consumed bytes may ask for first leads to `s'`, where that
many bytes lie ahead of the position, at most 512, in no link entry that is poisoned. -/
def StreamServes (s : State) (q : BitVec 3) (size : Nat) (s' : State) : Prop :=
  size ≤ 512 ∧ (if (s.rdQ q).pos = (s.rdQ q).rel then s' = s else s.checkpointHere = .ok s') ∧
    (s'.rdQ q).pos + size ≤ (queueBytes s' q).length ∧
    ∀ e ∈ touchedEntries (s'.linkEntries (s'.rdQ q).bind) (s'.rdQ q).pos size, e.poisoned = false

/-- Element `j` of what a stream register serves next. -/
def served (s : State) (q : BitVec 3) (f : Nat) (size : Nat) (j : Nat) : FVal :=
  streamed f (((queueBytes s q).drop (s.rdQ q).pos).take size) j

/-- The header of a packet as R83 lays it out. -/
def headerBits (p : Packet) : BitVec 128 := 0#12 ++ p.ts ++ p.seg ++ p.kind ++ p.len ++ p.tag ++ p.dest.setWidth 34

/-- Byte `k` of a packet's payload, and of its whole slot with the header first (R83, R178). -/
def payloadByte (p : Packet) (k : Nat) : Byte := BitVec.ofNat 8 ((p.payload.getD (k / 4) 0).toNat / 256 ^ (k % 4))
def slotByte (p : Packet) (k : Nat) : Byte :=
  if k < 16 then BitVec.ofNat 8 ((headerBits p).toNat / 256 ^ k) else payloadByte p (k - 16)

/-- What an element-wise instruction leaves where no checkpoint follows it and the activation is unordered: element `j` of D, if it is
independent of the others, is `v j`, and no byte outside D changes. -/
def ElementsStored (s t : State) (o : Opnd) (srcs : List Opnd) (v : Nat → Nat) : Prop :=
  s.ordered = false → s.MemOk → s.SameOutside t (destUnits o) ∧
    ∀ j < o.sh.n, independent o srcs j → ∀ u ∈ (o.el j).units, ∀ k < u.2, s.Stored t u.1 k (BitVec.ofNat 8 (v j / 256 ^ k))

end Sys2Proof.Claims

/-- R168, R169 and the section of R43: on a sound ring, `waitf` and `waite` end once m slots are filled or free, and `advp` and `advc` add m to PROD
or CONS modulo 2^14 while no engine owns the count, or when m is 0 (the model's choice, log entry 124); nothing else changes. A wait for a count that no engine could bring raises
ILLOPD, with the handle (255) as its field: the section of R43 names that field for operands, and log entry 23 (DEDUCED) reads it so
here. -/
def Obligations.RingResults : Prop :=
  ∀ i x, ringForm i = some x → ∀ s, soundRing (s.rdH x.d) →
    (x.advance = false → (x.m s).toNat ≤ ((s.rdH x.d).extractLsb' 216 12).toNat →
      (if x.free then free else filled) (s.rdH x.d) < (x.m s).toNat →
      (if x.free then s.drains x.d else s.fills x.d) = false → s.Trappable →
      EntersTrap i s 0x02 ((255#8 ++ i.word).setWidth 64) (s.run.ctx.pc &&& ~~~3#64)) ∧
    ((x.m s).toNat ≤ (if x.free then free else filled) (s.rdH x.d) →
    (x.advance = false → (if x.free then GoesTo else ObservesTo) i s (s.run.ctx.pc + BitVec.ofNat 64 x.len)) ∧
    (x.advance = true → ((if x.free then s.fills x.d else s.drains x.d) = false ∨ x.m s = 0) →
      WritesHandle i s x.d x.len (fun g =>
        if x.free then FieldSet (s.rdH x.d) g 228 14 (((s.rdH x.d).extractLsb' 228 14).toNat + (x.m s).toNat)
        else FieldSet (s.rdH x.d) g 242 14 (((s.rdH x.d).extractLsb' 242 14).toNat + (x.m s).toNat))))

/-- R165 to R167: `hget` reads the field of its selector; `hset` writes it, when the value fits, and `hmov` copies a handle, on
a register that no engine is engaged with (R170). -/
def Obligations.HandleFieldResults : Prop :=
  (∀ d a n s, n.toNat < 22 → WritesScalar (.hget d a n) s d
    (BitVec.ofNat 64 ((s.rdH a).toNat / 2 ^ (fieldOfSelector n.toNat).1 % 2 ^ (fieldOfSelector n.toNat).2)) 0 4) ∧
  (∀ d a n s, n.toNat < 22 → (s.rd a).toNat < 2 ^ (fieldOfSelector n.toNat).2 → s.fills d = false → s.drains d = false →
    WritesHandle (.hset d a n) s d 4 (fun g =>
      FieldSet (s.rdH d) g (fieldOfSelector n.toNat).1 (fieldOfSelector n.toNat).2 (s.rd a).toNat)) ∧
  (∀ d a s, s.fills (d.setWidth 6) = false → s.drains (d.setWidth 6) = false →
    WritesHandle (.hmov d a) s (d.setWidth 6) 4 (fun g => g = s.rdH (a.setWidth 6)))

/-- R167: `hld` loads the 32 bytes at a multiple of 32 into a handle register that no engine is engaged with. R167, R93:
`hst` puts the 32 bytes of a handle register at a multiple of 32 in the write log; `s'` is the state after the checkpoint
that the log may need first. -/
def Obligations.HandleAccessResults : Prop :=
  (∀ i d v n, handleLoadForm i = some (d, v, n) → ∀ s l, s.Reaches 0 (v s) 32 askLoad l →
     (l.onAd && (s.fwd || s.rev)) = false → s.loadPoison [(l.home, 32)] = .ok () → s.fills d = false → s.drains d = false →
     ∃ t, exec i s = .next t ∧ s.RetiredAt t (s.run.ctx.pc + BitVec.ofNat 64 n) ∧
       t.rdH d = BitVec.ofNat 256 (s.seenNat l.home 32) ∧
       (∀ r : Reg, r.setWidth 5 ≠ d.setWidth 5 → t.rdH r = s.rdH r) ∧
       t.run.ctx = { s.run.ctx with h := t.run.ctx.h, pc := t.run.ctx.pc, lic := t.run.ctx.lic } ∧
       s.KeptByLoad t ∧ ∀ a, t.seen a = s.seen a) ∧
  (∀ i d v n, handleStoreForm i = some (d, v, n) → ∀ s l s', s.Reaches 0 (v s) 32 askStore l →
     l.fmt ≠ 6 → l.fmt ≠ 14 → (l.onAd && (s.fwd || s.rev)) = false → s.ordered = false → s.MemOk →
     s.storeRoom [l.home] [] = .ok s' →
     ∃ t, exec i s = .next t ∧ s.RetiredAt t (s.run.ctx.pc + BitVec.ofNat 64 n) ∧
       (∀ k < 32, s'.Stored t l.home k (BitVec.ofNat 8 ((s.rdH d).toNat / 256 ^ k))) ∧
       s'.SameOutside t [(l.home, 32)] ∧ s'.run.ctx.SameRegisters t.run.ctx ∧ s'.KeptByStore t)

/-- R159, R173, R174, R176 to R184: element j of the destination of an instruction of rows 6 and 7 becomes what `resultForm` gives,
where it is independent of the other elements: of the arithmetic, the exact result of the operands rounded once by the mode of the FN;
of the moves, bits or one rounding by FRM.MODE; the instruction raises the OR of the flags of its elements (R23). An E2M1 destination of
`vcopy` and `vq4` takes whole blocks, as records or as words with their scales on the page. -/
def Obligations.VectorElementResults : Prop :=
  (∀ i x r, vecForm i = some x → resultForm i = some r → ∀ s o os s', VecReady s x o os false s' → vecScalarOk i s →
    notReversed s o os → s'.ordered = false → s'.MemOk → o.fmt ≠ 6 →
    ∃ t, exec i s = .next t ∧
      (∀ j < o.sh.n, independentOf o (r.reads s os j) j → ElemBecomes s' t o j (r.result s s' o os j)) ∧
      ((∀ j < o.sh.n, independentOf o (r.reads s os j) j) → t.run.ctx.fflags = s.run.ctx.fflags |||
        allFlags (fun j => ((r.result s s' o os j).map Prod.snd).getD 0) (List.range o.sh.n))) ∧
  (∀ i x, vecForm i = some x → ∀ s o a s', VecReady s x o [a] false s' → vecScalarOk i s → notReversed s o [a] →
    s'.ordered = false → s'.MemOk → o.fmt = 6 → ∀ r : Nat → Nat × Flags, (∀ j, blockForm i s s' a j = some (r j)) →
    ∃ t, exec i s = .next t ∧
      (∀ j < o.sh.n, j % 8 = 0 → blockIndependent o a j → StoredIn s' t (o.el j).units (r j).1 ∧
        StoredIn s' t (scaleUnit (o.el j)) ((r j).1 / 2 ^ 32)) ∧
      ((∀ j < o.sh.n, j % 8 = 0 → blockIndependent o a j) → t.run.ctx.fflags = s.run.ctx.fflags |||
        allFlags (fun j => if j % 8 = 0 then (r j).2 else 0) (List.range o.sh.n)))

/-- R159, R160: a vector instruction whose checks pass retires, changes no register but PC, LIC and the flags it adds, and,
for an unordered activation and where no checkpoint follows, stores to no byte but those of its destination's elements.
R126, R160: a vector instruction whose operands fail a check raises the first cause found and writes nothing: no register
but those of the trap, and no byte; `s1` is the state that the check left, in which at most LC was read again (R261). -/
def Obligations.VectorCompletion : Prop :=
  (∀ i x, vecForm i = some x → ∀ s o os after s', VecReady s x o os after s' → vecScalarOk i s → notReversed s o os →
     ∃ t, exec i s = .next t ∧ s.RetiredAt t (s.run.ctx.pc + 4) ∧ s.run.ctx.SameRegisters t.run.ctx ∧
       (after = false → s'.ordered = false → s'.MemOk → s'.SameOutside t (destUnits o))) ∧
  (∀ i x, vecForm i = some x → ∀ s s1 c v, vecScalarOk i s → c ≠ 0x13 →
     s.vecOperands i.word (s.rdH x.d) (x.want s) (x.srcs s) x.counts x.self = .error (s1, .trap c v) → s.Trappable →
     ∃ t, exec i s = .next t ∧
       t.run.ctx = { s.run.ctx with
         pc := s.core.tvec, epc := s.run.ctx.pc &&& ~~~3#64, tcause := BitVec.ofNat 6 c, tval := v, priv := true, ppriv := false } ∧
       t.run.stall = none ∧ t.core.retired = s.core.retired ∧ t.die = s.die ∧ t.net = s.net ∧ t.run.log = s.run.log ∧
       t.run.adj = s.run.adj ∧ ∀ a, t.seen a = s.seen a)

/-- R175: a reduction whose checks pass writes its result to S[D] with the flags of its steps and stores to no byte: `vsum` and `vdot`
accumulate in ascending order, each step rounded once; `vmaxabs` writes the largest magnitude, or the canonical NaN when an element is
a NaN (where the format holds that magnitude: the spec states no other result). -/
def Obligations.ReductionResults : Prop :=
  (∀ i x, reduceForm i = some x → ∀ s os, undivided s → (∀ w, s.vecSources w (x.srcs s) = .ok os) →
    ∀ a b r, os.head? = some a → os.getLast? = some b →
    r = reduced (sumFmt a.fmt) (s.scalarMode x.fn) x.first x.step (s.val a) (s.val b) a.sh.n →
    ∃ t, exec i s = .next t ∧ s.RetiredAt t (s.run.ctx.pc + 4) ∧
      (∀ d, t.rd d = if d = 0 then 0 else if d = x.d then BitVec.ofNat 64 r.1 else s.rd d) ∧
      Ctx.OnlyScalars s.run.ctx t.run.ctx r.2 ∧ t.die = s.die ∧ t.net = s.net ∧ ∀ a, t.seen a = s.seen a) ∧
  (∀ d h s a, undivided s → (∀ w, s.vecSources w [(s.rdH h, srcWant)] = .ok [a]) →
    ∃ t, exec (.vmaxabs d h) s = .next t ∧ s.RetiredAt t (s.run.ctx.pc + 4) ∧
      (∀ r, r ≠ d → t.rd r = s.rd r) ∧ s.run.ctx.SameRegisters { t.run.ctx with s := s.run.ctx.s } ∧
      ((∃ j < a.sh.n, (s.val a j).isNan = true) → d ≠ 0 → t.rd d = BitVec.ofNat 64 (sumFmt a.fmt).nan) ∧
      ((∀ j < a.sh.n, (s.val a j).isNan = false) → d ≠ 0 → ∀ x,
        roundF (sumFmt a.fmt) .rne false (largest ((List.range a.sh.n).map (s.val a))) = (x, 0) → t.rd d = BitVec.ofNat 64 x) ∧
      t.net = s.net ∧ t.die.mem = s.die.mem ∧ t.run.log = s.run.log)

/-- R163, R173, R175, R286: arithmetic on a stream that serves the bytes of its elements, at most 512, retires and consumes
them; element j of D is the exact result of element j of A and of the j-th element of the stream, rounded once, and `vdot.q`
writes the dot product to S[D]. That E2M1 elements come in records of 16 bytes and BFP24 in lines of 64 is the model's
reading (log entry 16, DEDUCED). R178: `vcopy` from a bound window whose packet holds the bytes of D's elements copies them
raw, the payload's or the whole slot's with the header first, and changes no register. -/
def Obligations.StreamAndWindowCompletes : Prop :=
  ((∀ i d a q self e, streamForm i = some (d, a, q, self, e) → ∀ s s1 o x s2 after s', undivided s →
     (s.rdQ q).bind.isSource = true →
     (∀ w, s.vecOperands w (s.rdH d) (arithDst self) [.plain (s.rdH a) srcWant] sameCount self = .ok (s1, o, [x])) →
     StreamServes s1 q (streamBytesOf x.fmt o.sh.n) s2 →
     VecRoom s2 o ([x] ++ if self then [o] else []) after s' →
     ∃ t, exec i s = .next t ∧ s.RetiredAt t (s.run.ctx.pc + 4) ∧ s.run.ctx.SameRegisters t.run.ctx ∧
       (after = false → (t.rdQ q).pos = (s'.rdQ q).pos + streamBytesOf x.fmt o.sh.n ∧
         ElementsStored s' { t with run := { t.run with path := s'.run.path } } o [x] (fun j => (encodeVal o.fmt (s'.destMode e.fn o j) e.sat
           (e.op (s'.destMode e.fn o j) (s'.val x j) (served s2 q x.fmt (streamBytesOf x.fmt o.sh.n) j) (s'.val o j)).1).1))) ∧
   (∀ d a q n s x s2, undivided s → (s.rdQ (q.setWidth 3)).bind.isSource = true →
     (∀ w, s.vecSources w [(s.rdH a, srcWant)] = .ok [x]) →
     StreamServes s (q.setWidth 3) (streamBytesOf x.fmt x.sh.n) s2 →
     ∃ t, exec (.vdotQ d a q n) s = .next t ∧ s.RetiredAt t (s.run.ctx.pc + 4) ∧
       (∀ r, t.rd r = if r = 0 then 0
         else if r = d then BitVec.ofNat 64 (reduced (sumFmt x.fmt) (s.scalarMode n) dotFirst dotStep (s2.val x)
           (served s2 (q.setWidth 3) x.fmt (streamBytesOf x.fmt x.sh.n)) x.sh.n).1 else s.rd r) ∧
       (t.rdQ (q.setWidth 3)).pos = (s2.rdQ (q.setWidth 3)).pos + streamBytesOf x.fmt x.sh.n ∧
       t.die.mem = s2.die.mem ∧ ∀ a, t.run.log.find a = s2.run.log.find a)) ∧
  (∀ d a s k o s1 after s', undivided s → s.rdW a = some k →
     (∀ w, s.vecOperands w (s.rdH d) { dstWant with permit := fun f => f != 6 && f != 14 } [] sameCount false = .ok (s1, o, [])) →
     VecRoom s1 o [] after s' → o.fmt = hFmt (s.rdH d) ∨ hFmt (s.rdH d) = 0 →
     (o.sh.n * fmtSize o.fmt ≤ 4 * (s.slot k).pkt.len.toNat →
       ∃ t, exec (.vcopyW d a) s = .next t ∧ s.RetiredAt t (s.run.ctx.pc + 4) ∧ s.run.ctx.SameRegisters t.run.ctx ∧
         (after = false → s'.ordered = false → s'.MemOk → s'.SameOutside t (destUnits o) ∧ ∀ j < o.sh.n, independent o [] j →
           ∀ u ∈ (o.el j).units, ∀ b < u.2, s'.Stored t u.1 b (payloadByte (s.slot k).pkt (j * fmtSize o.fmt + b)))) ∧
     (o.sh.n * fmtSize o.fmt ≤ 16 + 4 * (s.slot k).pkt.len.toNat →
       ∃ t, exec (.vcopyWAll d a) s = .next t ∧ s.RetiredAt t (s.run.ctx.pc + 4) ∧ s.run.ctx.SameRegisters t.run.ctx ∧
         (after = false → s'.ordered = false → s'.MemOk → s'.SameOutside t (destUnits o) ∧ ∀ j < o.sh.n, independent o [] j →
           ∀ u ∈ (o.el j).units, ∀ b < u.2, s'.Stored t u.1 b (slotByte (s.slot k).pkt (j * fmtSize o.fmt + b)))))
namespace Sys2Proof.Claims

/-! ### Function registers (R186 to R206) -/

/-- An instruction that allocates a function in F[d]: when it may run, the interval, the coefficients and the flags. -/
structure FnOp where
  d : Reg
  ok : State → Prop
  a : State → Nat
  b : State → Nat
  cs : State → List Nat
  fl : State → Flags

/-- An operation whose result is truncated by the tolerance (R190), from its series and the flags raised besides. -/
def series (d : Reg) (ok : State → Prop) (a b : State → Nat) (l : State → List FR) (fl : State → Flags) : Option FnOp :=
  some ⟨d, ok, a, b, fun s => (truncate s.run.ctx.fntol.toNat ((l s).map (·.1))).1,
    fun s => fl s ||| frFlags (l s) ||| (truncate s.run.ctx.fntol.toNat ((l s).map (·.1))).2⟩

/-- F[r] is allocated (R186). -/
def has (s : State) (r : Reg) : Prop := (s.rdF r).alloc = true

/-- Two allocated functions of one interval (R197). -/
def pair (s : State) (a b : Reg) : Prop := has s a ∧ has s b ∧ s.fnA a = s.fnA b ∧ s.fnB a = s.fnB b

/-- The point of `fncomp` for one of the first's sample points: the value of B clamped into A's interval, then A (R199). -/
def composed (s : State) (a b : Reg) (x : Nat) : FR :=
  let z := evalPlain (s.coeffs b) (s.fnA b) (s.fnB b) x
  let y := evalPlain (s.coeffs a) (s.fnA a) (s.fnB a) (clampTo (s.fnA a) (s.fnB a) z.1)
  (y.1, z.2 ||| y.2)

/-- The length that a composition would have (R199). -/
def fullLength (s : State) (a b : Reg) : Nat := ((s.coeffs a).length - 1) * ((s.coeffs b).length - 1) + 1

/-- The values of A at the sample points of B (R199). -/
def compositions (s : State) (a b : Reg) : List FR :=
  (chebPoints (s.fnA b) (s.fnB b) (min 64 (fullLength s a b))).map (composed s a b)

/-- The midpoint and the half-width of an interval, each rounded once (R195). -/
def identity (a b : Nat) : List FR :=
  let r := opAdd .rne (decodeF fp32 a) (decodeF fp32 b)
  let t := opSub .rne (decodeF fp32 b) (decodeF fp32 a)
  [frRound (scaleV r.1 (-1)) r.2, frRound (scaleV t.1 (-1)) t.2]

/-- The instructions of row 9 that allocate from function registers and scalars (R195 to R201, R204). -/
def fnForm (i : Instr) : Option FnOp :=
  match i with
  | .fnadd d a b _ => series d (pair · a b) (·.fnA a) (·.fnB a) (fun s => zipSeries frAdd id (s.coeffs a) (s.coeffs b))
      (fun _ => 0)
  | .fnsub d a b _ => series d (pair · a b) (·.fnA a) (·.fnB a) (fun s => zipSeries frSub frNeg (s.coeffs a) (s.coeffs b))
      (fun _ => 0)
  | .fnmul d a b _ => series d (pair · a b) (·.fnA a) (·.fnB a) (fun s => mulSeries (s.coeffs a) (s.coeffs b)) (fun _ => 0)
  | .fnscale d a b _ => series d (has · a) (·.fnA a) (·.fnB a)
      (fun s => (s.coeffs a).map (fun c => frMul (frOf c) (frOf ((s.rd b).toNat % 2 ^ 32)))) (fun _ => 0)
  | .fncomp d a b _ => series d (fun s => has s a ∧ has s b ∧
        enclosureCheck (enclosure (s.coeffs b)).1 (enclosure (s.coeffs b)).2 (s.fnA a) (s.fnB a) = .ok ())
      (·.fnA b) (·.fnB b) (fun s => fitSamples ((compositions s a b).map frVal))
      (fun s => (enclosure (s.coeffs b)).1.2 ||| (enclosure (s.coeffs b)).2.2 ||| frFlags (compositions s a b) |||
        flagIf (decide (64 < fullLength s a b)) flFNTRUNC)
  | .fnint d a _ => series d (has · a) (·.fnA a) (·.fnB a) (fun s => intSeries (s.coeffs a) (s.fnA a) (s.fnB a)) (fun _ => 0)
  | .fnder d a _ => series d (has · a) (·.fnA a) (·.fnB a) (fun s => derSeries (s.coeffs a) (s.fnA a) (s.fnB a)) (fun _ => 0)
  | .fntrunc d a b _ => series d (fun s => has s a ∧ 1 ≤ (s.rd b).toNat ∧ (s.rd b).toNat ≤ 64) (·.fnA a) (·.fnB a)
      (fun s => ((s.coeffs a).take (s.rd b).toNat).map frOf) (fun _ => 0)
  | .fndom d a b => series d (fun s => intervalOk ((s.rd a).toNat % 2 ^ 32) ((s.rd b).toNat % 2 ^ 32) = true)
      (fun s => (s.rd a).toNat % 2 ^ 32) (fun s => (s.rd b).toNat % 2 ^ 32)
      (fun s => identity ((s.rd a).toNat % 2 ^ 32) ((s.rd b).toNat % 2 ^ 32)) (fun _ => 0)
  | .fnmov d a _ => some ⟨d, fun s => has s a ∧ a ≠ d, (·.fnA a), (·.fnB a), (·.coeffs a), fun _ => 0⟩
  | _ => none

/-- The first run of free words of the store that is long enough begins at `off` (R188). -/
def roomAt (s : State) (n off : Nat) : Prop := (scanRun s.freeWord n 1024 0 0).1 = some off

/-- F[d] of `t` is the allocated function with interval [a, b] and coefficients `cs` at `off`; every other function register
has its header, and every other allocated one its coefficients, as in `s` (R186, R188). -/
def Allocated (s t : State) (d : Reg) (a b : Nat) (cs : List Nat) (off : Nat) : Prop :=
  (t.rdF d).alloc = true ∧ (t.rdF d).a.toNat = a % 2 ^ 32 ∧ (t.rdF d).b.toNat = b % 2 ^ 32 ∧
    (t.rdF d).off.toNat = off ∧ t.coeffs d = cs.map (· % 2 ^ 32) ∧
    ∀ r : Reg, r.setWidth 4 ≠ d.setWidth 4 → t.rdF r = s.rdF r ∧ ((s.rdF r).alloc = true → t.coeffs r = s.coeffs r)

/-- The context after an instruction that writes at most a function register and flags. -/
def OnlyFunctions (c d : Ctx) (fl : Flags) : Prop :=
  d = { c with f := d.f, pc := d.pc, lic := d.lic, fflags := c.fflags ||| fl }

/-- What an instruction on function registers keeps: everything but the coefficient store. -/
def KeptByFn (s t : State) : Prop := State.Kept { s with run := { s.run with store := t.run.store } } t

/-- The longest run of free words of the store (R191). -/
def longestRun (s : State) (n : Nat) : Prop :=
  (∃ off, off + n ≤ 1024 ∧ ∀ k < n, s.freeWord (off + k) = true) ∧
    ∀ off m, off + m ≤ 1024 → (∀ k < m, s.freeWord (off + k) = true) → m ≤ n

/-- The forms of `fnld` and `fnst` (R196): the register, the address and the length. -/
def fnLoadForm (i : Instr) : Option (Reg × (State → Word) × Nat) :=
  match i with
  | .fnld d a n => some (d, fun s => s.rd a + n.signExtend 64, 4)
  | .fnldLit d a l => some (d, fun s => s.rd a + l, 12)
  | _ => none
def fnStoreForm (i : Instr) : Option (Reg × (State → Word) × Nat) :=
  match i with
  | .fnst d a n => some (d, fun s => s.rd a + n.signExtend 64, 4)
  | .fnstLit d a l => some (d, fun s => s.rd a + l, 12)
  | _ => none

/-- The parts of 16 bytes of the image of n coefficients, each with the bytes it needs (R196). -/
def partSizes (ls : List Loc) (n : Nat) : List (Loc × Nat) :=
  ls.zip ((List.range ls.length).map (fun k => min 16 (4 * n - 16 * k)))

/-- The sample points of `fnroot` with their values (R203). -/
def rootSamples (s : State) (a : Reg) : List (Nat × FR) :=
  (List.range (4 * (s.rdF a).n.toNat)).map (fun i =>
    (rootPoint (s.fnA a) (s.fnB a) (s.rdF a).n.toNat i,
      evalPlain (s.coeffs a) (s.fnA a) (s.fnB a) (rootPoint (s.fnA a) (s.fnB a) (s.rdF a).n.toNat i)))

/-- The roots that `fnroot` finds. -/
def roots (s : State) (a : Reg) : List FR :=
  rootsOf (evalPlain (s.coeffs a) (s.fnA a) (s.fnB a)) none ((rootSamples s a).map (fun q => (q.1, q.2.1)))

/-- Word `k` of the image of a function register (R196): the ends of the interval, the length, a zero, then the coefficients. -/
def imageWord (s : State) (r : Reg) (k : Nat) : Nat :=
  if k = 0 then s.fnA r else if k = 1 then s.fnB r else if k = 2 then (s.rdF r).n.toNat else if k = 3 then 0
  else (s.coeffs r).getD (k - 4) 0

/-- Parts of 16 bytes that lie apart. -/
def apart (ls : List Loc) : Prop :=
  ls.Pairwise (fun x y => x.home + 16 ≤ y.home ∨ y.home + 16 ≤ x.home)

/-- The value of a function at an element of `fneval`, which enters as FP32, rounded to nearest (R202). -/
def evaluated (s : State) (a : Reg) (v : FVal) : FVal :=
  decodeF fp32 (evalPlain (s.coeffs a) (s.fnA a) (s.fnB a) (roundF fp32 .rne false v).1).1

end Sys2Proof.Claims

/-- R188 to R201, R204: an instruction that makes a function allocates its truncated coefficients at the first run of free words
that is long enough, raises its flags, and leaves every other function register and its coefficients as they were. -/
def Obligations.FunctionResults : Prop :=
  ∀ i x, fnForm i = some x → ∀ s off, x.ok s → roomAt s (x.cs s).length off → s.run.store.wf = true →
    ∃ t, exec i s = .next t ∧ s.RetiredAt t (s.run.ctx.pc + 4) ∧ Allocated s t x.d (x.a s) (x.b s) (x.cs s) off ∧
      OnlyFunctions s.run.ctx t.run.ctx (x.fl s) ∧ KeptByFn s t ∧ t.run.store.wf = true ∧ ∀ a, t.seen a = s.seen a

/-- R191: without room in the store a plain form leaves only FNSPACE, and a `.chk` form raises FNSP with the longest run of
free words and the words requested in TVAL, FNSPACE as it was (the model's reading, log entry 39); R204: `fnmov` of a
register to itself changes nothing; R186: `fnfree` frees its register. R202, R204: `fnevs` writes f at the FP32 point S[B],
and outside the interval the canonical NaN with DOMX, or DOMF under `.strict`; `fnlen` writes the length and the offset. -/
def Obligations.FunctionSpaceAndEvaluation : Prop :=
  ((∀ i x, fnForm i = some x → ∀ s, x.ok s → (scanRun s.freeWord (x.cs s).length 1024 0 0).1 = none →
     ((i.word.extractLsb' 29 3).getLsbD 0 = false → ∃ t, exec i s = .next t ∧ s.RetiredAt t (s.run.ctx.pc + 4) ∧
       t.run.ctx = { s.run.ctx with fnspace := true, pc := t.run.ctx.pc, lic := t.run.ctx.lic } ∧ s.Kept t) ∧
     ((i.word.extractLsb' 29 3).getLsbD 0 = true → s.Trappable → ∀ run, longestRun s run →
       EntersTrap i s 0x0A (BitVec.ofNat 64 (run * 2 ^ 16 + (x.cs s).length)) (s.run.ctx.pc &&& ~~~3#64))) ∧
   (∀ d c s, has s d → GoesTo (.fnmov d d c) s (s.run.ctx.pc + 4)) ∧
   (∀ d s, ∃ t, exec (.fnfree d) s = .next t ∧ s.RetiredAt t (s.run.ctx.pc + 4) ∧ (t.rdF d).alloc = false ∧
     (∀ r : Reg, r.setWidth 4 ≠ d.setWidth 4 → t.rdF r = s.rdF r) ∧ OnlyFunctions s.run.ctx t.run.ctx 0 ∧ s.Kept t)) ∧
  ((∀ d a b c s y, has s a → evalFn (s.coeffs a) (s.fnA a) (s.fnB a) ((s.rd b).toNat % 2 ^ 32) = some y →
     WritesScalar (.fnevs d a b c) s d (BitVec.ofNat 64 y.1) y.2 4) ∧
   (∀ d a b s, has s a → evalFn (s.coeffs a) (s.fnA a) (s.fnB a) ((s.rd b).toNat % 2 ^ 32) = none →
     WritesScalar (.fnevs d a b 0) s d 0x7FC00000 flDOMX 4 ∧
     (s.Trappable → EntersTrap (.fnevs d a b 1) s 0x09 ((s.rd b).setWidth 32 ++ 3#32) (s.run.ctx.pc &&& ~~~3#64))) ∧
   (∀ d a s, has s a →
     WritesScalar (.fnlen d a) s d (BitVec.ofNat 64 ((s.rdF a).n.toNat + 2 ^ 16 * (s.rdF a).off.toNat)) 0 4))

/-- R194: `fnfit` fits the samples of a vector of 1 to 64 elements over the interval of S[B]; R196: `fnld` loads an image.
R196: `fnst` stores the image of an allocated register through the write log; R203: `fnroot` stores the roots of F[A] as
FP32 words from S[B] on and writes their number to S[D]; R202: `fneval` writes the value of F[A] at every element of B,
rounded to D's format. Each changes no register but what is named. -/
def Obligations.FunctionAccessResults : Prop :=
  ((∀ d a b c s o off, 1 ≤ (Shape.of (s.rdH a) false).n → (Shape.of (s.rdH a) false).n ≤ 64 →
     (∀ w, s.vecSources w [(s.rdH a, srcWant)] = .ok [o]) →
     intervalOk ((s.rd b).toNat % 2 ^ 32) ((s.rd b).toNat / 2 ^ 32) = true → s.run.store.wf = true →
     let l := fitSamples ((List.range (Shape.of (s.rdH a) false).n).map (s.val o))
     let cs := truncate s.run.ctx.fntol.toNat (l.map (·.1))
     roomAt s cs.1.length off →
     ∃ t, exec (.fnfit d a b c) s = .next t ∧ s.RetiredAt t (s.run.ctx.pc + 4) ∧
       Allocated s t d ((s.rd b).toNat % 2 ^ 32) ((s.rd b).toNat / 2 ^ 32) cs.1 off ∧
       OnlyFunctions s.run.ctx t.run.ctx (frFlags l ||| cs.2) ∧ t.die = s.die) ∧
   (∀ i d v n, fnLoadForm i = some (d, v, n) → ∀ s hs ls off, s.run.store.wf = true →
     (∀ w, s.imageParts w askLoad (fun _ => noCheck) (v s) 16 = .ok hs) →
     checks (hs.map (fun l => s.loadPoison [(l.home, 16)])) = .ok () →
     let hdr := natOfBytes (s.imageBytes hs)
     let len := hdr / 2 ^ 64 % 256
     1 ≤ len → len ≤ 64 → (∀ w, s.imageParts w askLoad (fun _ => noCheck) (v s + 16) (4 * len) = .ok ls) →
     checks ((partSizes ls len).map (fun p => s.loadPoison [(p.1.home, p.2)])) = .ok () →
     intervalOk (hdr % 2 ^ 32) (hdr / 2 ^ 32 % 2 ^ 32) = true → roomAt s len off →
     ∃ t, exec i s = .next t ∧ s.RetiredAt t (s.run.ctx.pc + BitVec.ofNat 64 n) ∧
       Allocated s t d (hdr % 2 ^ 32) (hdr / 2 ^ 32 % 2 ^ 32)
         ((List.range len).map (fun k => natOfBytes (((s.imageBytes ls).drop (4 * k)).take 4))) off ∧
       OnlyFunctions s.run.ctx t.run.ctx 0 ∧ t.die = s.die)) ∧
  ((∀ i d v n, fnStoreForm i = some (d, v, n) → ∀ s ls s', has s d →
     (∀ w, s.imageParts w askStore noBlocks (v s) (16 + 4 * (s.rdF d).n.toNat) = .ok ls) →
     s.storeRoom (ls.map (·.home)) [] = .ok s' →
     ∃ t, exec i s = .next t ∧ s.RetiredAt t (s.run.ctx.pc + BitVec.ofNat 64 n) ∧ s.run.ctx.SameRegisters t.run.ctx ∧
       (s'.ordered = false → s'.MemOk → s'.SameOutside t (ls.map (fun l => (l.home, 16))) ∧
         (apart ls → ∀ j, (h : j < ls.length) → ∀ k < 16, 16 * j + k < 16 + 4 * (s.rdF d).n.toNat →
           s'.Stored t (ls[j]).home k (BitVec.ofNat 8 (imageWord s d (4 * j + k / 4) / 256 ^ (k % 4)))))) ∧
   (∀ d a b s s', has s a → (s.rd b).toNat + 16 * (s.rdF a).n.toNat ≤ 262144 → (s.rd b).toNat % 4 = 0 →
     s.storeRoom ((List.range (roots s a).length).map (fun k => s.spA ((s.rd b).toNat + 4 * k))) [] = .ok s' →
     ∃ t, exec (.fnroot d a b) s = .next t ∧ s.RetiredAt t (s.run.ctx.pc + 4) ∧
       (∀ r, t.rd r = if r = 0 then 0 else if r = d then BitVec.ofNat 64 (roots s a).length else s.rd r) ∧
       t.run.ctx.fflags = s.run.ctx.fflags ||| (frFlags ((rootSamples s a).map (·.2)) ||| frFlags (roots s a)) ∧
       (s'.MemOk → s'.SameOutside t [(s.spA (s.rd b).toNat, 4 * (roots s a).length)] ∧
         ∀ k, (h : k < (roots s a).length) → ∀ j < 4,
           t.die.mem.get (s.spA (s.rd b).toNat + (4 * k + j)) = BitVec.ofNat 8 ((roots s a)[k].1 / 256 ^ j))) ∧
   (∀ d a b c s s1 o x after s', has s a → undivided s →
     (∀ w, s.vecOperands w (s.rdH d) dstWant [.plain (s.rdH b) srcWant] sameCount false = .ok (s1, o, [x])) →
     (c = 1 → s.fnStrict a x = .ok ()) → VecRoom s1 o [x] after s' →
     ∃ t, exec (.fneval d a b c) s = .next t ∧ s.RetiredAt t (s.run.ctx.pc + 4) ∧ s.run.ctx.SameRegisters t.run.ctx ∧
       (after = false → ElementsStored s' t o [x] (fun j =>
         (encodeVal o.fmt .rne false (evaluated s' a (s'.val x j))).1))))
namespace Sys2Proof.Claims

/-! ### Control events and the encoder (R20, R43, R119, R120, R147, R148, R190, R207 to R228, R460) -/

/-- The events that write a control register as a `csrw` would (R20, R190, R460, R120): the register and the value; a write
that user level may not make changes nothing. -/
def registerEvent (i : Instr) : Option (BitVec 12 × Word) :=
  match i with
  | .frmWrite v => some (0x001, v)
  | .fntolWrite v => some (0x003, v)
  | .pmselWrite v => some (0x220, v)
  | .csrWrite c v => some (c, v)
  | _ => none

/-- Everything of a machine but the encoder's state is as in `s`, for what a retiring instruction may change (R208). -/
def KeptByEncoder (s t : State) : Prop := State.Kept { s with core := { s.core with enc := t.core.enc } } t

/-- A threshold of `pthr`: neither NaN nor below zero; −0 counts as +0 (R212). -/
def threshold (x : BitVec 32) : Bool := x == 0x80000000 || decide (x.toNat ≤ 0x7F800000)
def thresholdKept (x : BitVec 32) : BitVec 32 := if x = 0x80000000 then 0 else x

/-- The 64 elements of segment i of a source of n elements, as FP32 (R217). -/
def segment (s : State) (o : Opnd) (n i : Nat) : List Nat :=
  (List.range 64).map (fun j => if 64 * i + j < n then frQuiet (s.val o (64 * i + j)) else 0)

/-- The coding of segment i (R217). -/
def coded (s : State) (o : Opnd) (n s0 i : Nat) : SegCode × Nat := codeSegment s.core.enc (s0 + i) (segment s o n i)

/-- The bytes of slot i of a code buffer hold a record (R214, R215). -/
def RecordAt (s t : State) (h : BitVec 256) (i : Nat) (r : List Byte) : Prop :=
  ∀ j < 32, ∀ k < 8, s.Stored t (((s.recordElem h i).units.getD j (0, 0)).1) k (r.getD (8 * j + k) 0)

/-- The value of one element of an accumulator after rows are added to it, each scaled, in order (R224). -/
def accumulated (y : Nat) (ts : List (FVal × FVal)) : Nat := ts.foldl (fun z t => encAdd z (encMul t.1 t.2)) y

/-- `pacc` and `pesc` (R224): the accumulator, the window, the kind of packet and the terms of a packet. -/
def applyForm (i : Instr) : Option (Reg × Reg × Nat × (BitVec 256 → Packet → List (FVal × Nat × Nat) × Nat)) :=
  match i with
  | .pacc d a => some (d, a, 1, paccTerms)
  | .pesc d a => some (d, a, 2, pescTerms)
  | _ => none

/-- Element j of `o` holds `v` after the stores of an instruction that began from `s`, where j is independent (R159). -/
def Holds (s t : State) (o : Opnd) (j v : Nat) : Prop :=
  independent o [] j → ∀ u ∈ (o.el j).units, ∀ k < u.2, s.Stored t u.1 k (BitVec.ofNat 8 (v / 256 ^ k))

end Sys2Proof.Claims

/-- R20, R190, R460, R119, R120: a register event makes the write of a `csrw` where the level may make it, and changes nothing else.
R147: `synci` drops the line of S[A] from the code cache, after which no old word of it is fetched (R40), and retires once nothing is
owed. R148: `idle` retires at 0 or when its time is over,
which IDLE_EXPIRY says outside deterministic mode at once. R43, R59: a word that is no instruction raises ILLOP with the word,
or ILLOPD with the place of its bad field above it. -/
def Obligations.ControlEvents : Prop :=
  (∀ i c v, registerEvent i = some (c, v) → ∀ s,
    (writable c s.run.ctx.priv = true → exec i s = .next { s with
      run := { s.run with ctx := written c v s.run.ctx }, core := coreWritten c v s.core }) ∧
    (writable c s.run.ctx.priv = false → exec i s = .next s)) ∧
  (∀ a s, s.run.acks = 0 → s.deferredOf s.lcore = false → ∃ t, exec (.synci a) s = .next t ∧
    s.RetiredAt t (s.run.ctx.pc + 4) ∧ (∀ p ∈ t.core.icache, p.addr / 64 ≠ (s.rd a).toNat / 64) ∧
    (∀ e, s.walkEntry (BitVec.ofNat 64 (64 * ((s.rd a).toNat / 64))) = .ok e → ∀ p ∈ t.core.codeOld,
      p.1 / 64 ≠ e.physical (BitVec.ofNat 64 (64 * ((s.rd a).toNat / 64))) / 64) ∧
    t.run.ctx = { s.run.ctx with pc := t.run.ctx.pc, lic := t.run.ctx.lic } ∧ State.Kept { s with
      core := { s.core with icache := t.core.icache, inval := t.core.inval, codeOld := t.core.codeOld } } t) ∧
  (∀ a s, (s.rd a).toNat < 2 ^ 32 → s.rd a = 0 ∨ s.run.idleDone = true → GoesTo (.idle a) s (s.run.ctx.pc + 4)) ∧
  (∀ s, s.run.stall = some .idle → s.det = false → ∃ t, exec .idleExpiry s = .next t ∧ t.run.idleDone = true ∧
    t.run.stall = none ∧ t.run.ctx = s.run.ctx ∧ t.die = s.die) ∧
  (∀ w s, s.Trappable →
    EntersTrap (.nonInstruction w none) s 0x01 (w.setWidth 64) (s.run.ctx.pc &&& ~~~3#64) ∧
    ∀ b, EntersTrap (.nonInstruction w (some b)) s 0x02 ((b ++ w).setWidth 64) (s.run.ctx.pc &&& ~~~3#64))

/-- R208, R210, R212, R222: `pdict` reads a sound dictionary into the encoder, `pimg` binds an image table and `pthr` sets
the thresholds and K; `s'` is the state after the checkpoint before them, for `pdict` as the encoder's access path sees the
scratchpad (R229). R221: `pstat` reads LAST. R217 to R220: `penc` codes every segment of A into a record of the code buffer,
advances PROD past them and leaves LAST of the last segment. R226: `pgrad` writes one record. Both change no other register.
Here and in the next statement `u` is the state as the encoder's access path sees the scratchpad (R229), and so is `s'`. -/
def Obligations.EncoderResults : Prop :=
  ((∀ d s, WritesScalar (.pstat d) s d s.run.ctx.last 0 4) ∧
   (∀ a b s s', s.checkpointHere = .ok s' → threshold ((s.rd a).setWidth 32) = true →
     threshold ((s.rd a).extractLsb' 32 32) = true → 1 ≤ (s.rd b).toNat → (s.rd b).toNat ≤ 16 →
     ∃ t, exec (.pthr a b) s = .next t ∧ s.RetiredAt t (s.run.ctx.pc + 4) ∧
       t.core.enc = { s'.core.enc with
         theta := thresholdKept ((s.rd a).setWidth 32), phi := thresholdKept ((s.rd a).extractLsb' 32 32)
         kmax := (s.rd b).toNat } ∧
       s.run.ctx.SameRegisters t.run.ctx ∧ KeptByEncoder s' t) ∧
   (∀ a s s', s.checkpointHere = .ok s' → hKind (s.rdH a) = 3 → hRank (s.rdH a) = 3 → 1 ≤ hDim (s.rdH a) 0 →
     hDim (s.rdH a) 0 ≤ 64 → 65 ≤ hDim (s.rdH a) 1 → hDim (s.rdH a) 1 ≤ 320 → 1 ≤ hDim (s.rdH a) 2 →
     hStride (s.rdH a) 0 = 1 → hSpace (s.rdH a) ≠ 2 →
     (hFmt (s.rdH a) = 2 ∨ hFmt (s.rdH a) = 4 ∨ hFmt (s.rdH a) = 0 ∧ hSpace (s.rdH a) = 0 ∨
       hFmt (s.rdH a) = 6 ∧ hDim (s.rdH a) 0 % 8 = 0 ∧ hStride (s.rdH a) 1 % 8 = 0 ∧ hStride (s.rdH a) 2 % 8 = 0 ∧
         (hBase (s.rdH a)).toNat % (if hSpace (s.rdH a) = 0 then 4 else 16) = 0) →
     ∃ t, exec (.pimg a) s = .next t ∧ s.RetiredAt t (s.run.ctx.pc + 4) ∧
       t.core.enc = { s'.core.enc with img := some (s.rdH a) } ∧ s.run.ctx.SameRegisters t.run.ctx ∧ KeptByEncoder s' t) ∧
   (∀ a s s' ps, s.swapPath.checkpointHere = .ok s' → hKind (s.rdH a) = 2 → hRank (s.rdH a) = 2 → hDim (s.rdH a) 0 = 64 →
     1 ≤ hDim (s.rdH a) 1 → hDim (s.rdH a) 1 ≤ 256 → hFmt (s.rdH a) = 2 ∨ hFmt (s.rdH a) = 0 ∧ hSpace (s.rdH a) = 0 →
     hSpace (s.rdH a) ≠ 2 → (hBase (s.rdH a)).toNat % 128 = 0 →
     (hSpace (s.rdH a) = 0 ∨ inSpace (hSpace (s.rdH a))
       (hBase (s.rdH a) + BitVec.ofNat 64 (132 * hDim (s.rdH a) 1 - 1)) = true) →
     (∀ w, s'.dictRead w (Shape.of (s.rdH a) false) (132 * hDim (s.rdH a) 1) = .ok ps) →
     (∀ p ∈ ps, s'.loadPoison ((s'.pieceHomes (Shape.of (s.rdH a) false).swz p).flatMap lineCuts) = .ok ()) →
     let bytes := s'.unitBytes (ps.flatMap (s'.pieceHomes (Shape.of (s.rdH a) false).swz))
     Enc.sound { s'.core.enc with dict := Memory.put [] 0 bytes, n := hDim (s.rdH a) 1 } = true →
     ∃ t, exec (.pdict a) s = .next t ∧ s.RetiredAt t (s.run.ctx.pc + 4) ∧ t.core.enc.n = hDim (s.rdH a) 1 ∧
       (∀ k < bytes.length, t.core.enc.dict.get k = bytes.getD k 0) ∧ t.core.enc.theta = s'.core.enc.theta ∧
       t.core.enc.phi = s'.core.enc.phi ∧ t.core.enc.kmax = s'.core.enc.kmax ∧ t.core.enc.img = s'.core.enc.img ∧
       s.run.ctx.SameRegisters t.run.ctx ∧ t.die.mem = s'.die.mem)) ∧
  ((∀ d a b s u o s' after, undivided s → u = s.swapPath →
     let h := s.rdH d
     let n := (Shape.of (s.rdH a) false).n
     let m := (n + 63) / 64
     0 < n → (s.rd b).toNat + m ≤ 256 → codeBufferOk h = true → m ≤ hFree h → s.core.enc.n ≠ 0 →
     (∀ w, handleCheck w (s.rdH a) false srcWant = .ok ()) → (∀ w, u.encSource w (s.rdH a) 0 = .ok o) →
     u.sourcePoison o = .ok () →
     (∀ w, u.destRoom w (s.recordOpnd h ((List.range m).map (fun i => (hProd h + i) % 16384))) [o] = .ok (s', after)) →
     ∃ t, exec (.penc d a b) s = .next t ∧ s.RetiredAt t (s.run.ctx.pc + 4) ∧ FieldSet h (t.rdH d) 228 14 (hProd h + m) ∧
       (∀ r : Reg, r.setWidth 5 ≠ d.setWidth 5 → t.rdH r = s.rdH r) ∧ (∀ r, t.rd r = s.rd r) ∧
       t.run.ctx.fflags = s.run.ctx.fflags ∧
       (after = false → s'.MemOk → hProd h + m ≤ 16384 →
         t.run.ctx.last = segmentLast m (segment s' o n (m - 1)) (coded s' o n (s.rd b).toNat (m - 1)).1
           (coded s' o n (s.rd b).toNat (m - 1)).2 ∧
         (∀ i < m, RecordAt s' t h (hProd h + i)
           (segmentRecord ((s.rd b).toNat + i) (segment s' o n i) (coded s' o n (s.rd b).toNat i).1)) ∧
         s'.SameOutside t.swapPath ((List.range m).flatMap (fun i => (s.recordElem h (hProd h + i)).units)))) ∧
   (∀ d a b s u p img o rows s' after, u = s.swapPath →
     let h := s.rdH d
     (∀ w, s.windowPacket w b 23 [1, 2] = .ok p) → s.core.enc.img = some img → codeBufferOk h = true → 1 ≤ hFree h →
     (∀ w, handleCheck w (s.rdH a) false srcWant = .ok ()) → (Shape.of (s.rdH a) false).n = hDim img 0 →
     (∀ w, u.encSource w (s.rdH a) 0 = .ok o) →
     (∀ w, u.imgRows w img ((pgradRows img p).1.map (fun x => (x.2, x.1))) = .ok rows) →
     checks (u.sourcePoison o :: rows.map u.sourcePoison) = .ok () →
     (∀ w, u.destRoom w (s.recordOpnd h [hProd h]) (o :: rows) = .ok (s', after)) →
     ∃ t, exec (.pgrad d a b) s = .next t ∧ s.RetiredAt t (s.run.ctx.pc + 4) ∧
       FieldSet h (t.rdH d) 228 14 (hProd h + 1) ∧
       (∀ r : Reg, r.setWidth 5 ≠ d.setWidth 5 → t.rdH r = s.rdH r) ∧ (∀ r, t.rd r = s.rd r) ∧
       t.run.ctx.fflags = s.run.ctx.fflags ∧
       (after = false → s'.MemOk →
         RecordAt s' t h (hProd h) (pgradRecord p (pgradRows img p).1 (rows.map (fun r => encDot (s'.rowValues r)
           ((List.range o.sh.n).map (fun i => decodeF fp32 (frQuiet (s'.val o i))))))) ∧
         s'.SameOutside t.swapPath (s.recordElem h (hProd h)).units)))

/-- R224: `pacc` and `pesc` add the scaled rows that a packet names to the FP32 accumulator, element by element, then take a
checkpoint. R225: `pdec` rebuilds a segment, or lays down 32 elements of an escape packet. None writes a register. -/
def Obligations.AccumulatorResults : Prop :=
  (∀ i d a kind terms, applyForm i = some (d, a, kind, terms) → ∀ s u p img o rows s' after, u = s.swapPath →
    (∀ w, s.windowPacket w a 17 [kind] = .ok p) → s.core.enc.img = some img →
    (∀ w, handleCheck w (s.rdH d) true fp32Dst = .ok ()) → hSpace (s.rdH d) = 1 →
    (Shape.of (s.rdH d) true).n = hDim img 0 → (∀ w, u.encOperand w (s.rdH d) true fp32Dst (List.range (hDim img 0)) = .ok o) →
    (∀ w, u.imgRows w img ((terms img p).1.map (·.2)) = .ok rows) →
    checks (u.sourcePoison o :: rows.map u.sourcePoison) = .ok () →
    (∀ w, u.destRoom w o (o :: rows) = .ok (s', after)) →
    ∃ t, exec i s = .next t ∧ s.RetiredAt t (s.run.ctx.pc + 4) ∧ s.run.ctx.SameRegisters t.run.ctx ∧ t.run.log = [] ∧
      t.run.adj = [] ∧
      (s'.run.log = [] → s'.run.adj = [] → s'.MemOk → ∀ j < o.sh.n, Holds s' t o j
        (accumulated (s'.elemRaw (o.el j))
          (((terms img p).1.map (·.1)).zip (rows.map (fun r => s'.elemValue r (r.els.getD j Elem.none))))))) ∧
  (∀ d a s u p o s' after, u = s.swapPath → (∀ w, s.windowPacket w a 17 [1, 2] = .ok p) →
    (∀ w, handleCheck w (s.rdH d) true fp32Dst = .ok ()) → (Shape.of (s.rdH d) true).n = 64 → s.core.enc.n ≠ 0 →
    (p.kind = 1 → (∀ w, u.encOperand w (s.rdH d) true fp32Dst (List.range 64) = .ok o) →
      (∀ w, u.destRoom w o [] = .ok (s', after)) →
      ∃ t, exec (.pdec d a) s = .next t ∧ s.RetiredAt t (s.run.ctx.pc + 4) ∧ s.run.ctx.SameRegisters t.run.ctx ∧
        (s'.ordered = false → s'.MemOk →
          (∀ j < 64, Holds s' t o j ((rebuild s.core.enc (packetWords p)).getD j 0)) ∧
          s'.SameOutside t.swapPath (destUnits o))) ∧
    (p.kind = 2 → (∀ w, u.encOperand w (s.rdH d) true fp32Dst
        ((List.range 32).map (fun j => (pairWord p 0).toNat + j)) = .ok o) →
      (∀ w, u.destRoom w o [] = .ok (s', after)) →
      ∃ t, exec (.pdec d a) s = .next t ∧ s.RetiredAt t (s.run.ctx.pc + 4) ∧ s.run.ctx.SameRegisters t.run.ctx ∧
        (s'.ordered = false → s'.MemOk →
          (∀ j < 32, Holds s' t o j (frQuiet (decodeF bf16 (escapeElem p j)))) ∧ s'.SameOutside t.swapPath (destUnits o))))
namespace Sys2Proof.Claims

/-! ### The matrix unit (R234 to R251) -/

/-- The command at the head of the matrix queue has an OP, none of it is done, and the core is not held (R243, R251). -/
def AtHead (s : State) (op : Nat) (c : MxCmd) : Prop :=
  s.run.mx.queue.head? = some c ∧ dOp c.desc = op ∧ s.run.mx.prog = none ∧ s.core.halt = none

/-- The head command has retired (R243); of all else only the unit, its buffer and memory may have changed. -/
def MxRetired (s t : State) : Prop :=
  t.run.mx.queue = s.run.mx.queue.tail ∧ t.run.mx.seq = s.run.mx.seq + 1 ∧ t.run.mx.iss = s.run.mx.iss ∧
    t.run.mx.prog = none ∧ t = { s with
      run := { s.run with mx := t.run.mx }
      core := { s.core with wb := t.core.wb, wbad := t.core.wbad }
      die := { s.die with mem := t.die.mem, stale := t.die.stale, poison := t.die.poison } }

/-- Where LDW puts element or block `i` in the weight buffer, byte by byte, with the home of each byte (R237, R238). -/
def placed (f woff i : Nat) (src : Nat × Nat) : List (Nat × Nat) :=
  if f = 6 then
    (List.range 4).map (fun b => (woff + i / 32 * 160 + 4 * (i % 32) + b, src.1 + b)) ++
      [(woff + i / 32 * 160 + 128 + i % 32, src.2)]
  else (List.range (fmtSize f)).map (fun b => (woff + fmtSize f * i + b, src.1 + b))

/-- The 16 pairs of factors of element x in depth step t: A by rows for MMA, by columns for MMAT, and B of the buffer
(R239, R240), as the unit's access path sees them (R162). -/
def factors (s : State) (c : MxCmd) (o : Opnd) (x t : Nat) : List (FVal × FVal) :=
  (List.range 16).map (fun u =>
    ((s.viewPath 3).val o (if dOp c.desc = 1 then x / 16 * (o.sh.n / 16) + (16 * t + u) else (16 * t + u) * 16 + x / 16),
      stepElem s.core.wb (dBfmt c.desc) (dBand c.desc) (dWoff c.desc + t * stepSize (dBfmt c.desc)) (16 * u + x % 16)))

/-- Element x of an accumulator after every depth step, each rounded once (R240). -/
def multiplied (s : State) (c : MxCmd) (o : Opnd) (x : Nat) (w : BitVec 32) : BitVec 32 :=
  (List.range (o.sh.n / 16 / 16)).foldl (fun y t => (depthElem y (factors s c o x t)).1) w

/-- How often a depth step is listed as mismatching. -/
def misses (mis : List Nat) (t : Nat) : Nat := (mis.filter (· == t)).length

/-- The steps of the unit that multiply: the OP and the mismatching depth steps (R239, R246). -/
def multiplyForm (i : Instr) : Option (Nat × List Nat) :=
  match i with
  | .mxMma mis => some (1, mis)
  | .mxMmat mis => some (2, mis)
  | _ => none

/-! ### Adjoint cells and the tape (R258 to R276) -/

/-- The cell instructions (R273): the register, the address and the length. -/
def cellLoadForm (i : Instr) : Option (Reg × (State → Word) × Nat) :=
  match i with
  | .adld d a n => some (d, fun s => s.rd a + n.signExtend 64, 4)
  | .adldLit d a l => some (d, fun s => s.rd a + l, 12)
  | _ => none
def cellStoreForm (i : Instr) : Option (Reg × (State → Word) × Nat) :=
  match i with
  | .adst d a n => some (d, fun s => s.rd a + n.signExtend 64, 4)
  | .adstLit d a l => some (d, fun s => s.rd a + l, 12)
  | _ => none
def cellClearForm (i : Instr) : Option (Reg × (State → Word) × Nat) :=
  match i with
  | .adclr d a n => some (d, fun s => s.rd a + n.signExtend 64, 4)
  | .adclrLit d a l => some (d, fun s => s.rd a + l, 12)
  | _ => none

/-- The place of a cell instruction's element passes every check but poison (R255, R273). -/
def CellAt (s : State) (a : Word) (q : Ask) (l : Loc) : Prop :=
  (∀ bad, s.access 0 a bad 1 q (cellAlign a) (cellFmt a) = .ok l) ∧ l.onAd = true ∧ s.inWindow l.cell = false

end Sys2Proof.Claims

/-- R234, R244, R245, R248, R249: `mxq` queues a command and counts it, with a checkpoint before it (`s'`) and after;
`mxseq`, `accmv` and `accpk` read, and `mxwait` ends, once the unit is as far as they ask and no fault is pending; in a
replay `accpk` reads the element and the count together, when the unit has come to the count of the log (log entry 130).
R237, R238, R241, R242, R312: LDW copies its operand to the weight buffer, once its banks no longer refresh, and no byte
that it writes stays struck (R246), ZERO clears an accumulator with its poison, CHK stores MXST and clears RERUN and FLAGS,
and STACC rounds an accumulator into its destination in the scratchpad. -/
def Obligations.MatrixQueueResults : Prop :=
  ((∀ a b s s' c, s.checkpointAck = .ok s' → descOk (s'.rdH (b.setWidth 6)) = true →
     (∀ w, s'.mxCommand w (s'.rdH (a.setWidth 6)) (s'.rdH (b.setWidth 6)) = .ok c) → s'.run.mx.queue.length < 16 →
     ∃ t, exec (.mxq a b) s = .next t ∧ s.RetiredAt t (s.run.ctx.pc + 4) ∧ t.run.mx.queue = s'.run.mx.queue ++ [c.1] ∧
       t.run.mx.iss = s'.run.mx.iss + 1 ∧ t.run.mx.seq = s'.run.mx.seq ∧ t.run.mx.acc = s'.run.mx.acc ∧
       s.run.ctx.SameRegisters t.run.ctx ∧ t.run.snap.pc = s.run.ctx.pc + 4) ∧
   (∀ d s, s.replayStalls .mxseq = false →
     ReadsScalar (.mxseq d) s d (s.replayed .mxseq (BitVec.ofNat 64 s.run.mx.seq)) 4) ∧
   (∀ a s, (s.rd a).toNat ≤ s.run.mx.iss → (s.rd a).toNat ≤ s.run.mx.seq → s.run.mx.pending = [] →
     ObservesTo (.mxwait a) s (s.run.ctx.pc + 4)) ∧
   (∀ d a b s, (s.rd b).toNat ≤ 255 → (∀ c ∈ s.run.mx.queue, c.targets (a.setWidth 2) = false) → s.run.mx.pending = [] →
     WritesScalar (.accmv d a b) s d ((s.run.mx.acc[(a.setWidth 2).toFin].getD (s.rd b).toNat 0).setWidth 64) 0 4) ∧
   (∀ d a b s, (s.rd b).toNat ≤ 255 → s.run.mx.pending = [] → s.mxBehind = false → s.replayStalls .accpk = false →
     ∃ t, exec (.accpk d a b) s = .next t ∧ s.RetiredAt t (s.run.ctx.pc + 4) ∧
       (∀ r, t.rd r = if r = 0 then 0
         else if r = d + 1 then BitVec.ofNat 64 s.run.mx.seq
         else if r = d then (s.run.mx.acc[(a.setWidth 2).toFin].getD (s.rd b).toNat 0).setWidth 64 else s.rd r) ∧
       Ctx.OnlyScalars s.run.ctx t.run.ctx 0 ∧ s.KeptButDebug t ∧ ∀ x, t.seen x = s.seen x)) ∧
  ((∀ s c, AtHead s 0 c → s.core.wb.wf = true →
     c.fmt = 2 ∨ c.fmt = 4 ∨ c.fmt = 6 → (Shape.of c.opnd false).n % 256 = 0 →
     (if c.fmt = 6 then 8 * c.homes.length else c.homes.length) = (Shape.of c.opnd false).n →
     (∀ p ∈ c.parts, s.ldwCheck (decide (hSpace c.opnd = 0)) p = .done) →
     ∃ t, exec .mxLdw s = .next t ∧ MxRetired (s.awaitHomes (c.parts.map (·.src))) t ∧ t.die = s.die ∧
       t.run.mx.acc = s.run.mx.acc ∧ (∀ a ∈ t.core.wbad, a ∈ s.core.wbad) ∧
       (∀ i, ∀ h : i < c.homes.length, ∀ p ∈ placed c.fmt.toNat (dWoff c.desc) i c.homes[i], p.1 ∉ t.core.wbad) ∧
       (∀ i, ∀ h : i < c.homes.length, ∀ p ∈ placed c.fmt.toNat (dWoff c.desc) i c.homes[i],
         t.core.wb.get p.1 = (s.viewPath 3).memByte p.2) ∧
       (∀ a, (∀ i, ∀ h : i < c.homes.length, ∀ p ∈ placed c.fmt.toNat (dWoff c.desc) i c.homes[i], p.1 ≠ a) →
         t.core.wb.get a = s.core.wb.get a)) ∧
   (∀ s c, AtHead s 4 c → ∃ t, exec .mxZero s = .next t ∧ MxRetired s t ∧ t.die = s.die ∧ t.core = s.core ∧
     (∀ a : BitVec 2, ∀ x < 256, t.run.mx.acc[a.toFin].getD x 0 =
       if a = dAcc c.desc then 0 else s.run.mx.acc[a.toFin].getD x 0) ∧
     (∀ a < 4, t.run.mx.pois.getLsbD a = (s.run.mx.pois.getLsbD a && !(a == (dAcc c.desc).toNat)))) ∧
   (∀ s c, AtHead s 5 c → (hBase c.opnd).toNat + 8 ≤ Config.spSize → s.run.mx.rerun < 16 → s.MemOk →
     ∃ t, exec .mxChk s = .next t ∧ MxRetired s t ∧ t.core = s.core ∧ t.run.mx.acc = s.run.mx.acc ∧
       t.run.mx.rerun = 0 ∧ t.run.mx.flags = 0 ∧ t.run.mx.pois = s.run.mx.pois ∧
       t.die.mem.nat (s.spA (hBase c.opnd).toNat) 8 = c.num % 2 ^ 32 * 2 ^ 32 + s.run.mx.pois.toNat * 2 ^ 12 +
         s.run.mx.rerun * 2 ^ 8 + s.run.mx.flags.toNat ∧
       t.die.poison = s.die.poison ∧ s.SameOutside t [(s.spA (hBase c.opnd).toNat, 8)]) ∧
   (∀ s c, AtHead s 3 c → s.MemOk → (Shape.of c.opnd false).n = 256 → (∀ e ∈ (s.mxOpnd c true mxDst).els, ∀ u ∈ e.units, s.ownSp u.1 = true) →
     ∃ t, exec .mxStacc s = .next t ∧ MxRetired s t ∧ t.core = s.core ∧ t.run.mx.acc = s.run.mx.acc ∧
       (∀ j < 256, j < (s.mxOpnd c true mxDst).sh.n → Holds s t (s.mxOpnd c true mxDst) j
         (encodeVal c.fmt.toNat .rne (dSat c.desc)
           (decodeF fp32 (s.run.mx.acc[(dAcc c.desc).toFin].getD j 0).toNat)).1) ∧
       (∀ l ∈ t.die.poison, l ∈ s.die.poison) ∧ s.SameOutside t (destUnits (s.mxOpnd c true mxDst))))

/-- R239, R240, R246: MMA and MMAT add the product of A and B to an accumulator, depth step by depth step, each rounded once
to FP32; a step that mismatches once runs again and counts in RERUN; one that mismatches twice, or whose bytes of the weight buffer are struck, poisons the accumulator. No line
of the operand is poisoned. -/
def Obligations.MatrixProductResults : Prop :=
  ∀ i op mis, multiplyForm i = some (op, mis) → ∀ s c, AtHead s op c →
    s.run.mx.acc[(dAcc c.desc).toFin].length = 256 →
    let o := s.mxOpnd c false mxSrc
    s.sourcePoison o = .ok () →
    ((∀ t < o.sh.n / 16 / 16, misses mis t ≤ 1 ∧ s.stepStruck c.desc t = false) → ∃ t, exec i s = .next t ∧ MxRetired s t ∧ t.die = s.die ∧ t.core = s.core ∧
      (∀ x < 256, t.run.mx.acc[(dAcc c.desc).toFin].getD x 0 =
        multiplied s c o x (s.run.mx.acc[(dAcc c.desc).toFin].getD x 0)) ∧
      (∀ a : BitVec 2, a ≠ dAcc c.desc → t.run.mx.acc[a.toFin] = s.run.mx.acc[a.toFin]) ∧
      t.run.mx.rerun = min 15 (s.run.mx.rerun + ((List.range (o.sh.n / 16 / 16)).filter (fun t => misses mis t == 1)).length) ∧
      t.run.mx.pois = s.run.mx.pois ∧ t.run.mx.pending = s.run.mx.pending) ∧
    ((∃ t < o.sh.n / 16 / 16, 2 ≤ misses mis t ∨ s.stepStruck c.desc t = true) → ∃ t, exec i s = .next t ∧ MxRetired s t ∧ t.die = s.die ∧
      t.core = s.core ∧ (∀ x < 256, t.run.mx.acc[(dAcc c.desc).toFin].getD x 0 = 0x7FC00000) ∧
      (∀ a : BitVec 2, a ≠ dAcc c.desc → t.run.mx.acc[a.toFin] = s.run.mx.acc[a.toFin]) ∧
      t.run.mx.pois.getLsbD (dAcc c.desc).toNat = true ∧ t.run.mx.pending.length = s.run.mx.pending.length + 1)

/-- R273: `adld` reads the adjoint cell of an element, `adst` sets it to the low 32 bits of a register, and `adclr` reads it and
then sets it to +0; no other cell, no byte of memory and no other register changes. `s'` is the state after the checkpoint
that the log may need first. -/
def Obligations.AdjointCellResults : Prop :=
  (∀ i d v n, cellLoadForm i = some (d, v, n) → ∀ s l, CellAt s (v s) askLoad l → s.cellPoison l.cell = .ok () →
    ∃ t, exec i s = .next t ∧ s.RetiredAt t (s.run.ctx.pc + BitVec.ofNat 64 n) ∧
      (∀ r, t.rd r = if r = 0 then 0 else if r = d then (s.adjRead l.cell).setWidth 64 else s.rd r) ∧
      Ctx.OnlyScalars s.run.ctx t.run.ctx 0 ∧ s.KeptByLoad t ∧ (∀ c, t.adjRead c = s.adjRead c) ∧
      ∀ a, t.seen a = s.seen a) ∧
  (∀ i d v n, cellStoreForm i = some (d, v, n) → ∀ s l s', CellAt s (v s) askStore l →
    s.storeRoom [] [l.cell] = .ok s' →
    ∃ t, exec i s = .next t ∧ s.RetiredAt t (s.run.ctx.pc + BitVec.ofNat 64 n) ∧ (∀ r, t.rd r = s.rd r) ∧
      Ctx.OnlyScalars s'.run.ctx t.run.ctx 0 ∧ t.adjRead l.cell = (s.rd d).setWidth 32 ∧
      (s'.ordered = false → ∀ c, c ≠ l.cell → t.adjRead c = s'.adjRead c) ∧ t.die.mem = s'.die.mem ∧ t.run.log = s'.run.log) ∧
  (∀ i d v n, cellClearForm i = some (d, v, n) → ∀ s l s', CellAt s (v s) askStore l → s.cellPoison l.cell = .ok () →
    s.storeRoom [] [l.cell] = .ok s' →
    ∃ t, exec i s = .next t ∧ s.RetiredAt t (s.run.ctx.pc + BitVec.ofNat 64 n) ∧
      (∀ r, t.rd r = if r = 0 then 0 else if r = d then (s'.adjRead l.cell).setWidth 64 else s.rd r) ∧
      Ctx.OnlyScalars s'.run.ctx t.run.ctx 0 ∧ t.adjRead l.cell = 0 ∧
      (s'.ordered = false → ∀ c, c ≠ l.cell → t.adjRead c = s'.adjRead c) ∧ t.die.mem = s'.die.mem ∧ t.run.log = s'.run.log)

/-- R258, R274 to R276: `admode` sets the mode and takes a checkpoint under it; `tmark` pushes a mark and writes its index;
`trew` leaves TOP at its mark; `tstat` reads TOP and CP. -/
def Obligations.TapeControlResults : Prop :=
  (∀ m s s1 s', m ≠ 3 → s.spillAll = .ok s1 →
    (s1.withCtx { s1.run.ctx with admode := m }).checkpointNext (s.run.ctx.pc + 4) = .ok s' →
    ∃ t, exec (.admode m) s = .next t ∧ s.RetiredAt t (s.run.ctx.pc + 4) ∧ t.run.ctx.admode = m ∧ t.run.snap.admode = m ∧
      t.run.snap.pc = s.run.ctx.pc + 4 ∧ t.run.log = [] ∧ t.run.adj = [] ∧ (∀ r, t.rd r = s.rd r) ∧ t.top = s.top) ∧
  (∀ s, s.Trappable → EntersTrap (.admode 3) s 0x01 ((Instr.admode 3).word.setWidth 64) (s.run.ctx.pc &&& ~~~3#64)) ∧
  (∀ d s s' s1 s2, s.checkpointHere = .ok s' → s'.tapeRoom 1 (fun _ => 0) = .ok s1 → s1.push TapeEntry.markEntry = .ok s2 →
    ∃ t, exec (.tmark d) s = .next t ∧ s.RetiredAt t (s.run.ctx.pc + 4) ∧ t.top = s.top + 1 ∧
      (∀ r, t.rd r = if r = 0 then 0 else if r = d then BitVec.ofNat 64 s.top else s.rd r)) ∧
  (∀ a s s' s1 e s2 s3, s.checkpointHere = .ok s' → (s.rd a).toNat < s'.top → s'.entry (s.rd a).toNat = .ok (s1, e) →
    e.mark = true → undoTo s1 s1 (s1.top - ((s.rd a).toNat + 1)) = .ok s2 →
    (s2.withTop (s.rd a).toNat).checkpointNext (s2.run.ctx.pc + 4) = .ok s3 →
    ∃ t, exec (.trew a) s = .next t ∧ s.RetiredAt t (s.run.ctx.pc + 4) ∧ t.top = (s.rd a).toNat ∧ (∀ r, t.rd r = s.rd r)) ∧
  (∀ d s, WritesScalar (.tstat d) s d (BitVec.ofNat 64 (s.top + s.core.tape.cp * 2 ^ 32)) 0 4)

/-- R264, R267, R268, R28: on a differentiable page a load in REV adds its register into the adjoint cell; a store in FWD pushes
the old element on the tape first; a store in REV returns the old element and takes the cell; an access of another size than
the element's raises ADPF. A `st.128` on an E2M1 page stores a block record. -/
def Obligations.DifferentiableAccessResults : Prop :=
  (∀ i x, loadForm i = some x → ∀ s l s', s.Reaches x.space (x.addr s) x.n askLoad l → l.onAd = true →
    s.run.ctx.admode = 2 → x.n = l.z → s.storeRoom [] [l.cell] = .ok s' →
    ∃ t, exec i s = .next t ∧ s.RetiredAt t (s.run.ctx.pc + BitVec.ofNat 64 x.len) ∧ (∀ r, t.rd r = s.rd r) ∧
      t.run.adj = (s'.adjAdd l.cell (toFp32 l.fmt ((s.rd x.d).toNat % 2 ^ (8 * x.n)))).run.adj ∧
      t.die.mem = s'.die.mem ∧ t.run.log = s'.run.log) ∧
  (∀ d a n s l s', (∀ bad, s.access 0 (s.rd a + n.signExtend 64) bad 1 askLoad (ldfAlign (s.rd a + n.signExtend 64))
      (ldfFmt (s.rd a + n.signExtend 64)) = .ok l) → l.onAd = true → s.run.ctx.admode = 2 →
    s.storeRoom [] [l.cell] = .ok s' →
    ∃ t, exec (.ldf d a n) s = .next t ∧ s.RetiredAt t (s.run.ctx.pc + 4) ∧ (∀ r, t.rd r = s.rd r) ∧
      t.run.adj = (s'.adjAdd l.cell ((s.rd d).setWidth 32)).run.adj ∧ t.die.mem = s'.die.mem) ∧
  (∀ i x, storeForm i = some x → ∀ s l s1 s' s2, s.Reaches x.space (x.addr s) x.n askStore l → l.onAd = true →
    l.fmt ≠ 6 → l.fmt ≠ 14 → s.run.ctx.admode = 1 → x.n = l.z → x.n ≠ 16 → s.tapeRoom 1 (fun _ => l.va) = .ok s1 →
    s1.loadPoison [(l.home, x.n)] = .ok () → s1.storeRoom [l.home] [] = .ok s' → s'.push (s'.dataEntry l [(l.home, x.n)]) = .ok s2 → s2.ordered = false → s2.MemOk →
    ∃ t, exec i s = .next t ∧ s.RetiredAt t (s.run.ctx.pc + BitVec.ofNat 64 x.len) ∧ (∀ r, t.rd r = s.rd r) ∧
      t.top = s.top + 1 ∧ (∀ k < x.n, s2.Stored t l.home k (storedByte s x k)) ∧ s2.SameOutside t [(l.home, x.n)]) ∧
  (∀ i x, storeForm i = some x → ∀ s l s1 e s', s.Reaches x.space (x.addr s) x.n askStore l → l.onAd = true →
    l.fmt ≠ 6 → l.fmt ≠ 14 → s.run.ctx.admode = 2 → x.n = l.z → x.n ≠ 16 → s.top ≠ 0 → s.entry (s.top - 1) = .ok (s1, e) →
    e.isFor l.va l.z = true → s.inWindow l.cell = false → s.cellPoison l.cell = .ok () →
    s1.storeRoom [l.home] [l.cell] = .ok s' → s'.ordered = false → s'.MemOk →
    let g := encodeVal l.fmt (modeOfFrm s.run.ctx.frm) false (decodeF fp32 (s'.adjRead l.cell).toNat)
    ∃ t, exec i s = .next t ∧ s.RetiredAt t (s.run.ctx.pc + BitVec.ofNat 64 x.len) ∧ t.top = s.top - 1 ∧
      WroteReg s t x.d (BitVec.ofNat 64 g.1) ∧ t.run.ctx.fflags = s.run.ctx.fflags ||| g.2 ∧ t.adjAt l.cell = some (.set 0) ∧
      (∀ k < l.z, s'.Stored t l.home k (BitVec.ofNat 8 (e.old.toNat / 256 ^ k)))) ∧
  (∀ i x, (loadForm i = some x → ∀ s l, s.Reaches x.space (x.addr s) x.n askLoad l → l.onAd = true →
      s.run.ctx.admode = 2 → x.n ≠ l.z → s.Trappable →
      EntersTrap i s cADPF (x.addr s) (s.run.ctx.pc &&& ~~~3#64)) ∧
    (storeForm i = some x → ∀ s l, s.Reaches x.space (x.addr s) x.n askStore l → l.onAd = true → l.fmt ≠ 6 → l.fmt ≠ 14 →
      s.run.ctx.admode = 1 ∨ s.run.ctx.admode = 2 → x.n ≠ l.z → s.Trappable →
      EntersTrap i s cADPF (x.addr s) (s.run.ctx.pc &&& ~~~3#64))) ∧
  (∀ i x, storeForm i = some x → x.n = 16 → x.space = 0 → ∀ s l e s',
    (∀ bad, s.access 0 (x.addr s) bad 1 askStore (late128 (x.addr s) 16) noCheck = .ok l) → l.entry = some e → e.fmt = 6 →
    s.rd (x.d + 1) = 0 → (s.rd x.d).toNat < 2 ^ 40 →
    let f := e.frameByte (l.va.toNat % 65536 / 4)
    ¬(l.home ≤ f ∧ f < l.home + 4) → s.storeRoom [l.home, f] [] = .ok s' → s.ordered = false → s'.MemOk →
    ∃ t, exec i s = .next t ∧ s.RetiredAt t (s.run.ctx.pc + BitVec.ofNat 64 x.len) ∧ (∀ r, t.rd r = s.rd r) ∧
      (∀ k < 4, s'.Stored t l.home k (storedByte s x k)) ∧ s'.Stored t f 0 (storedByte s x 4) ∧
      s'.SameOutside t [(l.home, 4), (f, 1)])

namespace Sys2Proof.Claims

/-! ### The cluster (R280 to R301) -/

/-- The out-link toward a neighbour as a stream register binds it (R285). -/
def outBinding (next : Bool) : QBind := if next then .outNext else .outPrev

/-- `barr` and `barr.m` (R296): the registers D, A and B, `.chk`, and the reference that S[A] makes. -/
def arriveForm (i : Instr) : Option (Reg × Reg × Reg × Bool × (BitVec 32 → State → Word → Except Exc ObjRef)) :=
  match i with
  | .barr d a b c => some (d, a, b, c == 1, fun w s v => s.slotRef w v)
  | .barrM d a b c => some (d, a, b, c == 1, fun w s v => s.pageRef w v askAmo)
  | .barrMCs d a b c => some (d, a, b, c == 1, fun w s v => s.csRef w v)
  | _ => none

/-- `bwait` and `btest` (R298): the registers D, A and B, whether it waits, and the reference that S[A] makes. -/
def watchForm (i : Instr) : Option (Reg × Reg × Reg × Bool × (BitVec 32 → State → Word → Except Exc ObjRef)) :=
  match i with
  | .bwait d a b => some (d, a, b, true, fun w s v => s.slotRef w v)
  | .bwaitCs d a b => some (d, a, b, true, fun w s v => s.csRef w v)
  | .bwaitGv d a b => some (d, a, b, true, fun w s v => s.pageRef w v askStrongLoad)
  | .btest d a b => some (d, a, b, false, fun w s v => s.slotRef w v)
  | .btestCs d a b => some (d, a, b, false, fun w s v => s.csRef w v)
  | .btestGv d a b => some (d, a, b, false, fun w s v => s.pageRef w v askStrongLoad)
  | _ => none

/-- Nothing holds a shared request on an object: no migration of its granule (R334), no quantum (R385), no full log (R468). -/
def ObjReady (s : State) (o : ObjRef) : Prop :=
  (∀ h, o = .mem h → h < Config.csHome → (s.granule h).mig = false) ∧ (s.det = true → s.run.served = true) ∧
    s.replayStalls .barrier = false

/-- The status word (R293): COUNT in bits 47:32, STATUS in 15:8, DONE in bit 4, PHASE in 3:0. -/
def status (count st : Nat) (done : Bool) (phase : Nat) : Word :=
  BitVec.ofNat 64 (count % 2 ^ 16 * 2 ^ 32 + st * 2 ^ 8 + (if done then 16 else 0) + phase % 16)

/-- The fields of a barrier object (R292): EXPECT, COUNT, PHASE, OVR, LASTCORE, COMPLETIONS and TOTAL; bits 39:37 are reserved. -/
def expect (o : BitVec 128) : Nat := (o.extractLsb' 0 16).toNat
def count (o : BitVec 128) : Nat := (o.extractLsb' 16 16).toNat
def phase (o : BitVec 128) : Nat := (o.extractLsb' 32 4).toNat
def overrun (o : BitVec 128) : Bool := o.getLsbD 36
def lastCore (o : BitVec 128) : Nat := (o.extractLsb' 40 24).toNat
def completions (o : BitVec 128) : Nat := (o.extractLsb' 64 32).toNat
def total (o : BitVec 128) : Nat := (o.extractLsb' 96 32).toNat

/-- Arrive (R292): what an arrival of count n by a core makes of an object; its reserved bits stay. -/
def Arrived (o p : BitVec 128) (n core : Nat) : Prop :=
  expect p = expect o ∧ p.extractLsb' 37 3 = o.extractLsb' 37 3 ∧
    (if count o + n ≤ expect o then
      lastCore p = core % 2 ^ 24 ∧ overrun p = overrun o ∧ total p = (total o + n) % 2 ^ 32 ∧
        (if count o + n = expect o then count p = 0 ∧ phase p = (phase o + 1) % 16 ∧
            completions p = (completions o + 1) % 2 ^ 32
          else count p = count o + n ∧ phase p = phase o ∧ completions p = completions o)
    else overrun p = true ∧ lastCore p = lastCore o ∧ count p = count o ∧ phase p = phase o ∧
      completions p = completions o ∧ total p = total o)

/-- The status word of an arrival (R293, R296). -/
def arrivalStatus (o : BitVec 128) (n : Nat) : Word :=
  if count o + n = expect o then status 0 0 true (phase o)
  else if count o + n < expect o then status (count o + n) 0 false (phase o)
  else status (count o) 1 false (phase o)

/-- The cycles that are left of the bound of a `bwait`: all of them before it has waited (R298). -/
def cyclesLeft (s : State) (b : Word) : Nat :=
  if s.run.waited = 0 then (b.extractLsb' 32 32).toNat else s.run.waited - 1

end Sys2Proof.Claims

/-- R281 to R285, R287: `lkset` sets the link directions, `lkget` reads them, `qbind` binds a stream register, `qpush`
appends a line of the scratchpad to an out-link; LINK_PASS_THROUGH brings an entry in, passes one on, or gives one to the
neighbour. R289, R303: `nxld` reads eight bytes of the neighbour's scratchpad, and `nxst` enters eight bytes for it in the
write log; `s'` is the state after the checkpoint that the log may need first. -/
def Obligations.LinkAndNeighbourResults : Prop :=
  ((∀ a s s', s.checkpointHere = .ok s' → s'.linkdirOk (s.rd a) = true →
     ∃ t, exec (.lkset a) s = .next t ∧ s.RetiredAt t (s.run.ctx.pc + 4) ∧ t.core.linkdir = (s.rd a).setWidth 4 ∧
       s.run.ctx.SameRegisters t.run.ctx ∧
       State.Kept { s' with core := { s'.core with linkdir := t.core.linkdir } } t) ∧
   (∀ d s, WritesScalar (.lkget d) s d (s.core.linkdir.setWidth 64) 0 4) ∧
   (∀ d a s s' b, s.checkpointHere = .ok s' → bindRequest (s.rd a) = some b → s'.bindOk (d.setWidth 3) b = true →
     ∃ t, exec (.qbind d a) s = .next t ∧ s.RetiredAt t (s.run.ctx.pc + 4) ∧ t.rdQ (d.setWidth 3) = ⟨b, 0, 0⟩ ∧
       (∀ r, r ≠ d.setWidth 3 → t.rdQ r = s'.rdQ r) ∧ s.run.ctx.SameRegisters t.run.ctx ∧ t.die.mem = s'.die.mem) ∧
   (∀ d a s next, (s.rdQ (d.setWidth 3)).bind = outBinding next → (s.rd a).toNat < Config.spSize → (s.rd a).toNat % 64 = 0 →
     s.linkFull next = false → s.poisonCheck (s.spA (s.rd a).toNat) 64 = .ok () →
     ∃ t, exec (.qpush d a) s = .next t ∧ s.RetiredAt t (s.run.ctx.pc + 4) ∧
       t.outLink next = s.outLink next ++ [⟨s.seenBytes (s.spA (s.rd a).toNat) 64, s.serial, false, false⟩] ∧
       t.outLink (!next) = s.outLink (!next) ∧ t.net.inPrev = s.net.inPrev ∧ t.net.inNext = s.net.inNext ∧
       t.run.ctx = { s.run.ctx with pc := t.run.ctx.pc, lic := t.run.ctx.lic } ∧ t.die = s.die) ∧
   (∀ next s bs, (s.inLink next).length < 8 → bs.length = 64 →
     ∃ t, exec (.linkPassThrough next (some bs)) s = .next t ∧ t.inLink next = s.inLink next ++ [⟨bs, 0, true, false⟩] ∧
       t.inLink (!next) = s.inLink (!next) ∧ t.net.outNext = s.net.outNext ∧ t.net.outPrev = s.net.outPrev ∧
       t.run.ctx = s.run.ctx ∧ t.die = s.die) ∧
   (∀ next s e es, s.inLink next = e :: es → 1 < s.ring.length → s.linkFull next = false →
     (if next then linkNext s.core.linkdir else linkPrev s.core.linkdir) = 2 →
     ∃ t, exec (.linkPassThrough next none) s = .next t ∧ t.inLink next = es ∧
       t.outLink next = s.outLink next ++ [{ e with committed := true }] ∧ t.run.ctx = s.run.ctx ∧ t.die = s.die) ∧
   (∀ next s e es, s.outLink next = e :: es → e.committed = true → 1 < s.ring.length →
     (if next then linkNext s.core.linkdir else linkPrev s.core.linkdir) ≠ 2 →
     ∃ t, exec (.linkPassThrough next none) s = .next t ∧ t.outLink next = es ∧ t.inLink next = s.inLink next ∧
       t.run.ctx = s.run.ctx ∧ t.die = s.die)) ∧
  (∀ d a n s, let h := spHomeOf (s.neighbour (n == 1)) (s.rd a).toNat
     (s.rd a).toNat < Config.spSize → (s.rd a).toNat % 8 = 0 →
     (s.poisonCheck h 8 = .ok () → WritesScalar (.nxld d a n) s d (BitVec.ofNat 64 (s.die.mem.nat h 8)) 0 4) ∧
     (∀ s', (if s.logRoom [h] [] then Except.ok s else s.checkpointHere) = .ok s' → s'.ordered = false →
       ∃ t, exec (.nxst d a n) s = .next t ∧ s.RetiredAt t (s.run.ctx.pc + 4) ∧
         (∀ k < 8, t.run.log.find (h + k) = some (BitVec.ofNat 8 ((s.rd d).toNat / 256 ^ k))) ∧
         (∀ x, ¬(h ≤ x ∧ x < h + 8) → t.run.log.find x = s'.run.log.find x) ∧ t.die.mem = s'.die.mem ∧
         Ctx.OnlyScalars s'.run.ctx t.run.ctx 0 ∧ (∀ r, t.rd r = s.rd r) ∧ s'.KeptByStore t))

/-- R292, R293, R296, R297: an arrival whose checks pass counts at its object and writes the status word; one that overruns is
refused, which sets OVR, and under `.chk` traps BAROVR with S[A] in TVAL and S[D] unchanged. `s'` is the state after the checkpoint before it. SYNC_PACKET is another core's
arrival at a slot (R294). -/
def Obligations.BarrierArrivals : Prop :=
  (∀ i d a b chk ref, arriveForm i = some (d, a, b, chk, ref) → ∀ s s' o, s.checkpointAck = .ok s' →
    (∀ w, ref w s' (s.rd a) = .ok o) → 1 ≤ (s.rd b).toNat → (s.rd b).toNat ≤ 65535 → ObjReady s' o → s'.MemOk →
    (chk = true → count (s'.object o) + (s.rd b).toNat ≤ expect (s'.object o)) →
    ∃ t, exec i s = .next t ∧ s.RetiredAt t (s.run.ctx.pc + 4) ∧
      Arrived (s'.object o) (t.object o) (s.rd b).toNat s.lcore.toNat ∧
      (s.dbg.replayMode = false → ∀ r, t.rd r = if r = 0 then 0
        else if r = d then arrivalStatus (s'.object o) (s.rd b).toNat else s.rd r) ∧
      t.run.ctx.fflags = s.run.ctx.fflags ∧ t.run.ctx.h = s.run.ctx.h ∧ t.run.ctx.f = s.run.ctx.f) ∧
  (∀ i d a b ref, arriveForm i = some (d, a, b, true, ref) → ∀ s s' o, s.checkpointAck = .ok s' →
    (∀ w, ref w s' (s.rd a) = .ok o) → 1 ≤ (s.rd b).toNat → (s.rd b).toNat ≤ 65535 → ObjReady s' o → s'.MemOk →
    expect (s'.object o) < count (s'.object o) + (s.rd b).toNat → s.Trappable →
    ∃ t, exec i s = .next t ∧ t.run.ctx = { s.run.ctx with
        pc := s.core.tvec, epc := s.run.ctx.pc &&& ~~~3#64, tcause := 0x0F, tval := s.rd a, priv := true, ppriv := false } ∧
      t.run.stall = none ∧ t.core.retired = s.core.retired ∧
      Arrived (s'.object o) (t.object o) (s.rd b).toNat s.lcore.toNat ∧ overrun (t.object o) = true) ∧
  (∀ core die slot n s, (s.barSlot die slot).used = true → (s.barSlot die slot).poisoned = false → 1 ≤ n.toNat →
    ∃ t, exec (.syncPacket core die slot n) s = .next t ∧
      Arrived (s.barSlot die slot).obj (t.barSlot die slot).obj n.toNat core.toNat ∧
      (t.barSlot die slot).used = true ∧ (t.barSlot die slot).part = (s.barSlot die slot).part ∧ t.run = s.run ∧
      t.die.mem = s.die.mem ∧ (if die then t.die.clusterSlots = s.die.clusterSlots else t.die.dieSlots = s.die.dieSlots))

/-- R293, R298: `btest` and `bwait` write the status word of an object whose phase has changed with STATUS 0, and of one at
its phase with STATUS 2, `bwait` once its bound has passed; before that it waits, until BARRIER_CHANGE_NOTICE or BARTO ends
the wait. What the core's own arrival carried is then seen (R299). R295, R301: a `bwait` whose slot was freed writes STATUS
3. None changes any other register or memory. R294, R295, R297, R303: `balloc` takes the lowest free slot of the scope and
writes its handle, or 2^63 when none is free; `bfree` frees its slot. `s'` is the state after the checkpoint before them. -/
def Obligations.BarrierWatchesAndSlots : Prop :=
  ((∀ i d a b wait ref, watchForm i = some (d, a, b, wait, ref) → ∀ s o, (∀ w, ref w s (s.rd a) = .ok o) →
     (s.det = true → s.replayStalls .barto = false) → (s.rd b).extractLsb' 4 28 = 0 → (wait = false → (s.rd b).extractLsb' 32 32 = 0) → ObjReady s o →
     s.dbg.replayMode = false → (wait = true → s.run.freed = false) →
     (phase (s.object o) ≠ ((s.rd b).extractLsb' 0 4).toNat →
       ∃ t, exec i s = .next t ∧ s.RetiredAt t (s.run.ctx.pc + 4) ∧
         WroteReg s t d (status (count (s.object o)) 0 false (phase (s.object o))) ∧ Ctx.OnlyScalars s.run.ctx t.run.ctx 0 ∧
         State.KeptButDebug { s with run := { s.run with path := { s.run.path with seen := t.run.path.seen } } } t ∧
         t.run.path.seen = s.run.path.arrived ++ s.run.path.seen) ∧
     (phase (s.object o) = ((s.rd b).extractLsb' 0 4).toNat → (wait = true → cyclesLeft s (s.rd b) = 0) →
       ReadsScalar i s d (status (count (s.object o)) 2 false (phase (s.object o))) 4) ∧
     (phase (s.object o) = ((s.rd b).extractLsb' 0 4).toNat → wait = true → cyclesLeft s (s.rd b) ≠ 0 →
       ∃ t, exec i s = .next t ∧ t.run.stall = some .bwait ∧ t.run.waited = cyclesLeft s (s.rd b) + 1 ∧
         t.run.ctx = s.run.ctx ∧ t.die = s.die)) ∧
   (∀ i d a b ref, watchForm i = some (d, a, b, true, ref) → ∀ s, s.run.freed = true → s.dbg.replayMode = false →
     ∃ t n p, exec i s = .next t ∧ s.RetiredAt t (s.run.ctx.pc + 4) ∧
       (∀ r, t.rd r = if r = 0 then 0 else if r = d then status n 3 false p else s.rd r) ∧
       Ctx.OnlyScalars s.run.ctx t.run.ctx 0 ∧ t.die = s.die ∧ t.net = s.net ∧ t.run.log = s.run.log) ∧
   (∀ s, s.run.stall = some .bwait → s.det = false →
     (∃ t, exec .barrierChangeNotice s = .next t ∧ t.run.stall = none ∧ t.run.waited = s.run.waited ∧ t.run.ctx = s.run.ctx ∧
       t.die = s.die) ∧
     (∃ t, exec .barto s = .next t ∧ t.run.stall = none ∧ t.run.waited = 1 ∧ t.run.ctx = s.run.ctx ∧ t.die = s.die))) ∧
  ((∀ d s s', s.checkpointAck = .ok s' → (s.rd d).toNat < 2 ^ 17 → (s.rd d).setWidth 16 ≠ 0#16 →
     (s'.det = true → s'.run.served = true) →
     (s'.freeSlot ((s.rd d).getLsbD 16) = none → ∃ t, exec (.balloc d) s = .next t ∧ s.RetiredAt t (s.run.ctx.pc + 4) ∧
       (∀ r, t.rd r = if r = 0 then 0 else if r = d then 0x8000000000000000 else s.rd r) ∧
       t.die.dieSlots = s'.die.dieSlots ∧ t.die.clusterSlots = s'.die.clusterSlots) ∧
     (∀ i, s'.freeSlot ((s.rd d).getLsbD 16) = some i →
       ∃ t, exec (.balloc d) s = .next t ∧ s.RetiredAt t (s.run.ctx.pc + 4) ∧
         (∀ r, t.rd r = if r = 0 then 0 else if r = d then s.slotHandle ((s.rd d).getLsbD 16) i.toNat else s.rd r) ∧
         (t.barSlot ((s.rd d).getLsbD 16) i).used = true ∧
         (t.barSlot ((s.rd d).getLsbD 16) i).part = s.pkg.part ∧
         (t.barSlot ((s.rd d).getLsbD 16) i).obj = ((s.rd d).setWidth 16).setWidth 128)) ∧
   (∀ a s s' die i, s.checkpointAck = .ok s' → s'.handleSlot (s.rd a) = some (die, i) → s'.slotOurs die i = true →
     (s'.det = true → s'.run.served = true) →
     ∃ t, exec (.bfree a) s = .next t ∧ s.RetiredAt t (s.run.ctx.pc + 4) ∧ (t.barSlot die i).used = false ∧
       s.run.ctx.SameRegisters t.run.ctx))
namespace Sys2Proof.Claims

/-! ### Capabilities and requests at homes (R310, R323 to R330) -/

/-- Nothing of the granules from `lo` on is busy: no engine or matrix command of the activation touches them (R328), no
migration and no held request holds them (R94, R334), and no quantum is waited for (R402). -/
def TransferReady (s : State) (a : Word) (n : Nat) : Prop :=
  (∀ i : BitVec 3, s.chanIn (s.chan i) (a.toNat / 65536) n = false) ∧
    (∀ c ∈ s.run.mx.queue, c.touches (a.toNat / 65536) n = false) ∧
    (∀ h ∈ s.rangeHomes a n, (s.granule h).mig = false ∧ s.granuleHeld h = false) ∧ (s.det = true → s.run.served = true)

/-- A request that its home serves now (R324, R325, R333, R334, R336). -/
def Served (s : State) (r : SliceReq) : Prop := s.delays r = false ∧ s.refuses r = false ∧ s.readsPoison r = false

/-- What is asked of a home of memory, and not of a lease, of a sync unit or of the order of activations. -/
def asksMemory : SliceOp → Bool
  | .lease _ => false
  | .balloc _ _ _ _ => false
  | .bfree _ _ _ => false
  | .release _ => false
  | _ => true

/-- Memory holds `bs` from `a` on and is unchanged elsewhere. -/
def Wrote (s t : State) (a : Nat) (bs : List Byte) : Prop :=
  (∀ k < bs.length, t.die.mem.get (a + k) = bs.getD k 0) ∧
    ∀ x, ¬(a ≤ x ∧ x < a + bs.length) → t.die.mem.get x = s.die.mem.get x

/-! ### Circuits and streams (R344 to R350) -/

/-- `circ` and `sopen` (R347): D, A, B and whether a stream is asked for. -/
def openForm (i : Instr) : Option (Reg × Reg × Reg × Bool) :=
  match i with
  | .circ d a b => some (d, a, b, false)
  | .sopen d a b => some (d, a, b, true)
  | _ => none

/-- `circrel` and `sclose` (R348): A and whether a stream is closed. -/
def closeForm (i : Instr) : Option (Reg × Bool) :=
  match i with
  | .circrel a => some (a, false)
  | .sclose a => some (a, true)
  | _ => none

/-- The slots that a set-up is granted: by this core itself, or a free value for another receiver, at most NSLOT. -/
def granted (s : State) (k : CircKey) (n : Nat) : Nat :=
  if k.dest = s.lcore then s.grantCount n else min n (Config.receiverGrant (s.fresh + 1))

end Sys2Proof.Claims

/-- R326 to R330: `capq` reads the word of a granule; `capxfer` gives every granule of its range the state of its descriptor
in ascending order, `f k` being the state before granule k, and takes the checkpoint after it. R310, R324, R334, R369: a
home applies a store, a `halo` write, a strong store or an atomic of another core or engine that it serves, and gives a
transferred granule its state; a request that it refuses, delays, or that meets poison changes nothing. A sync unit gives
another core the lowest free slot and frees a slot of its partition (R295). -/
def Obligations.CapabilityResults : Prop :=
  ((∀ d a s e, canonical (s.rd a) = true → s.translate (s.rd a) .read needR = .ok e → e.accR = true →
     s.leaseCheck (e.physical (s.rd a)) (s.rd a) askLoad = .ok () → s.replayStalls .capq = false →
     ReadsScalar (.capq d a) s d (s.replayed .capq (s.capWord (e.physical (s.rd a)))) 4) ∧
   (∀ (s : State) pa c, isCaldera pa = false → s.capAt pa = .excl c →
     (s.capWord pa).setWidth 34 = c ∧ ((s.capWord pa).extractLsb' 34 3) = 0 ∧
       (s.capWord pa).getLsbD 38 = (c == s.lcore) ∧ (s.capWord pa).getLsbD 39 = (s.granule pa).mig) ∧
   (∀ a b s s' cap, s.checkpointAck = .ok s' → canonical (s.rd a) = true → (s.rd a).toNat % 65536 = 0 →
     xferTarget s'.ncores (s.rd b) = some cap →
     (s.rd a).toNat + 65536 * (((s.rd b).extractLsb' 48 16).toNat + 1) ≤
       (if (s.rd a).toNat < 2 ^ 55 then 2 ^ 55 else 2 ^ 64) →
     let n := ((s.rd b).extractLsb' 48 16).toNat + 1
     undivided s' → s'.rangeOutside (s.rd a) n = none → TransferReady s' (s.rd a) n →
     ∀ f : Nat → State, f 0 = s' →
       (∀ k < n, (f k).xferGranule cap (s.rd a + BitVec.ofNat 64 (65536 * k)) = .ok (f (k + 1))) →
       ∃ t, exec (.capxfer a b) s = .next t ∧ s.RetiredAt t (s.run.ctx.pc + 4) ∧ s.run.ctx.SameRegisters t.run.ctx ∧
         ∀ pa, (t.granule pa).cap = ((f n).granule pa).cap) ∧
   (∀ (s u : State) cap a e, (s.ensureTlb a .write).translate a .write needW = .ok e → s.xferGranule cap a = .ok u →
     (u.granule (e.physical a)).cap = cap ∧
       ∀ pa, pa / 65536 ≠ e.physical a / 65536 → (u.granule pa).cap = (s.granule pa).cap)) ∧
  ((∀ r s, asksMemory r.op = true → ¬Served s r → exec (.sliceAccess r) s = .next s) ∧
   (∀ r s, r.order = none → s.MemOk → Served s r →
     (∀ n, r.op = .load n ∨ r.op = .strongLoad n → exec (.sliceAccess r) s = .next s) ∧
     (∀ bs, r.op = .store bs ∨ r.op = .strongStore bs ∨ r.op = .halo bs →
       ∃ t, exec (.sliceAccess r) s = .next t ∧ Wrote s t r.addr bs) ∧
     (∀ op n v cmp, r.op = .amo op n v cmp → amoWrites op (s.die.mem.nat r.addr n) cmp = true →
       ∃ t, exec (.sliceAccess r) s = .next t ∧
         Wrote s t r.addr (bytesOf n (amoNew op (8 * n) (s.die.mem.nat r.addr n) v cmp))) ∧
     (∀ n, r.op = .arrive n → ∃ t, exec (.sliceAccess r) s = .next t ∧
       Arrived (BitVec.ofNat 128 (s.die.mem.nat r.addr 16)) (BitVec.ofNat 128 (t.die.mem.nat r.addr 16)) n r.core.toNat ∧
       ∀ x, ¬(r.addr ≤ x ∧ x < r.addr + 16) → t.die.mem.get x = s.die.mem.get x) ∧
     (∀ cap fmt, r.op = .transfer cap fmt → ∃ t, exec (.sliceAccess r) s = .next t ∧ (t.granule r.addr).cap = cap ∧
       ∀ pa, pa / 65536 ≠ r.addr / 65536 → (t.granule pa).cap = (s.granule pa).cap)) ∧
   (∀ core a s die part ksel expect i, s.freeSlot die = some i →
     ∃ t, exec (.sliceAccess ⟨core, a, .balloc die part ksel expect, none⟩) s = .next t ∧ (t.barSlot die i).used = true ∧
       (t.barSlot die i).part = part ∧ (t.barSlot die i).obj = BitVec.ofNat 128 expect.toNat ∧
       (∀ j, j ≠ i → (die = false → j.toNat < 32) → t.barSlot die j = s.barSlot die j) ∧ t.die.mem = s.die.mem) ∧
   (∀ core a s die part i, (die = false → i.toNat < 32) → (s.barSlot die i).used = true → (s.barSlot die i).part = part →
     ∃ t, exec (.sliceAccess ⟨core, a, .bfree die part i, none⟩) s = .next t ∧ (t.barSlot die i).used = false ∧
       (∀ j, j ≠ i → (die = false → j.toNat < 32) → t.barSlot die j = s.barSlot die j) ∧ t.die.mem = s.die.mem))

/-- R344 to R348: `circ` and `sopen` write the status word, with the slots granted where a circuit or stream opens, and
enter it in the list of the core; `circrel` and `sclose` take it out. What another receiver and the switches answer is a
free value (log entry 73); of the FREE slots a circuit gets the first ones (log entry 50). R347 to R349: a circuit idle for
its time closes at its source; a closing marker closes the oldest circuit of its key at the receiver and frees its unfilled
slots; a set-up flit is answered at once where it can be and else queues, and the oldest queued one of a core is answered by
SETUP_GRANT; one for a packet gets the lowest FREE slot (log entry 50). -/
def Obligations.CircuitResults : Prop :=
  ((∀ i d a b stream, openForm i = some (d, a, b, stream) → ∀ s, keyOk s (s.rd a) = true →
     requestOk stream (s.rd b) = true → s.replayStalls .circ = false → s.dbg.replayMode = false →
     let k := keyOf (s.rd a)
     let far := (s.physOf k.dest.toNat).map dieOf ≠ some (dieOf s.phys)
     let held := ∃ c ∈ s.net.circs, c.key = k
     (held → ReadsScalar i s d 5 4) ∧
     (¬held → far → ReadsScalar i s d 4 4) ∧
     (¬held → ¬far → 8 ≤ s.net.circs.length → ReadsScalar i s d 1 4) ∧
     (¬held → ¬far → s.net.circs.length < 8 → (stream = true → s.heldElsewhere k = false) → s.selfBlocked k = false →
       let g := granted s k ((s.rd b).extractLsb' 16 4).toNat
       ∃ t, exec i s = .next t ∧ s.RetiredAt t (s.run.ctx.pc + 4) ∧
         (∀ r, t.rd r = if r = 0 then 0 else if r = d then
           (if Config.switchFull s.fresh then 2 else if g = 0 then 3 else BitVec.ofNat 64 (g * 2 ^ 16)) else s.rd r) ∧
         Ctx.OnlyScalars s.run.ctx t.run.ctx 0 ∧ t.die = s.die ∧
         t.net.circs = s.net.circs ++ (if Config.switchFull s.fresh || g == 0 then []
           else [⟨k, ((s.rd b).extractLsb' 0 13).toNat, stream, s.run.ctx.circidle, s.cycle.toNat⟩]))) ∧
   (∀ i a stream, closeForm i = some (a, stream) → ∀ s, keyOk s (s.rd a) = true →
     ∃ t, exec i s = .next t ∧ s.RetiredAt t (s.run.ctx.pc + 4) ∧
       t.run.ctx = { s.run.ctx with pc := t.run.ctx.pc, lic := t.run.ctx.lic } ∧ t.die = s.die ∧
       (∀ c, c ∈ t.net.circs ↔ c ∈ s.net.circs ∧ ¬(c.key = keyOf (s.rd a) ∧ c.stream = stream)))) ∧
  ((∀ k s, (∃ c ∈ s.net.circs, c.key = k ∧ c.stream = false ∧ c.idle ≠ 0 ∧ c.lastUse + c.idle.toNat ≤ s.cycle.toNat) →
     ∃ t, exec (.circuitIdleTimeout k) s = .next t ∧ t.run = s.run ∧ t.die = s.die ∧
       (∀ c, c ∈ t.net.circs ↔ c ∈ s.net.circs ∧ ¬(c.key = k ∧ c.stream = false))) ∧
   (∀ m s c, m.dest = s.lcore → s.net.rcircs.find? (fun c => c.src == m.src && c.tag == m.tag) = some c →
     ∃ t, exec (.closingMarker m) s = .next t ∧ t.run = s.run ∧ t.die = s.die ∧
       (∀ x, x ∈ t.net.rcircs ↔ x ∈ s.net.rcircs ∧ x.id ≠ c.id) ∧
       (∀ i, (s.slot i).st = .reserved ∧ (s.slot i).circ = some c.id → (t.slot i).st = .free) ∧
       (∀ i, ¬((s.slot i).st = .reserved ∧ (s.slot i).circ = some c.id) → t.slot i = s.slot i)) ∧
   (∀ r s, s.core.halt.isSome = true → ∃ t, exec (.setupFlit r) s = .next t ∧ t.net.setups = s.net.setups ++ [r] ∧
     t.net.slots = s.net.slots ∧ t.run = s.run ∧ t.die = s.die) ∧
   (∀ r s i rest, s.net.setups = [] → s.core.halt = none → s.setupBlocked r = false → r.perPacket = true →
     s.freeSlots = i :: rest → ∃ t, exec (.setupFlit r) s = .next t ∧ t.net.setups = [] ∧ (t.slot i).st = .reserved ∧
       (t.slot i).circ = none ∧ (∀ j, j ≠ i → t.slot j = s.slot j) ∧ t.run = s.run ∧ t.die = s.die) ∧
   (∀ src s r, s.net.setups.find? (fun r => r.src == src) = some r → s.core.halt = none → s.setupBlocked r = false →
     r.perPacket = false → 0 < s.grantCount r.nslot →
     ∃ t, exec (.setupGrant src) s = .next t ∧ t.net.setups = s.net.setups.erase r ∧
       t.net.rcircs = s.net.rcircs ++ [⟨r.src, r.tag, s.net.circIds, r.nxfer, r.stream, false⟩] ∧
       (∀ i ∈ s.freeSlots.take (s.grantCount r.nslot),
         (t.slot i).st = .reserved ∧ (t.slot i).circ = some s.net.circIds) ∧ t.run = s.run ∧ t.die = s.die))
namespace Sys2Proof.Claims

/-! ### The data engines (R351 to R364) -/

/-- A command of `cp`, `cpt` or `halo` (R353, R354, R356): its channel, its operands, the conditions on its handles, and the
slots that it moves. -/
structure IssueOp where
  op : EngOp
  ch : BitVec 3
  d : Reg
  a : Reg
  ok : BitVec 256 → BitVec 256 → State → Bool
  k : BitVec 256 → BitVec 256 → Nat

/-- The elements of a handle. -/
def elems (h : BitVec 256) : Nat := product (hDims h)

/-- Whether the shapes of `cpt` are each other's with the last two dimensions exchanged (R354). -/
def transposed (hd ha : BitVec 256) : Bool :=
  let x := (hDims ha).reverse
  let y := (hDims hd).reverse
  decide (2 ≤ x.length) && x.length == y.length && x.drop 2 == y.drop 2 && x.getD 0 0 == y.getD 1 0 &&
    x.getD 1 0 == y.getD 0 0

/-- No blocks: neither E2M1 nor BFP24 (R354). -/
def noBlock (h : BitVec 256) : Bool := hFmt h != 6 && hFmt h != 14

/-- The commands that read nothing when they are issued. -/
def issueForm (i : Instr) : Option IssueOp :=
  match i with
  | .cp d a c => some ⟨.cp, c, d, a,
      fun hd ha _ => engHandle .cp hd [0, 1] && engHandle .cp ha [0, 1] && !(hKind hd == 1 && hKind ha == 1) &&
        (if hKind hd = 1 then elems ha == ringSlots hd ha * hDim hd 0 && ringSlots hd ha != 0
          else if hKind ha = 1 then elems hd == ringSlots ha hd * hDim ha 0 && ringSlots ha hd != 0
          else elems hd == elems ha),
      fun hd ha => if hKind hd = 1 then ringSlots hd ha else if hKind ha = 1 then ringSlots ha hd else 0⟩
  | .cpt d a c => some ⟨.cpt, c, d, a,
      fun hd ha _ => engHandle .cpt hd [0] && engHandle .cpt ha [0] && transposed hd ha && noBlock hd && noBlock ha,
      fun _ _ => 0⟩
  | .halo d a c => some ⟨.halo, c, d, a,
      fun hd ha s => engHandle .halo hd [0] && engHandle .halo ha [0] && hSpace ha == 1 && hSpace hd == 1 &&
        decide ((hBase hd).toNat < 2 ^ 52) && decide ((hBase hd).toNat / 2 ^ 18 < s.ncores) && elems hd == elems ha,
      fun _ _ => 0⟩
  | _ => none

/-- A channel of `t` is as in `s`. -/
def SameChan (s t : State) (c : BitVec 3) : Prop := t.chan c = s.chan c

/-- A command has joined its channel: ISS counts it, every other channel, memory and every register are as in `s'`. -/
def Queued (s s' t : State) (ch : BitVec 3) (c : Cmd) : Prop :=
  s.RetiredAt t (s.run.ctx.pc + 4) ∧ (t.chan ch).queue = (s'.chan ch).queue ++ [c] ∧
    t.run.ctx.iss[ch.toFin] = s'.run.ctx.iss[ch.toFin] + 1 ∧ (∀ c, c ≠ ch → SameChan s' t c) ∧
    t.die.mem = s'.die.mem ∧ s.run.ctx.SameRegisters t.run.ctx

/-- A unit of the command at the head of a channel may run (R357, R364). -/
def UnitReady (s : State) (i : BitVec 3) (c : Cmd) : Prop :=
  (s.chan i).queue.head? = some c ∧ (s.chan i).pend = none ∧ s.core.halt = none ∧ (s.chan i).wp < c.units ∧
    s.ringBlocked c = false

/-! ### Weight pairs (R416 to R420) -/

/-- `pst` and `pstb` (R418): D, the address and the length. -/
def pairForm (i : Instr) : Option (Reg × (State → Word) × Nat) :=
  match i with
  | .pst d a n => some (d, fun s => s.rd a + n.signExtend 64, 4)
  | .pstLit d a l => some (d, fun s => s.rd a + l, 12)
  | _ => none
def tileForm (i : Instr) : Option (Reg × (State → Word) × Nat) :=
  match i with
  | .pstb d a n => some (d.setWidth 6, fun s => s.rd a + n.signExtend 64, 4)
  | .pstbLit d a l => some (d.setWidth 6, fun s => s.rd a + l, 12)
  | _ => none

end Sys2Proof.Claims

/-- R351 to R357, R362: `cp`, `cpt`, `halo` and `gath` queue their command on its channel once their checks pass and the channel
has room; `gath` reads its indices first. `s'` is the state after the checkpoint before them. -/
def Obligations.EngineIssueResults : Prop :=
  (∀ i x, issueForm i = some x → ∀ s s', s.checkpointAck = .ok s' → x.ok (s.rdH x.d) (s.rdH x.a) s' = true →
    (∀ w, s'.issueRows x.op w (s.rdH x.d) (s.rdH x.a) (x.k (s.rdH x.d) (s.rdH x.a)) = .ok ()) →
    let c := s'.image x.op x.ch (s.rdH x.d) (s.rdH x.a) (ringOf x.d (s.rdH x.d)) (ringOf x.a (s.rdH x.a)) []
    c.units < 2 ^ 32 → (s'.chan x.ch).queue.length < 4 → ∃ t, exec i s = .next t ∧ Queued s s' t x.ch c) ∧
  (∀ d a b ch s s' o, s.checkpointAck = .ok s' →
    let hd := s.rdH d
    let ha := s.rdH a
    let hb := s.rdH b
    engHandle .gath hd [0, 1] = true → engHandle .gath ha [0] = true → hRank ha = 2 → hSpace ha ≠ 2 →
    (if hKind hd = 1 then hDim hd 0 = hDim ha 1 else hRank hd = 2 ∧ hDim hd 0 = hDim hb 0 ∧ hDim hd 1 = hDim ha 1) →
    hRank hb = 1 → hSpace hb = 1 → 1 ≤ hDim hb 0 → hDim hb 0 ≤ 8 → (∀ w, handleCheck w hb false idxWant = .ok ()) →
    (∀ w, s'.issueRows .gath w hd ha (hDim hb 0) = .ok ()) → (∀ w, s'.operand w hb false idxWant = .ok o) →
    s'.sourcePoison o = .ok () → (s'.chan ch).queue.length < 4 →
    ∃ t, exec (.gath d a b ch) s = .next t ∧ Queued s s' t ch (s'.image .gath ch hd ha (ringOf d hd) none
      ((List.range (hDim hb 0)).map (fun j => intOf o.fmt (s'.raw o j)))))

/-- R351, R358 to R361: `cpwp` and `engseq` read the progress of a channel, `cpwait` ends when its commands have completed;
a pending fault is delivered as a trap that discards the channel's commands. R357, R170, R358: a unit of the command at the
head of a channel writes what it makes to memory, past any log; the last one completes the command; one that fails a check
stops the channel with a fault and writes nothing. -/
def Obligations.EngineProgress : Prop :=
  ((∀ d c s, s.replayStalls .cpwp = false → ObservesScalar (.cpwp d c) s d (s.replayed .cpwp (s.cpwpValue c)) 4) ∧
   (∀ c s, s.pending c = none → s.run.ctx.seq[c.toFin] = s.run.ctx.iss[c.toFin] → ObservesTo (.cpwait c) s (s.run.ctx.pc + 4)) ∧
   (∀ d a s, s.pending ((s.rd a).setWidth 3) = none → s.replayStalls .engseq = false →
     ((s.rd a).toNat < 8 → ObservesScalar (.engseq d a) s d
       (s.replayed .engseq (BitVec.ofNat 64 s.run.ctx.seq[((s.rd a).setWidth 3).toFin])) 4) ∧
     (16 ≤ (s.rd a).toNat → (s.rd a).toNat < 24 → ReadsScalar (.engseq d a) s d
       (s.replayed .engseq (BitVec.ofNat 64 s.run.ctx.iss[((s.rd a).setWidth 3).toFin])) 4)) ∧
   (∀ d a s, 32 ≤ (s.rd a).toNat → (s.rd a).toNat < 40 → s.replayStalls .engseq = false →
     ∃ t, exec (.engseq d a) s = .next t ∧ s.RetiredAt t (s.run.ctx.pc + 4) ∧
       (∀ r, t.rd r = if r = 0 then 0
         else if r = d then s.replayed .engseq (s.chan ((s.rd a).setWidth 3)).status else s.rd r) ∧
       t.chan ((s.rd a).setWidth 3) = { s.chan ((s.rd a).setWidth 3) with oor := 0, fl := 0 } ∧
       Ctx.OnlyScalars s.run.ctx t.run.ctx 0 ∧ t.die = s.die) ∧
   (∀ c s f, s.pending c = some f → f.pf = none → f.cause ≠ 0x13 → f.cause ≠ 0x15 → s.Trappable →
     ∃ t, exec (.cpwait c) s = .next t ∧ t.run.ctx.pc = s.core.tvec ∧ t.run.ctx.tcause = f.cause ∧
       t.run.ctx.tval = f.addr ∧ t.run.ctx.epc = s.run.ctx.pc &&& ~~~3#64 ∧ t.run.ctx.priv = true ∧
       (t.chan c).queue = [] ∧ (t.chan c).pend = none ∧ t.run.ctx.seq[c.toFin] = s.run.ctx.iss[c.toFin] ∧
       (∀ r, t.rd r = s.rd r) ∧ t.die = s.die)) ∧
  (∀ i s c, UnitReady s i c →
     let v := s.chan i
     let u := s.unitWalks c v v.wp
     (∀ w, (u.engineView c).unitWork c v v.wp = .ok w → (∀ h ∈ w.homes, h < Config.csHome → (u.granule h).mig = false) →
       ∃ t, exec (.engineUnit i) s = .next t ∧ t.die.mem = s.die.mem.apply w.bytes ∧ t.run.ctx.s = s.run.ctx.s ∧
         t.run.ctx.pc = s.run.ctx.pc ∧ (∀ k, k ≠ i → SameChan s t k) ∧
         (v.wp + 1 < c.units → (t.chan i).wp = v.wp + 1 ∧ (t.chan i).queue = v.queue) ∧
         (v.wp + 1 = c.units → (t.chan i).wp = 0 ∧ (t.chan i).queue = v.queue.tail)) ∧
     (∀ e f, (u.engineView c).unitWork c v v.wp = .error e → (u.engineView c).engFault v.wp e = some f →
       ∃ t, exec (.engineUnit i) s = .next t ∧ (t.chan i).pend = some f ∧ (t.chan i).queue = v.queue ∧
         t.die.mem = s.die.mem ∧ t.run = s.run))

/-- R416 to R418: `pst` stores an element at its place and at its partner's; `pstb` stores a tile by rows at its place and by
columns at its partner's. Both copies enter the log together; `s'` is the state after the checkpoint that it may need first. -/
def Obligations.PairStoreResults : Prop :=
  (∀ i d v n, pairForm i = some (d, v, n) → ∀ s l p s', (∀ bad, s.pairPlaces bad (v s) 1 = .ok (l, p)) →
    s.storeRoom [l.home, p.home] [] = .ok s' → s'.ordered = false → s'.MemOk →
    l.home % l.z = 0 → p.home % l.z = 0 →
    ∃ t, exec i s = .next t ∧ s.RetiredAt t (s.run.ctx.pc + BitVec.ofNat 64 n) ∧ (∀ r, t.rd r = s.rd r) ∧
      (∀ k < l.z, s'.Stored t l.home k (BitVec.ofNat 8 ((s.rd d).toNat / 256 ^ k)) ∧
        s'.Stored t p.home k (BitVec.ofNat 8 ((s.rd d).toNat / 256 ^ k))) ∧
      s'.SameOutside t [(l.home, l.z), (p.home, l.z)] ∧ Ctx.OnlyScalars s'.run.ctx t.run.ctx 0 ∧ s'.KeptByStore t) ∧
  (∀ i d v n, tileForm i = some (d, v, n) → ∀ s l p o s', (∀ bad, s.pairPlaces bad (v s) 64 = .ok (l, p)) →
    tileHandle (s.rdH d) = true → hFmt (s.rdH d) = l.fmt → (∀ w, s.operand w (s.rdH d) false pairSource = .ok o) →
    s.sourcePoison o = .ok () → l.home / 65536 ≠ p.home / 65536 →
    s.storeRoom (lineAddrs l.home (64 * l.z) ++ lineAddrs p.home (64 * l.z)) [] = .ok s' → s'.ordered = false →
    s'.MemOk → l.home % (64 * l.z) = 0 → p.home % (64 * l.z) = 0 → 65536 % (64 * l.z) = 0 →
    ∃ t, exec i s = .next t ∧ s.RetiredAt t (s.run.ctx.pc + BitVec.ofNat 64 n) ∧ s.run.ctx.SameRegisters t.run.ctx ∧
      (∀ j < 64, ∀ k < l.z,
        s'.Stored t l.home (l.z * j + k) (BitVec.ofNat 8 (s.raw o j / 256 ^ k)) ∧
        s'.Stored t p.home (l.z * j + k) (BitVec.ofNat 8 (s.raw o (j % 8 * 8 + j / 8) / 256 ^ k))) ∧
      s'.SameOutside t [(l.home, 64 * l.z), (p.home, 64 * l.z)])
namespace Sys2Proof.Claims

/-! ### Packets and activations (R79 to R116) -/

/-- A form of `send` or `sendw` (R105): whether it waits, its FN, and D, A and B. -/
structure SendOp where
  wait : Bool
  fn : BitVec 3
  d : Reg
  a : Reg
  b : Reg
def sendForm (i : Instr) : Option SendOp :=
  match i with
  | .send d a b => some ⟨false, 0, d, a, b⟩
  | .sendSp d a b => some ⟨false, 1, d, a, b⟩
  | .sendCode d a b => some ⟨false, 2, d, a, b⟩
  | .sendNz d a b => some ⟨false, 3, d, a, b⟩
  | .sendw d a b => some ⟨true, 0, d, a, b⟩
  | .sendwSp d a b => some ⟨true, 1, d, a, b⟩
  | .sendwCode d a b => some ⟨true, 2, d, a, b⟩
  | .sendwNz d a b => some ⟨true, 3, d, a, b⟩
  | _ => none

/-- The packet whose DEST and TAG a descriptor gives (R104). -/
def headed (s : State) (x : Word) (kind : BitVec 4) (len : BitVec 6) (seg : BitVec 8) (ts : BitVec 48)
    (payload : List (BitVec 32)) : Packet where
  src := s.lcore
  dest := x.extractLsb' 0 34
  tag := x.extractLsb' 34 16
  len := len
  kind := kind
  seg := seg
  ts := ts
  payload := payload
  onCircuit := false

/-- How packets of one instruction to one DEST and TAG leave: on the open circuit or stream of that key while it has transfers
left (R348), else with a set-up of their own (R106). -/
def carried (s : State) (ps : List Packet) : List Packet :=
  ps.zipIdx.map (fun p => { p.1 with
    onCircuit := match s.net.circs.find? (fun c => c.key == ⟨p.1.dest, p.1.tag⟩) with
      | none => false
      | some c => c.stream || p.2 == 0 || decide (p.2 < c.left) })

/-- The descriptor of R104 with KIND and LEN 0, as FN 0, 2 and 3 want it (R107). -/
def plainDescriptor (s : State) (x : Word) : Prop := x.extractLsb' 50 14 = 0 ∧ (x.extractLsb' 0 34).toNat < s.ncores

/-- A scratchpad source of `n` bytes: S[B] has no bit outside its fields, the address is aligned, the bytes lie in the scratchpad and
in no poisoned line (R105, R107, R126). -/
def spSourceOk (s : State) (y : Word) (n : Nat) : Prop :=
  y.extractLsb' 18 30 = 0 ∧ y.extractLsb' 56 8 = 0 ∧ (y.extractLsb' 0 18).toNat + n ≤ 2 ^ 18 ∧
    (y.extractLsb' 0 18).toNat % 4 = 0 ∧ (n = 0 ∨ s.poisonCheck (s.spA (y.extractLsb' 0 18).toNat) n = .ok ())

/-- Word `k` of the scratchpad at an address. -/
def spWord (s : State) (a k : Nat) : BitVec 32 := BitVec.ofNat 32 (s.seenNat (s.spA a + 4 * k) 4)

/-- The nz-pairs words of the 64 values at an address: each that is neither +0 nor −0, as BF16, with its place and SEG (R85, R106). -/
def nzPairs (s : State) (a : Nat) (seg : BitVec 8) : List (BitVec 32) :=
  (List.range 64).filterMap (fun j =>
    if (spWord s a j).toNat % 2 ^ 31 = 0 then none
    else some (BitVec.ofNat 32
      ((roundF bf16 .rne false (decodeF fp32 (spWord s a j).toNat)).1 * 2 ^ 16 + j * 2 ^ 8 + seg.toNat)))

/-- The bytes of a record of a code buffer (R214, R215), and a number among them. -/
def recordBytes (s : State) (h : BitVec 256) (i : Nat) : List Byte :=
  (s.recordElem h i).units.flatMap (fun u => s.seenBytes u.1 u.2)
def recordField (r : List Byte) (lo w : Nat) : Nat := natOfBytes r / 2 ^ lo % 2 ^ w
def recordWords (r : List Byte) (from_ n : Nat) : List (BitVec 32) :=
  (List.range n).map (fun k => BitVec.ofNat 32 (recordField r (8 * from_ + 32 * k) 32))

/-- What R107 asks of a form before any packet leaves, from the descriptor x and S[B] = y, in the state after the checkpoint. -/
def sendable (s : State) (fn : BitVec 3) (x y : Word) : Prop :=
  if fn = 0 then plainDescriptor s x ∧ y.toNat < 16 ∧ ∃ i, s.rdW (y.setWidth 6) = some i ∧
    ((s.slot i).pkt.kind.toNat ≤ 2 ∨ (s.slot i).pkt.kind = 5)
  else if fn = 1 then x.extractLsb' 60 4 = 0 ∧ (x.extractLsb' 0 34).toNat < s.ncores ∧ (x.extractLsb' 50 6).toNat ≤ 28 ∧
    (x.extractLsb' 56 4).toNat ≤ 2 ∧ spSourceOk s y (4 * (x.extractLsb' 50 6).toNat)
  else if fn = 2 then
    let h := s.rdH (y.setWidth 6)
    let r := recordBytes s h (h.extractLsb' 242 14).toNat
    plainDescriptor s x ∧ y.toNat < 32 ∧ codeBufferOk h = true ∧ filled h ≠ 0 ∧
    s.sourcePoison (s.recordOpnd h [(h.extractLsb' 242 14).toNat]) = .ok () ∧
    (recordField r 8 4 = 1 ∨ recordField r 8 4 = 2) ∧ recordField r 32 6 ≤ 28 ∧ recordField r 40 6 ≤ 28
  else plainDescriptor s x ∧ spSourceOk s y 256

/-- The packets that a form makes (R105, R106, R216). -/
def packetsMade (s : State) (fn : BitVec 3) (x y : Word) : List Packet :=
  let a := (y.extractLsb' 0 18).toNat
  if fn = 0 then
    (match s.rdW (y.setWidth 6) with
      | some i => [headed s x (s.slot i).pkt.kind (s.slot i).pkt.len (s.slot i).pkt.seg 0 (s.slot i).pkt.payload]
      | none => [])
  else if fn = 1 then
    [headed s x (x.extractLsb' 56 4) (x.extractLsb' 50 6) (y.extractLsb' 48 8) 0
      ((List.range (x.extractLsb' 50 6).toNat).map (spWord s a))]
  else if fn = 2 then
    let h := s.rdH (y.setWidth 6)
    let r := recordBytes s h (h.extractLsb' 242 14).toNat
    let packet := fun (len from_ : Nat) => headed s x (BitVec.ofNat 4 (recordField r 8 4)) (BitVec.ofNat 6 len)
      (BitVec.ofNat 8 (recordField r 0 8)) 0 (recordWords r from_ len)
    packet (recordField r 32 6) 16 :: (if recordField r 40 6 = 0 then [] else [packet (recordField r 40 6) 144])
  else
    let ws := nzPairs s a (y.extractLsb' 48 8)
    (List.range ((ws.length + 27) / 28)).map (fun k =>
      headed s x 5 (BitVec.ofNat 6 (min 28 (ws.length - 28 * k))) (y.extractLsb' 48 8) 0 ((ws.drop (28 * k)).take 28))

/-- No stream register is bound. -/
def noStreams (s : State) : Bool := s.run.ctx.q.toList.all (fun q => q.bind == .unbound)

/-- A packet that no instruction sends (R84). -/
def malformed (p : Packet) : Prop := 6 ≤ p.kind.toNat ∨ 28 < p.len.toNat ∨ p.kind = 5 ∧ p.len = 0

/-- The lowest-numbered FREE slot, which no set-up or stream keeps from a packet without a circuit (R82, R347, R349). -/
def FreeSlotFor (s : State) (p : Packet) (i : BitVec 5) : Prop :=
  p.onCircuit = false ∧ s.slot i = Slot.empty ∧ (∀ j : BitVec 5, j.toNat < i.toNat → (s.slot j).st ≠ .free) ∧
    (∀ j : BitVec 5, (s.slot j).st = .reserved → (s.slot j).circ = none → (s.slot j).pkt.src = p.src → (s.slot j).pkt.tag ≠ p.tag) ∧
    s.net.setups = [] ∧ ∀ c ∈ s.net.rcircs, c.tag = p.tag → c.src = p.src ∨ c.stream = false

end Sys2Proof.Claims

open Sys2Proof.Claims

/-- R99, R104 to R107, R216, R348: `send` takes a checkpoint, makes the packets of its form, and they leave together; S[D]
counts them, and `send.code` moves CONS of its buffer on. `spawn` sends one ordered packet of the two words of S[D] (R113).
R106, R467: `sendw` sends as `send` does and waits until its packets are placed; it then writes their count with DELIVERED
in bit 8, or without it where a pre-emption ended the wait (in replay mode what the log feeds back, log entry 130). One that
makes no packet writes 0. An acknowledgement of the oldest packet to another core takes it off its way, and that of the last
one ends the wait. No LINKF has named this `sendw` (R434). -/
def Obligations.SendResults : Prop :=
  ((∀ i f, sendForm i = some f → f.wait = false → ∀ (s : State) s', s.checkpointAck = .ok s' →
     sendable s' f.fn (s.rd f.a) (s.rd f.b) →
     ∃ t, exec i s = .next t ∧ s.RetiredAt t (s.run.ctx.pc + 4) ∧
       WroteReg s t f.d (BitVec.ofNat 64 (packetsMade s' f.fn (s.rd f.a) (s.rd f.b)).length) ∧
       t.net.flight = s'.net.flight ++ carried s' (packetsMade s' f.fn (s.rd f.a) (s.rd f.b)) ∧
       (∀ r : Reg, f.fn ≠ 2 ∨ r.setWidth 5 ≠ (s.rd f.b).setWidth 5 → t.rdH r = s.rdH r) ∧
       (f.fn = 2 → FieldSet (s.rdH ((s.rd f.b).setWidth 6)) (t.rdH ((s.rd f.b).setWidth 6)) 242 14
         (((s.rdH ((s.rd f.b).setWidth 6)).extractLsb' 242 14).toNat + 1))) ∧
   (∀ d a b s s' dest act, s.checkpointAck = .ok s' → s.run.act = some act →
     let x := s.rd a
     let ts := s.rd b
     x.extractLsb' 60 4 = 0 → x.extractLsb' 56 4 = 0 → x.extractLsb' 50 6 = 2 → (x.extractLsb' 0 34).toNat < s.ncores →
     s.physOf (x.extractLsb' 0 34).toNat = some dest → dieOf dest = dieOf s.phys →
     0 < ts.toNat → ts.toNat < 2 ^ 48 → act.ts.toNat ≤ ts.toNat →
     ∃ t, exec (.spawn d a b) s = .next t ∧ s.RetiredAt t (s.run.ctx.pc + 4) ∧ (∀ r, t.rd r = s.rd r) ∧
       t.net.flight = s'.net.flight ++
         carried s' [headed s x 0 2 0 (ts.setWidth 48) [(s.rd d).extractLsb' 0 32, (s.rd d).extractLsb' 32 32]])) ∧
  ((∀ i f, sendForm i = some f → f.wait = true → ∀ (s : State) s', s.run.sent = none → s.replayStalls .sendw = false →
     (∀ u ∈ s.run.lost, u.pc ≠ s.run.ctx.pc ∨ u.sent = none) → s.checkpointAck = .ok s' → sendable s' f.fn (s.rd f.a) (s.rd f.b) →
     let ps := packetsMade s' f.fn (s.rd f.a) (s.rd f.b)
     ∃ t, exec i s = .next t ∧ t.net.flight = s'.net.flight ++ carried s' ps ∧
       (ps = [] → s.RetiredAt t (s.run.ctx.pc + 4) ∧ WroteReg s t f.d 0) ∧
       (ps ≠ [] → t.run.ctx.pc = s.run.ctx.pc ∧ t.run.stall = some .placement ∧ t.core.retired = s.core.retired ∧
         t.run.sent = some ((s.rd f.a).extractLsb' 0 34, ps.length) ∧ ∀ r, t.rd r = s.rd r)) ∧
   (∀ i f, sendForm i = some f → f.wait = true → ∀ (s : State) dest n, s.run.sent = some (dest, n) →
     (∀ u ∈ s.run.lost, u.pc ≠ s.run.ctx.pc ∨ u.sent = none) →
     s.run.served = true ∨ s.net.flight.all (fun p => p.dest != dest) = true →
     ∃ t, exec i s = .next t ∧ s.RetiredAt t (s.run.ctx.pc + 4) ∧
       WroteReg s t f.d (s.replayed .sendw (BitVec.ofNat 64 (if s.run.served then n else n + 256))) ∧ t.run.sent = none) ∧
   (∀ (s : State) p before after dest n, s.det = false → s.net.flight = before ++ p :: after →
     (∀ q ∈ before, q.dest = s.lcore) → p.dest ≠ s.lcore → s.run.sent = some (dest, n) →
     (∀ q ∈ before ++ after, q.dest ≠ dest) → s.run.stall = some .placement →
     exec .placementAcknowledgement s =
       .next { s with net := { s.net with flight := before ++ after }, run := { s.run with stall := none } }))

/-- R90 to R94, R108 to R112: `ckpt` commits the write log and records the snapshot; `yield` retires, takes the checkpoint
and queues its activation again, which starts at once when no other is due (R111; as a step of its own, log entry 55);
`relw` unbinds a window and drops its binding; `wcnt` claims packets; `tstamp` reads the own TS. R97, R114, R115: `end`
commits the log and retires the activation; `abort` discards the log and retires it. Both wait for the channels and the
matrix queue first. -/
def Obligations.ActivationControl : Prop :=
  ((∀ (s : State), settled s = true → ∃ t, exec .ckpt s = .next t ∧ s.RetiredAt t (s.run.ctx.pc + 4) ∧
     t.die.mem = s.die.mem.apply s.run.log ∧ t.run.log = [] ∧ t.run.acks = s.run.acks + s.logLines.length ∧
     t.run.readSet = [] ∧ t.run.claimed = [] ∧ t.run.snap.pc = s.run.ctx.pc + 4 ∧ t.run.snap.s = s.run.ctx.s ∧
     t.run.snap.h = s.run.ctx.h ∧ t.run.snap.f = s.run.ctx.f ∧ t.run.snap.priv = s.run.ctx.priv ∧
     s.run.ctx.SameRegisters t.run.ctx) ∧
   (∀ (s : State) a, settled s = true → s.run.act = some a → s.run.mx.queue = [] →
     ∃ t q v, exec .yield s = .next t ∧ t.run.act = none ∧ t.core.retired = s.core.retired + 1 ∧
       t.run.ctx.lic = s.run.ctx.lic + 1 ∧ t.die.mem = s.die.mem.apply s.run.log ∧ q ∈ t.net.queue ∧
       q.kind = .yielded v ∧ q.slot = a.slot ∧ q.prio = a.prio ∧ q.arrival = t.arrivalNow ∧ v.act = a ∧ v.snap.pc = s.run.ctx.pc + 4 ∧
       v.snap.s = s.run.ctx.s ∧ v.mx.acc = s.run.mx.acc) ∧
   (∀ d (s : State) s', s.checkpointAck = .ok s' → ∃ t, exec (.relw d) s = .next t ∧ s.RetiredAt t (s.run.ctx.pc + 4) ∧
     (∀ r, t.rd r = s.rd r) ∧ (d.toNat < 16 → t.rdW d = none) ∧
     (∀ i, s'.rdW d = some i → noStreams s' = true →
       (1 < (s'.slot i).bindings → t.slot i = { s'.slot i with bindings := (s'.slot i).bindings - 1 }) ∧
       ((s'.slot i).bindings ≤ 1 → (s'.slot i).circ = none → t.slot i = Slot.empty) ∧
       (∀ c ∈ s'.net.rcircs, (s'.slot i).bindings ≤ 1 → (s'.slot i).circ = some c.id → c.open = true →
         t.slot i = { Slot.empty with st := .reserved, circ := some c.id }))) ∧
   (∀ d a (s : State), s.claimItem = none ∨ 16 ≤ a.toNat ∨ s.rdW a ≠ none → WritesScalar (.wcnt d a) s d 0 0 4) ∧
   (∀ d a (s : State) q, a.toNat < 16 → s.rdW a = none → s.claimItem = some q →
     ∃ t n, exec (.wcnt d a) s = .next t ∧ s.RetiredAt t (s.run.ctx.pc + 4) ∧ 1 ≤ n ∧ a.toNat + n ≤ 16 ∧
       WroteReg s t d (BitVec.ofNat 64 n) ∧ t.rdW a = some q.slot ∧ (t.slot q.slot).st = .held ∧ t.die = s.die) ∧
   (∀ d (s : State) a, s.run.act = some a → WritesScalar (.tstamp d) s d (a.ts.setWidth 64) 0 4)) ∧
  ((∀ (s : State), let u := s.cancelBlocked
     u.enginesBusy = false → s.run.mx.queue = [] → s.run.mx.pending = [] → u.firstPending = none → settled s = true →
     ∃ t, exec .endAct s = .next t ∧ t.run.act = none ∧ t.core.retired = s.core.retired + 1 ∧
       t.run.ctx.lic = s.run.ctx.lic + 1 ∧ t.die.mem = s.die.mem.apply s.run.log ∧ t.run.log = [] ∧ ∀ r, t.rdW r = none) ∧
   (∀ (s : State), let u := s.beginAbort.cancelFaulted.cancelBlocked
     s.run.struck = false → u.enginesBusy = false → s.run.mx.queue = [] →
     ∃ t, exec .abort s = .next t ∧ t.run.act = none ∧ t.core.retired = s.core.retired + 1 ∧
       t.die.mem = s.die.mem ∧ t.run.log = [] ∧ ∀ r, t.rdW r = none))

/-- R80 to R88, R99, R118: a packet that finds no slot, or comes behind an earlier one of its sender, waits; it lands in the lowest
FREE slot (any FREE one by R82 and R349: log entry 50) and is bound by its tag, held unbound, or discarded; the firmware's answer binds what waits; a fresh activation starts at
its entry with the registers of R87, a returning one from its snapshot. -/
def Obligations.PlacementAndStart : Prop :=
  (∀ p (s : State), p.kind = 3 ∨ p.kind = 4 →
    exec (.packetPlacement p) s = .next (if 28 < p.len.toNat
      then { s with net := { s.net with malformed := s.net.malformed + 1 } } else s)) ∧
  (∀ p (s : State), p.kind ≠ 3 → p.kind ≠ 4 → p.src ≠ s.lcore →
    s.holdsArrivals = true ∨ (∃ q ∈ s.net.waiting, q.src = p.src ∧ q.kind ≠ 3) →
    exec (.packetPlacement p) s = .next { s with net := { s.net with waiting := s.net.waiting ++ [p] } }) ∧
  (∀ p (s : State), p.kind ≠ 3 → p.kind ≠ 4 → p.src ≠ s.lcore → s.holdsArrivals = false → s.landing p = none →
    (∀ q ∈ s.net.waiting, q.src = p.src → q.kind = 3) →
    ∃ t, exec (.packetPlacement p) s = .next t ∧ t.net.waiting = s.net.waiting ++ [p] ∧ t.net.slots = s.net.slots ∧
      (p.onCircuit = false → ∃ r ∈ t.net.setups, r.perPacket = true ∧ r.src = p.src ∧ r.tag = p.tag)) ∧
  (∀ p (s : State) i, p.kind ≠ 3 → p.kind ≠ 4 → p.src ≠ s.lcore → s.holdsArrivals = false →
    (∀ q ∈ s.net.waiting, q.src = p.src → q.kind = 3) → FreeSlotFor s p i → noStreams s = true →
    ∃ t, exec (.packetPlacement p) s = .next t ∧ t.net.waiting = s.net.waiting ∧
      (malformed p → t.net.malformed = s.net.malformed + 1 ∧ t.slot i = Slot.empty ∧ t.net.queue = s.net.queue) ∧
      (¬malformed p → (t.slot i).st = .queued ∧ (t.slot i).pkt = { p with payload := p.payload.take p.len.toNat } ∧
        (t.slot i).bound = s.bindOf p.tag ∧ t.net.malformed = s.net.malformed ∧
        (s.bindOf p.tag = none → t.net.unboundCount = s.net.unboundCount + 1 ∧ t.net.queue = s.net.queue ∧
          t.pkg.reports = s.pkg.reports ++ [.unbound i]) ∧
        (∀ e, s.bindOf p.tag = some e →
          (p.kind ≠ 5 → ∃ q, t.net.queue = s.net.queue ++ [q] ∧ q.slot = i ∧ q.prio = e.prio ∧ q.arrival = s.arrivalNow ∧
            q.kind = .fresh) ∧
          (p.kind = 5 → t.net.queue.length = s.net.queue.length + p.len.toNat)) ∧
        (t.slot i).place = (if p.ts = 0 then 0 else s.core.place + 1) ∧
        t.core.place = (if p.ts = 0 then s.core.place else s.core.place + 1))) ∧
  (∀ i (s : State) e, s.det = false → (s.slot i).st = .queued → (s.slot i).bound = none → (s.slot i).pkt.tag = e.tag →
    e.valid = true → s.net.binds.toList.any (fun v => !v.valid) = true → noStreams s = true →
    ∃ t, exec (.unboundArrivalAnswer i (some e)) s = .next t ∧ (t.slot i).bound = some e ∧ t.bindOf e.tag = some e) ∧
  (∀ i (s : State), (s.slot i).st = .queued → (s.slot i).bound = none → (s.slot i).circ = none →
    ∃ t, exec (.unboundArrivalAnswer i none) s = .next t ∧ t.slot i = Slot.empty) ∧
  (∀ (s : State) q e, s.run.act = none → s.core.halt = none → s.core.stopping = false → s.startStalls = false →
    s.startItem = some q → q.kind = .fresh → (s.slot q.slot).bound = some e →
    ∃ t a, exec .activationStart s = .next t ∧ t.run.act = some a ∧ a.slot = q.slot ∧ a.tag = (s.slot q.slot).pkt.tag ∧
      a.kind = (s.slot q.slot).pkt.kind ∧ a.ts = (s.slot q.slot).pkt.ts ∧ a.prio = e.prio ∧ a.ksel = e.ksel ∧
      a.seg = (s.slot q.slot).pkt.seg ∧ a.entry = e.entry ∧ a.speculative = (a.ts != 0) ∧
      ((s.slot q.slot).pkt.kind ≠ 5 → 2 ≤ (s.slot q.slot).pkt.len.toNat → q.word = none →
        a.arg = (s.slot q.slot).pkt.payload.getD 1 0 ++ (s.slot q.slot).pkt.payload.getD 0 0) ∧
      t.run.ctx.pc = e.entry ∧ t.run.snap.pc = e.entry ∧ t.core.tvec = s.net.ktab[e.ksel.toFin] ∧
      (∀ r, t.rd r = 0) ∧ (∀ r, t.rdH r = 0) ∧ t.rdW 0 = some q.slot ∧
      (∀ r : Reg, r.setWidth 4 ≠ 0#4 → t.rdW r = none) ∧ t.run.ctx.fflags = 0 ∧ t.run.ctx.frm = 0 ∧
      t.run.ctx.admode = 0 ∧ t.run.ctx.priv = false ∧ t.run.log = [] ∧ (t.slot q.slot).st = .held ∧
      t.run.ctx.lic = s.run.ctx.lic ∧ t.run.ctx.seed = s.run.ctx.seed) ∧
  (∀ (s : State) q v, s.run.act = none → s.core.halt = none → s.core.stopping = false → s.startStalls = false →
    s.startItem = some q → q.kind = .yielded v ∨ q.kind = .returned v →
    ∃ t, exec .activationStart s = .next t ∧ t.run.act = some { v.act with arrival := q.arrival } ∧
      t.run.ctx.pc = v.snap.pc ∧ v.snap.SameRegisters t.run.ctx ∧ t.run.ctx.fflags = v.snap.fflags ∧ t.run.mx = v.mx ∧
      t.core.tvec = s.net.ktab[v.act.ksel.toFin] ∧ t.run.log = [])

/-- R93, R94, R101: a home answers a held request and keeps an accepted one; a notice applies or drops it; the answers grant
the commit or abort it, where the replay log has room (R468); an acknowledgement and the end of speculation end their waits. -/
def Obligations.CommitEvents : Prop :=
  (∀ r (s : State), r.core ≠ s.lcore → (r.kind = .window → s.roundFull r.addr r.core.toNat = false) →
    ∃ t, exec (.heldRequest r) s = .next t ∧
    t.die.answers = s.die.answers ++ [(r, (s.heldVerdict r).1, (s.heldVerdict r).2)] ∧
    t.die.held = (if (s.heldVerdict r).1 then s.die.held ++ [r] else s.die.held) ∧ t.die.mem = s.die.mem ∧ t.run = s.run) ∧
  (∀ r (s : State), r.kind = .line → s.leaseOk r.core r.addr = false → s.heldVerdict r = (false, true)) ∧
  (∀ r data val (s : State), r.core ≠ s.lcore → r ∈ s.die.held → r.kind = .set → r.addr / 64 ∉ s.run.readTags →
    s.run.deps = [] →
    ∃ t, exec (.applyNotice r data val) s = .next t ∧ t.die.mem = s.die.mem.put r.addr (bytesOf 4 val.toNat) ∧
      t.die.held = (s.die.held.erase r)) ∧
  (∀ r data val (s : State), r ∉ s.die.held → exec (.applyNotice r data val) s = .next s) ∧
  (∀ r (s : State), r.core ≠ s.lcore → exec (.dropNotice r) s = .next { s with die := { s.die with
    held := s.die.held.erase r, answers := s.die.answers.filter (fun a => a.1 != r) } }) ∧
  (∀ (s : State) c r l as, s.run.commit = some c → s.die.answers = (r, true, l) :: as → r.core = s.lcore →
    c.pending = [r] → c.answered.all (fun a => a.2) = true →
    ∃ t c', exec .holdAnswer s = .next t ∧ t.run.commit = some c' ∧ c'.granted = true ∧ t.die.answers = as ∧
      t.run.stall = (if s.run.stall = some .hold then none else s.run.stall)) ∧
  (∀ (s : State) c r as, s.run.commit = some c → s.die.answers = (r, false, false) :: as → r.core = s.lcore →
    c.pending = [r] → c.lease = false → s.replayStalls .abort = false →
    ∃ t, exec .holdAnswer s = .next t ∧ t.run.commit = none ∧ t.run.log = [] ∧ t.run.adj = [] ∧
      t.run.ctx.pc = s.run.snap.pc ∧ t.run.ctx.s = s.run.snap.s ∧ t.die.mem = s.die.mem) ∧
  (∀ (s : State), exec .commitAcknowledgement s = .next { s with run := { s.run with
    acks := s.run.acks - 1
    stall := if s.run.acks - 1 = 0 ∧ s.run.stall = some .acks then none else s.run.stall } }) ∧
  (∀ (s : State), exec .speculationEnd s = .next (if s.olderOpen then s else { s with run := { s.run with
    act := s.run.act.map (fun a => { a with speculative := false })
    stall := if s.run.stall = some .speculation then none else s.run.stall } }))
namespace Sys2Proof.Claims

/-! ### Contexts, partitions and installs (R56, R118, R390 to R416) -/

/-- A slot-table record that this core may take up: valid, naming the core, of its partition, not a trap vector's (R118, R398). -/
def Taken (s : State) (r : SlotRecord) : Prop :=
  r.valid = true ∧ s.names r = true ∧ r.tag ≠ 0xFFFF ∧ r.part = s.pkg.part
/-- The bind entry of a record (R80, R397). -/
def bindEntry (r : SlotRecord) : BindEntry := ⟨r.entry, true, r.ksel, r.part, r.prio, r.tag⟩
/-- The valid entry of the record's TAG, if any, is that of the record it replaces (R398). -/
def ownTag (s : State) (idx : BitVec 10) (r : SlotRecord) : Prop :=
  s.bindOf r.tag = none ∨ ∃ o, s.recordAt idx = some o ∧ o.tag = r.tag
/-- Some bind entry is not valid. -/
def hasRoom (s : State) : Prop := ∃ v ∈ s.net.binds.toList, v.valid = false

/-- The trap vector of a plan: the label of the handler of tag 0xFFFF, or 0 (R118). -/
def trapVector (k : KernelPlan) : Word :=
  match k.image.handlers.find? (fun h => h.setWidth 16 == 0xFFFF#16) with
  | some h => k.code + (h.extractLsb' 32 32).setWidth 64
  | none => 0

/-- The bind record of a handler-table entry (R56, R397): its label, its tag, and PRIO 0 where the install request names none. -/
def recordOf (k : KernelPlan) (h : BitVec 64) : SlotRecord where
  entry := k.code + (h.extractLsb' 32 32).setWidth 64
  clusters := k.clusters
  cores := k.cores
  valid := true
  ksel := k.ksel
  part := k.part
  prio := (assoc (h.setWidth 16) k.prios).getD 0
  tag := h.setWidth 16

end Sys2Proof.Claims

open Sys2Proof.Claims

/-- R148, R401, R405 to R409, R427, R448: `lclock` reads the logical clock; PREEMPT halts the core at an instruction boundary, ends the
wait of an instruction that waits, and aborts a speculative one's; an `idle` ends (R148) or is left to run again (R407); within an
instruction it stops there, at the last checkpoint, or at a boundary that the instruction reaches, but not where that would repeat
what the instruction has sent or added (log entry 85); a saved context leaves the core and returns to it, with the bytes of its
scratchpad and the core's count of `sigx`, and one that an ordering conflict struck meanwhile restarts; clocks change only time; heat
stops the core, keeping a halt that it meets, and resumes it (log entry 87); a trip loses everything (log entry 96). -/
def Obligations.ClockAndPreemption : Prop :=
  (∀ d s, WritesScalar (.lclock d) s d
    (if s.pkg.det then BitVec.ofNat 64 (s.core.quantum % 2 ^ 32 * 2 ^ 32 +
        (((s.run.ctx.lic : Int) - s.core.qstart) % 2 ^ 32).toNat)
      else BitVec.ofNat 64 (s.run.ctx.lic % 2 ^ 32)) 0 4) ∧
  (∀ f (s : State), s.core.halt ≠ none ∨ s.core.stopAt ≠ none → exec (.preempt f) s = .next s) ∧
  (∀ f (s : State), s.core.halt = none → s.core.stopAt = none →
    s.run.act = none ∨ s.run.stall ≠ none ∨ s.run.retiring = true ∨ s.run.parking ≠ none ∨ s.run.sent ≠ none ∨ s.contributed = true →
    s.run.stall ≠ some .speculation → s.run.stall ≠ some .idle →
    ∃ t, exec (.preempt f) s = .next t ∧ t.core.halt = some .preempt ∧ t.run.stall = none ∧
      t.run.ctx = s.run.ctx ∧ t.run.log = s.run.log ∧ t.die = s.die ∧ t.run.owed = (if f then s.run.owed else none) ∧
      t.run.sent = s.run.sent ∧ t.run.retiring = s.run.retiring ∧ t.run.parking = s.run.parking ∧
      (s.run.stall = some .placement → t.run.served = true) ∧
      (s.run.stall = some .bwait → t.run.waited = 0)) ∧
  (∀ f (s : State), s.core.halt = none → s.core.stopAt = none → s.run.stall = some .idle →
    ∃ t, exec (.preempt f) s = .next t ∧ t.core.halt = some .preempt ∧ t.run.stall = none ∧ t.run.idleDone = false ∧ t.die = s.die ∧
      (t.run.ctx = s.run.ctx ∧ t.core.retired = s.core.retired ∨
        t.run.ctx = { s.run.ctx with pc := s.run.ctx.pc + 4, lic := s.run.ctx.lic + 1 } ∧ t.core.retired = s.core.retired + 1)) ∧
  (∀ f (s : State), s.core.halt = none → s.core.stopAt = none → s.run.act ≠ none → s.run.stall = some .speculation →
    ∃ t, exec (.preempt f) s = .next t ∧ t.core.halt = some .preempt ∧ t.run.log = [] ∧ t.run.ctx.pc = s.run.snap.pc ∧
      t.run.ctx.s = s.run.snap.s ∧ t.die.mem = s.die.mem) ∧
  (∀ f (s : State), s.core.halt = none → s.core.stopAt = none → s.run.act ≠ none → s.run.stall = none → s.run.retiring = false →
    s.run.parking = none → s.run.sent = none → s.contributed = false → ∃ t, exec (.preempt f) s = .next t ∧ t.die.mem = s.die.mem ∧
      (t.core.halt = some .preempt ∧ t.run.ctx = s.run.ctx ∧ t.run.log = s.run.log ∨
        t.core.halt = some .preempt ∧ t.run.ctx.pc = s.run.snap.pc ∧ t.run.ctx.s = s.run.snap.s ∧ t.run.log = [] ∨
        t.core.halt = none ∧ t.core.stopAt ≠ none ∧ t.run.ctx = s.run.ctx ∧ t.run.log = s.run.log)) ∧
  (∀ (s : State) a, s.run.act = some a → s.core.halt = some .preempt → s.core.tape.dirty = s.run.ctx.top →
    ∃ t v, exec .contextSave s = .next t ∧ t.saved = s.saved ++ [v] ∧ t.run.act = none ∧ t.core.halt = none ∧
      v.run.act = some a ∧ v.run.ctx = s.run.ctx ∧ v.run.log = s.run.log ∧ v.run.snap = s.run.snap ∧ v.tvec = s.core.tvec ∧
      v.enc = s.core.enc ∧
      (s.run.snap.live = none → ∀ x < 2 ^ 18, v.bytes.find x = some (s.die.mem.get (s.spA x)))) ∧
  (∀ i (s : State), s.pkg.thermalHold = false → s.core.halt = some .preempt → s.run.acks = 0 → ∃ t, exec (.contextResume i) s = .next t ∧
    t.core.halt = none ∧ t.run.act = s.run.act ∧ t.run.ctx = s.run.ctx ∧ t.die.mem = s.die.mem) ∧
  (∀ i (s : State) v a, s.pkg.thermalHold = false → s.core.halt = none → s.run.act = none → s.saved[i]? = some v → v.run.act = some a →
    s.net.kernels.any (fun k => k.ksel == a.ksel && k.part == a.part) = true →
    ∃ t, exec (.contextResume i) s = .next t ∧ t.saved.length + 1 = s.saved.length ∧ t.run.act = some a ∧
      t.core.tvec = v.tvec ∧ t.core.enc = v.enc ∧
      (v.doomed = false → t.saved = s.saved.eraseIdx i ∧ t.run.ctx = { v.run.ctx with sigk := s.run.ctx.sigk } ∧ t.run.log = v.run.log ∧
        t.run.stall = (if v.run.acks = 0 then v.run.stall else some .acks)) ∧
      (v.doomed = true → s.replayStalls .abort = false → t.run.log = [] ∧ t.run.ctx.pc = v.run.snap.pc ∧ t.run.ctx.s = v.run.snap.s) ∧
      (s.MemOk → ∀ x < 2 ^ 18, ∀ y, v.bytes.find x = some y → t.die.mem.get (s.spA x) = y)) ∧
  (∀ mhz (s : State), 1200 ≤ mhz → mhz ≤ 2100 → mhz % 50 = 0 →
    exec (.clockChange mhz) s = .next { s with die := { s.die with mhz := mhz } } ∧
    (mhz < s.die.mhz → ∃ t, exec (.thermalThrottle mhz) s = .next t ∧ t.die.mhz = mhz ∧ t.run = s.run ∧
      t.die.mem = s.die.mem)) ∧
  (∀ (s : State), s.pkg.thermalHold = false → ∃ t, exec .thermalPreemption s = .next t ∧ t.core.halt = some .preempt ∧
    t.pkg.thermalHold = true ∧ t.run.act = none ∧ t.pkg.thermalHalt = s.core.halt ∧ t.pkg.thermalSaved = s.run.act.isSome ∧
    ∃ l, t.pkg.reports = l ++ [.thermal]) ∧
  (∀ (s : State), s.pkg.thermalHold = true → ∃ t, exec .thermalResume s = .next t ∧ t.pkg.thermalHold = false ∧
    t.core.halt = s.pkg.thermalHalt ∧
    ∀ l v a, s.pkg.thermalSaved = true → s.saved = l ++ [v] → v.run.act = some a → s.run.act = none →
      s.net.kernels.any (fun k => k.ksel == a.ksel && k.part == a.part) = true → t.run.act = some a) ∧
  (∀ (s : State), ∃ t, exec .thermalTrip s = .next t ∧ t.run.act = none ∧ t.pkg.powered = false ∧ t.pkg.booted = false ∧
    t.parked = [] ∧ t.inPlace = none ∧ t.saved = [] ∧ t.pkg.switched = [] ∧ ∃ l, t.pkg.reports = l ++ [.linkDown])

/-- R271, R402, R403, R444: at the end of a quantum the adds that it holds reach their cells and windows, the quantum is counted, QSTART is the LIC of the core,
and every wait for a service or for another core tests again; outside deterministic mode nothing happens. -/
def Obligations.QuantumEvents : Prop :=
  (∀ (s : State), s.pkg.det = true → s.atQuantumEnd = true → s.hostReady = true → s.replayStalls .hostPacket = false →
    (∀ d ∈ s.die.deferred ++ s.die.reduces ++ s.ownAdd, s.poisoned (d.1 / 64) = false) →
    ∃ t, exec .quantumEnd s = .next t ∧ t.core.quantum = s.core.quantum + 1 ∧ t.core.qstart = s.run.ctx.lic ∧
    t.die.deferred = [] ∧ t.die.reduces = [] ∧ t.run.ctx = s.run.ctx ∧
    (∀ w ∈ [Wait.quantum, .idle, .bwait, .placement, .deferred, .round, .streamOpen], s.run.stall = some w →
      t.run.stall = none) ∧
    (s.die.deferred ++ s.die.reduces ++ s.ownAdd = [] → t.die.mem = s.die.mem) ∧
    ∀ a c v, s.die.deferred ++ s.die.reduces ++ s.ownAdd = [(a, c, v)] →
      (s.inWindow a = false → t.die.mem = s.die.mem.put a (bytesOf 4 (addFp32 (BitVec.ofNat 32 (s.die.mem.nat a 4)) v).toNat)) ∧
      (s.inWindow a = true → s.orderedWindow a = false → (∀ k ∈ s.die.contribs, k.addr ≠ a) →
        t.die.mem = windowAdd (s.window a).fmt.toNat s.die.mem a v)) ∧
  (∀ (s : State), s.pkg.det = false ∨ s.atQuantumEnd = false → exec .quantumEnd s = .next s)

/-- R56, R118, R207, R394, R399, R401, R416: an install on a booted core, of a plan whose tables map what it names (the
model's choice, log entry 90), enters its kernel, its trap vector and its bind records and, on a core without another one,
resets the units of R394; a live range ends at line 4,095 at the latest and a record has eight words at most (log entry
133); one that breaks a rule is refused, with codes of the model's own (log entry 90), an image among them whose SHAKE256
digest the host did not name (R425); a removal waits for the kernel's activations. R390, R397 to R399, R410 to R412, R321:
the partition's state changes whole, with the saved context of an activation that ran; a parked activation returns or is
retired and reported, and one kept in place then parks; the slot table's records install and remove bind entries, or nothing
where a named core is full, in conflict or of another partition. What a partition keeps is log entry 88, and the order of a
record's statuses log entry 91. -/
def Obligations.KernelAndPartitionEvents : Prop :=
  ((∀ k (s : State), s.pkg.booted = true → k.part = s.pkg.part → (s.loadPlan k).planOk k = true → s.installRefusal k = none →
     ∃ t v, exec (.kernelInstall k) s = .next t ∧ t.net.kernels = s.net.kernels ++ [v] ∧ v.ksel = k.ksel ∧ v.part = k.part ∧
       v.digest = shake256 (KernelImage.bytes k.image) 64 ∧ v.tape = k.tape.isSome ∧
       v.codeEnd = k.code.toNat + k.image.code.length ∧
       v.live = k.image.live.map (fun r => ⟨k.code + BitVec.ofNat 64 r.1, (r.2.take 8).map (fun w =>
         ((w.extractLsb' 0 12).toNat, min (w.extractLsb' 16 13).toNat (4096 - (w.extractLsb' 0 12).toNat)))⟩) ∧
       t.net.ktab[k.ksel.toFin] = trapVector k ∧ t.core.root1 = k.root1 ∧ t.core.root2 = k.root2 ∧ t.core.asid = k.asid ∧
       t.die.pairs = s.die.pairs ++ pairTable (KernelPlan.regions k) ∧
       (s.net.kernels = [] → t.run.ctx.last = 0 ∧ t.run.ctx.top = 0 ∧ t.core.enc = Enc.reset ∧ t.core.wb = [] ∧
         t.core.linkdir = 0) ∧
       (s.core.launched = false → t.run.ctx.lic = 0 ∧ t.core.quantum = 0 ∧ t.core.qstart = 0) ∧
       (s.core.launched = true → t.run.ctx.lic = s.run.ctx.lic) ∧
       (∀ h idx, k.image.handlers = [h] → k.places = [idx] → Taken s (recordOf k h) → s.bindOf (h.setWidth 16) = none →
         hasRoom s → bindEntry (recordOf k h) ∈ t.net.binds.toList)) ∧
   (∀ k (s : State), s.pkg.booted = false ∨ k.part ≠ s.pkg.part ∨ (s.loadPlan k).planOk k = false →
     exec (.kernelInstall k) s = .next s) ∧
   (∀ k (s : State) why, s.pkg.booted = true → k.part = s.pkg.part → (s.loadPlan k).planOk k = true →
     s.installRefusal k = some why → exec (.kernelInstall k) s = .next (s.report (.installRefused why))) ∧
   (∀ k (s : State), k.tape ≠ none → (∃ v ∈ s.net.kernels, v.tape = true) → pairsOk none (KernelPlan.regions k) = true →
     s.installRefusal k = some 2) ∧
   (∀ k (s : State), pairsOk none (KernelPlan.regions k) = true → (∀ v ∈ s.net.kernels, v.tape = false ∧ v.ksel ≠ k.ksel) →
     k.named ≠ shake256 (KernelImage.bytes k.image) 64 → s.installRefusal k = some 4) ∧
   (∀ k (s : State), s.kernelBusy k = true → exec (.kernelRemoval k) s = .next s) ∧
   (∀ k (s : State), s.kernelBusy k = false → ∃ t, exec (.kernelRemoval k) s = .next t ∧
     t.net.kernels = s.net.kernels.filter (fun v => v.ksel != k) ∧ t.net.ktab[k.toFin] = 0 ∧ t.net.circs = [] ∧
     (∀ e ∈ t.net.binds.toList, e.valid = true → ¬(e.ksel = k ∧ e.part = s.pkg.part)) ∧
     (∀ v, s.net.kernels.filter (fun v => v.ksel == k) = [v] → t.die.access = v.access.foldl List.erase s.die.access) ∧
     t.die.mem = s.die.mem ∧ t.run.ctx = s.run.ctx ∧ t.run.act = s.run.act)) ∧
  ((∀ part (s : State), s.pkg.thermalHold = false → s.run.act = none → part ≠ s.pkg.part →
     ∃ t, exec (.partitionSwitch part) s = .next t ∧ t.pkg.part = part ∧ t.die.mem = s.die.mem ∧
       t.core.retired = s.core.retired ∧
       (∃ v ∈ t.pkg.switched, v.part = s.pkg.part ∧ v.run = s.run ∧ v.net = s.net ∧ v.parked = s.parked ∧ v.saved = s.saved ∧
         v.dset = ⟨s.dbg.enables, s.dbg.hold, s.dbg.replayFull⟩) ∧
       (∀ v, s.pkg.switched.find? (fun v => v.part == part) = some v →
         t.run = v.run ∧ t.net = v.net ∧ t.core.tvec = v.core.tvec ∧ t.parked = v.parked ∧ t.saved = v.saved ∧
         t.dbg.enables = v.dset.enables ∧ t.dbg.hold = v.dset.hold ∧ t.dbg.replayFull = v.dset.replayFull)) ∧
   (∀ part (s : State), s.run.act ≠ none → s.core.halt ≠ some .preempt → exec (.partitionSwitch part) s = .next s) ∧
   (∀ part (s : State) a, s.pkg.thermalHold = false → s.run.act = some a → s.core.halt = some .preempt → part ≠ s.pkg.part →
     s.core.tape.dirty = s.run.ctx.top →
     ∃ t, exec (.partitionSwitch part) s = .next t ∧ t.pkg.part = part ∧
       ∃ v ∈ t.pkg.switched, v.part = s.pkg.part ∧ v.run.act = none ∧
         ∃ c, v.saved = s.saved ++ [c] ∧ c.run.act = some a ∧ c.run.ctx = s.run.ctx) ∧
   (∀ i (s : State) p, s.parked[i]? = some p → s.inPlace = none →
     ∃ t q, exec (.parkedActivationReturn i false) s = .next t ∧ t.parked = s.parked.eraseIdx i ∧
       t.net.queue = s.net.queue ++ [q] ∧ q.kind = .returned p.saved ∧ q.slot = p.slot ∧ q.arrival = p.arrival ∧
       q.prio = p.saved.act.prio ∧ t.run = s.run) ∧
   (∀ i (s : State) p, s.parked[i]? = some p → s.inPlace = none →
     ∃ t, exec (.parkedActivationReturn i true) s = .next t ∧ t.parked = s.parked.eraseIdx i ∧ t.run = s.run ∧
       .programFault p.fault ∈ t.pkg.reports) ∧
   (∀ i (s : State) p a r, s.parked[i]? = some p → s.parked.length ≤ 8 → s.inPlace = some r → s.run.act = some a →
     ∃ t v, exec (.parkedActivationReturn i false) s = .next t ∧ t.inPlace = none ∧ t.run.act = none ∧
       t.parked = s.parked.eraseIdx i ++ [v] ∧ v.saved.act = a ∧ v.fault = r ∧ v.slot = a.slot ∧ v.arrival = a.arrival) ∧
   (∀ i (s : State) r, s.parked[i]? = none → s.inPlace = some r →
     (∃ t, exec (.parkedActivationReturn i false) s = .next t ∧ t.inPlace = none ∧ t.run = s.run) ∧
     ∃ t, exec (.parkedActivationReturn i true) s = .next t ∧ t.inPlace = none ∧ t.run.act = none ∧
       .programFault r ∈ t.pkg.reports) ∧
   (∀ idx r (s : State), Taken s r → ownTag s idx r → hasRoom s →
     ∃ t, exec (.slotRecordWrite idx r 0) s = .next t ∧ assoc idx t.die.slotTable = some r ∧
       bindEntry r ∈ t.net.binds.toList ∧ (.slotStatus idx 0) ∈ t.pkg.reports) ∧
   (∀ idx r others (s : State), r.valid = true → r.tag ≠ 0xFFFF →
     (s.names r = true → r.part ≠ s.pkg.part →
       exec (.slotRecordWrite idx r others) s = .next (s.report (.slotStatus idx 3))) ∧
     (Taken s r → ¬ownTag s idx r → exec (.slotRecordWrite idx r others) s = .next (s.report (.slotStatus idx 2))) ∧
     (Taken s r → ownTag s idx r → ¬hasRoom s → exec (.slotRecordWrite idx r others) s = .next (s.report (.slotStatus idx 1))) ∧
     (s.names r = false ∨ (Taken s r ∧ ownTag s idx r ∧ hasRoom s) → others ≠ 0 →
       exec (.slotRecordWrite idx r others) s = .next (s.report (.slotStatus idx others)))) ∧
   (∀ idx r others (s : State) o, r.valid = false → s.recordAt idx = some o →
     ∃ t, exec (.slotRecordWrite idx r others) s = .next t ∧ assoc idx t.die.slotTable = some r ∧
       ∀ e ∈ t.net.binds.toList, e.valid = true → e.tag ≠ o.tag))
namespace Sys2Proof.Claims

/-! ### Homes, errors, the package and the fabric (R309 to R338, R421 to R448) -/

/-- The TLB entries of the core. -/
def tlbs (s : State) : List TlbEntry := s.core.itlb ++ s.core.dtlb ++ s.core.tlb

/-- The lowest bit of the hotness counter of a core's misses on a line: Q(i) of its die and half of the die, or REMOTE for another
package (R332). -/
def quadrant (core : CoreNum) (line : Nat) : Nat :=
  if line / 2 ^ 36 = core.toNat / 2 ^ 12 then 7 * (core.toNat / 2 ^ 9 % 8) else 56

/-- Where the table entry at an address lies once a granule has moved (R334). -/
def movedEntry (g f l : Nat) : Nat := if l / 65536 = g then f * 65536 + l % 65536 else l

/-- Add32 of R439 in a window format, and Add of R437 on the element of a window at an address. -/
def windowSum (fmt : Nat) (x y : BitVec 32) : BitVec 32 :=
  if fmt = 9 then x + y
  else BitVec.ofNat 32 (roundF fp32 .rne false (addV .rne (decodeF fp32 x.toNat) (decodeF fp32 y.toNat)).1).1
def elementAdded (fmt : Nat) (m : Memory) (a : Nat) (x : BitVec 32) : Memory :=
  if fmt = 14 then
    m.put (a / 64 * 64) (bytesOf 64 (bfpAdd (m.nat (a / 64 * 64) 64) (a % 64 / 3) (decodeF fp32 x.toNat)))
  else m.put a (bytesOf 4 (windowSum fmt (BitVec.ofNat 32 (m.nat a 4)) x).toNat)

/-- The contributions that an element's home holds (R437 to R439). -/
def heldFor (s : State) (a : Nat) : List Contribution := s.die.contribs.filter (fun c => c.addr == a)

/-- What an accepted contribution of a core to the element at `a` leaves, from `s` (R437 to R439): it waits for its round, or it
completes the round of the two participants; an unordered window changes at most the element, a BFP24 one its block. -/
def Contributed (s t : State) (a core : Nat) (x : BitVec 32) : Prop :=
  (s.orderedWindow a = true → (heldFor s a).length + 1 < (s.window a).n →
    t.die.mem = s.die.mem ∧ ∃ c, t.die.contribs = s.die.contribs ++ [c] ∧ c.addr = a ∧ c.core = core ∧ c.val = x ∧
      c.round = s.closedRounds a + ((heldFor s a).filter (fun d => d.core == core)).length) ∧
  (∀ c, s.orderedWindow a = true → (s.window a).n = 2 → heldFor s a = [c] → c.round = s.closedRounds a → c.core < core →
    t.die.mem = elementAdded (s.window a).fmt.toNat s.die.mem a (windowSum (s.window a).fmt.toNat c.val x) ∧
    heldFor t a = [] ∧ t.closedRounds a = s.closedRounds a + 1) ∧
  (s.orderedWindow a = false → s.MemOk →
    let lo := if (s.window a).fmt = 14 then a / 64 * 64 else a
    let n := if (s.window a).fmt = 14 then 64 else 4
    ∀ b, b < lo ∨ lo + n ≤ b → t.die.mem.get b = s.die.mem.get b)

/-- The lowest-numbered FREE slot. -/
def lowestFree (s : State) (i : BitVec 5) : Prop :=
  s.slot i = Slot.empty ∧ ∀ j : BitVec 5, j.toNat < i.toNat → (s.slot j).st ≠ .free

/-- A wake stands in a slot as a local packet, bound by its tag (R395). -/
def WakeIn (s t : State) (i : BitVec 5) (p : Packet) : Prop :=
  (t.slot i).st = .queued ∧ (t.slot i).bound = s.bindOf p.tag ∧
    (t.slot i).pkt = { p with dest := s.lcore, kind := 0, ts := 0, onCircuit := false, payload := p.payload.take p.len.toNat }

/-- A wake that the core has not seen comes before its kernel is installed (R396). -/
def early (s : State) (ksel : Option (BitVec 4)) : Prop :=
  match ksel with
  | some k => ∀ v ∈ s.net.kernels, v.ksel ≠ k
  | none => s.net.kernels = []

end Sys2Proof.Claims

open Sys2Proof.Claims

/-- R310, R312, R317, R319, R332 to R335, R435: fills and hotness, invalidations, migrations and leases. A miss counts for
the quadrant of the core that asked; an invalidation leaves no TLB entry of the page and no lease of what it mapped; a
migration moves a granule and the frames of its page, with state, rights and mapping. An invalidation reaches the leases of
the granules that the TLBs held and that the tables map now (log entry 79); the codes of an error report, the splitting of a
larger leaf, and a granule that moves whole with its frames are log entries 75 and 77; a recall is the completed recall of
log entry 79. R303, R336, R337, R428, R429: an uncorrectable error poisons its line or its entry, discards a TLB entry, or
retires the activation, whose matrix commands stand (R233), where the replay log has room (R468); a corrected one is counted
for its die and class and changes no value. -/
def Obligations.HomeEvents : Prop :=
  ((∀ l c (s : State), isHbm (64 * l) = false ∨ s.die.cached.contains l = true → exec (.hbmFill l c) s = .next s) ∧
   (∀ l c (s : State), isHbm (64 * l) = true → s.die.cached.contains l = false →
     let q := quadrant c l
     let old := (s.granule (64 * l)).hot
     ∃ t, exec (.hbmFill l c) s = .next t ∧ t.die.mem = s.die.mem ∧ t.run = s.run ∧ t.die.cached.contains l = true ∧
       (t.granule (64 * l)).cap = (s.granule (64 * l)).cap ∧
       (let new := (t.granule (64 * l)).hot
        (new.extractLsb' q 7).toNat = min 127 ((old.extractLsb' q 7).toNat + 1) ∧
        new.getLsbD 63 = (old.getLsbD 63 || decide (126 ≤ (old.extractLsb' q 7).toNat)) ∧
        ∀ k < 63, ¬(q ≤ k ∧ k < q + 7) → new.getLsbD k = old.getLsbD k)) ∧
   (∀ b (s : State), exec (.calderaRefreshStart b) s = .next s ∧ exec (.calderaRefreshEnd b) s = .next s) ∧
   (∀ g (s : State), ∃ t, exec (.hotnessRead g) s = .next t ∧
     t.pkg.reports = s.pkg.reports ++ [.hotness g (s.granule (65536 * g)).hot] ∧ (t.granule (65536 * g)).hot = 0 ∧
     t.die.mem = s.die.mem ∧ t.run = s.run) ∧
   (∀ va (s : State), ∃ t, exec (.firmwareInvalidation va) s = .next t ∧
     (∀ e ∈ tlbs t, s.ofPage va e = false ∧ e ∈ tlbs s) ∧
     (∀ e ∈ t.core.pages, s.ofPage va e = false) ∧
     (∀ e ∈ tlbs s, s.ofPage va e = true → (t.granule e.pa).leases = []) ∧
     (∀ e ∈ s.pageEntries va, (t.granule e.pa).leases = []) ∧ t.die.mem = s.die.mem ∧ t.run = s.run) ∧
   (∀ va kind (s : State), s.run.stall ≠ some (.walk va kind) → ∃ t, exec (.tlbWalk va kind) s = .next t ∧
     t.die.mem = s.die.mem ∧ t.run.ctx = s.run.ctx ∧ t.run.stall = s.run.stall) ∧
   (∀ va kind (s : State) e, s.run.stall = some (.walk va kind) → s.tlbFind va kind = some e →
     ∃ t, exec (.tlbWalk va kind) s = .next t ∧ t.run.stall = none ∧ t.run.ctx = s.run.ctx ∧ t.die.mem = s.die.mem) ∧
   (∀ g f fs (s : State), isHbm (65536 * g) = true → fs.length = (s.frameGranules g).length →
     (∀ p ∈ (g, f) :: (s.frameGranules g).zip fs, p.1 ≠ p.2 ∧ (s.granule (65536 * p.1)).mig = false ∧
       ∃ a, s.leafOf s.die.mem p.1 = some (a, 3)) →
     ∃ t, exec (.migration g f fs) s = .next t ∧
       (∀ p ∈ (g, f) :: (s.frameGranules g).zip fs, (t.granule (65536 * p.1)).mig = true) ∧
       (g, (g, f) :: (s.frameGranules g).zip fs) ∈ t.die.migrating ∧ t.die.mem = s.die.mem ∧ t.run = s.run) ∧
   (∀ g f x (s : State) a, isHbm (65536 * g) = true → s.frameGranules g = [] → g ≠ f → (s.granule (65536 * g)).mig = false →
     s.leafOf s.die.mem g = some (a, 2) → s.MemOk →
     ∃ t, exec (.migration g f [x]) s = .next t ∧ (t.granule (65536 * g)).mig = true ∧
       (∀ b, b / 65536 ≠ x → b < a ∨ a + 16 ≤ b → t.die.mem.get b = s.die.mem.get b)) ∧
   (∀ g (s : State) ms, assoc g s.die.migrating = some ms →
     (∃ t, exec (.migrationCopyComplete g .fault) s = .next t ∧ (∀ p ∈ ms, (t.granule (65536 * p.1)).mig = false) ∧
       t.die.mem = s.die.mem ∧ assoc g t.die.migrating = none) ∧
     ∃ t, exec (.migrationCopyComplete g .uncorrectable) s = .next t ∧ g ∈ t.die.gpoison ∧ t.die.mem = s.die.mem ∧
       (∀ p ∈ ms, (t.granule (65536 * p.1)).mig = false) ∧
       (Report.uncorrectable 0 (BitVec.ofNat 56 (65536 * g)) 0) ∈ t.pkg.reports) ∧
   (∀ g (s : State) f, assoc g s.die.migrating = some [(g, f)] → (∀ k < 1024, s.poisoned (1024 * g + k) = false) →
     s.granuleHeld (65536 * g) = false → f ≠ g → s.MemOk →
     let leaf := (s.leafOf s.die.mem g).map (fun l => movedEntry g f l.1)
     ∃ t, exec (.migrationCopyComplete g .done) s = .next t ∧
       (∀ k < 65536, (∀ l, leaf = some l → 65536 * f + k < l ∨ l + 16 ≤ 65536 * f + k) →
         t.die.mem.get (65536 * f + k) = s.die.mem.get (65536 * g + k)) ∧
       (∀ a, a / 65536 ≠ f → (∀ l, leaf = some l → a < l ∨ l + 16 ≤ a) → t.die.mem.get a = s.die.mem.get a) ∧
       (∀ l, leaf = some l → t.die.mem.nat l 16 / 2 ^ 40 % 2 ^ 48 = f % 2 ^ 48) ∧ (∀ e ∈ tlbs t, e.pa / 65536 ≠ g) ∧
       (t.granule (65536 * f)).cap = (s.granule (65536 * g)).cap ∧ (t.granule (65536 * f)).mig = false) ∧
   (∀ g (s : State), s.granuleHeld (65536 * g) = true → exec (.leaseRecall g) s = .next s) ∧
   (∀ g (s : State), s.granuleHeld (65536 * g) = false → ∃ t, exec (.leaseRecall g) s = .next t ∧
     (t.granule (65536 * g)).recalled = (s.granule (65536 * g)).leases ∧
     (∀ c, (BitVec.ofNat 22 (((s.physOf c.toNat).getD 0).toNat / 2 ^ 12)).toNat ≠ (65536 * g) / 2 ^ 42 →
       t.leaseOk c (65536 * g) = false) ∧ t.die.mem = s.die.mem ∧ t.run = s.run) ∧
   (∀ p (s : State), ∃ t, exec (.leaseHolderFailed p) s = .next t ∧ t.pkg.failed = s.pkg.failed ++ [p] ∧
     t.pkg.reports = s.pkg.reports ++ [.leaseFailed p] ∧ t.die.mem = s.die.mem ∧ t.run = s.run)) ∧
  ((∀ a (s : State), exec (.uncorrectableError (.line a)) s = .next { s with die := { s.die with
     poison := insertNat (a / 64) s.die.poison } }) ∧
   (∀ code i (s : State), code ≠ 5 → s.run.act ≠ none → s.replayStalls .abort = false → ∃ t, exec (.uncorrectableError (.unit code i)) s = .next t ∧
     (s.run.mx.queue = [] → t.run.act = none) ∧ (s.run.mx.queue ≠ [] → t.run.retiring = true ∧ t.run.mx.queue = s.run.mx.queue) ∧
     t.run.log = [] ∧ t.die.mem = s.die.mem ∧ (Report.uncorrectable code i s.run.ctx.pc) ∈ t.pkg.reports) ∧
   (∀ i (s : State), exec (.uncorrectableError (.unit 5 i)) s = .next s) ∧
   (∀ g (s : State), s.run.act = none ∨ s.replayStalls .abort = false → ∃ t, exec (.uncorrectableError (.capTable g)) s = .next t ∧ g ∈ t.die.gpoison ∧ t.die.mem = s.die.mem ∧
     (Report.uncorrectable 4 (BitVec.ofNat 56 (65536 * g)) s.run.ctx.pc) ∈ t.pkg.reports) ∧
   (∀ (s : State), ∃ t, exec (.uncorrectableError .tlb) s = .next t ∧ t.run = s.run ∧ t.die = s.die ∧
     (∀ e ∈ tlbs t, e ∈ tlbs s) ∧ (tlbs s ≠ [] → (tlbs t).length < (tlbs s).length)) ∧
   (∀ (s : State) e es, e.poisoned = false →
     (s.net.inPrev = e :: es → exec (.uncorrectableError (.linkEntry false)) s =
       .next { s with net := { s.net with inPrev := { e with poisoned := true } :: es } }) ∧
     (s.net.inNext = e :: es → exec (.uncorrectableError (.linkEntry true)) s =
       .next { s with net := { s.net with inNext := { e with poisoned := true } :: es } })) ∧
   (∀ die i (s : State), i < 32 → ∃ t, exec (.uncorrectableError (.slot die i)) s = .next t ∧
     (t.barSlot die (BitVec.ofNat 6 i)).poisoned = true ∧ t.run = s.run ∧ t.die.mem = s.die.mem) ∧
   (∀ c (die : BitVec 2) (s : State), ∃ t, exec (.correctableError c die) s = .next t ∧ t.run.ctx = s.run.ctx ∧ t.die = s.die ∧
     (let old := (s.pkg.soft[die.toFin])[softIndex c]
      (t.pkg.soft[die.toFin])[softIndex c] = if old = 0xFFFFFFFF then 0xFFFFFFFF else old + 1) ∧
     ∀ d k, d ≠ die.toFin ∨ k ≠ softIndex c → (t.pkg.soft[d])[k] = (s.pkg.soft[d])[k]))

/-- R334, R336, R421 to R424, R429, R430, R457, R465: the boot's steps; what the host may read and write, and that its writes wait for a
granule that is being copied, later ones behind them (host accesses are checked by the access tables alone: log entry 94), and that one to a
granule that is poisoned as a whole is reported; what a mailbox sets (the layout is the model's: log entry 93); the attestation report; the
management port (its frame kinds and the image that is stored for the next boot: log entry 76); in recovery nothing but the recovery protocol
is served. -/
def Obligations.PackageEvents : Prop :=
  (∀ r (s : State), s.pkg.booted = false → s.pkg.powered = true → r.romOk = true → r.imageOk = true → r.trainOk = true →
    r.fabricOk = true → ∃ t, exec (.boot r) s = .next t ∧ t.pkg.booted = true ∧ t.pkg.image = s.pkg.stored.getD r.image ∧
      t.pkg.number = r.pkg ∧ (∀ a, t.die.mem.get a = 0) ∧ t.pkg.reports = s.pkg.reports ++ [.ready]) ∧
  (∀ r (s : State), s.pkg.booted = false → s.pkg.powered = true → r.romOk = false ∨ r.imageOk = false →
    ∃ t, exec (.boot r) s = .next t ∧ t.pkg.booted = false ∧ t.pkg.reports = s.pkg.reports ++ [.recovery] ∧
      t.die = s.die) ∧
  (∀ r (s : State), s.pkg.booted = false → s.pkg.powered = true → r.romOk = true → r.imageOk = true →
    r.trainOk = false ∨ r.fabricOk = false →
    ∃ t, exec (.boot r) s = .next t ∧ t.pkg.booted = false ∧ t.pkg.reports = s.pkg.reports ++ [.leftOut]) ∧
  (∀ n (s : State), n.length = 32 → s.inRecovery = false → ∃ t body, exec (.attestationRequest n) s = .next t ∧
    t.pkg.reports = s.pkg.reports ++ [.attestation (body ++ (List.range 3309).map (Config.mlDsaSign body))] ∧ body.length = 228 ∧
    body.take 36 = [1, 0, 0, 0] ++ n ∧ (s.pkg.images = [] → body.drop 164 = List.replicate 64 0) ∧ t.run = s.run ∧
    t.die = s.die) ∧
  (∀ (r : HostAccess) (s : State), r.unit = 2 → r.addr + r.len ≤ 2 ^ 30 →
    let pa := s.pkg.number.toNat * 2 ^ 42 + s.pkg.barBase + r.addr
    (s.hostGranted hostBarMaster r pa = false →
      exec (.hostBarAccess r) s = .next (s.report .unsupportedRequest)) ∧
    (s.hostGranted hostBarMaster r pa = true → r.write = false →
      (∀ k < (pa % 64 + r.len + 63) / 64, s.poisoned (pa / 64 + k) = false) →
      exec (.hostBarAccess r) s = .next (s.report (.hostData (s.die.mem.bytes pa r.len))))) ∧
  (∀ (r : HostAccess) (s : State), 8 ≤ r.unit ∨ Config.calBase < r.addr + r.len →
    exec (.hostDma r) s = .next (s.report .unsupportedRequest)) ∧
  (∀ (r : HostAccess) (s : State), r.unit < 8 → r.addr + r.len ≤ Config.calBase → r.write = true →
    let pa := s.pkg.number.toNat * 2 ^ 42 + r.addr
    let granules := (List.range ((pa % 65536 + r.len + 65535) / 65536)).map (fun k => pa / 65536 + k)
    s.hostGranted (dmaMaster r.unit) r pa = true →
    ((∀ g ∈ granules, (s.granule (65536 * g)).mig = false) → s.pkg.hostWrites = [] →
      (∀ g ∈ granules, g ∉ s.die.gpoison) → ∃ t, exec (.hostDma r) s = .next t ∧ t.die.mem = s.die.mem.apply (ByteMap.put [] pa (r.data.take r.len))) ∧
    (∀ g, (∀ k ∈ granules, (s.granule (65536 * k)).mig = false) → s.pkg.hostWrites = [] →
      granules.find? s.die.gpoison.contains = some g →
      exec (.hostDma r) s = .next (s.report (.poison (BitVec.ofNat 64 (65536 * g)) 0))) ∧
    ((∃ g ∈ granules, (s.granule (65536 * g)).mig = true) ∨ s.pkg.hostWrites ≠ [] →
      exec (.hostDma r) s = .next { s with pkg := { s.pkg with hostWrites := s.pkg.hostWrites ++ [(r, pa)] } })) ∧
  (∀ (r : HostAccess) (s : State), r.unit = 0 → r.addr + r.len ≤ 2 ^ 26 → r.write = true → s.inRecovery = false →
    (∀ on, r.req = some (.hold on) → exec (.hostBarAccess r) s = .next { s with dbg := { s.dbg with hold := on } }) ∧
    (∀ en cap, r.req = some (.trace en cap) →
      exec (.hostBarAccess r) s = .next { s with dbg := { s.dbg with enables := en, traceCap := cap } }) ∧
    (∀ rot (a b : List Word), r.req = some (.counters [a, b] rot) → ∃ t, exec (.hostBarAccess r) s = .next t ∧ t.core.pmOn = true ∧
      t.core.pmActive = 0 ∧ t.core.pmctl.extractLsb' 0 32 = rot ∧ t.core.pmctl.extractLsb' 32 2 = 1 ∧ t.run = s.run ∧ t.die = s.die) ∧
    (r.req = none → let b := natOfBytes (r.data.take r.len)
      exec (.hostBarAccess r) s = .next (if b % 2 ^ 30 = 0 ∧ b < Config.calBase then { s with pkg := { s.pkg with barBase := b } }
        else s.report .unsupportedRequest))) ∧
  (∀ image (s : State), s.inRecovery = false → exec (.managementEthernetFrame (.firmwareUpdate image)) s =
    .next { s with pkg := { s.pkg with stored := some image } }) ∧
  (∀ image (s : State), s.pkg.booted = false → exec (.managementEthernetFrame (.recovery image)) s =
    .next { s with pkg := { s.pkg with stored := some image } }) ∧
  (∀ (s : State), s.inRecovery = false → exec (.managementEthernetFrame .telemetry) s = .next (s.report .telemetry)) ∧
  (∀ (s : State), s.inRecovery = false → ∃ t, exec (.managementEthernetFrame .errorReport) s = .next t ∧
    t.pkg.soft = Vector.replicate 4 (Vector.replicate 6 0) ∧
    t.pkg.reports = s.pkg.reports ++ [.softErrors (s.pkg.soft.toList.flatMap (fun d => d.toList.map (·.toNat)))] ∧ t.run = s.run ∧ t.die = s.die) ∧
  (∀ (s : State), s.pkg.booted = false → s.pkg.bootStep = 1 ∨ s.pkg.bootStep = 2 →
    (∀ n, exec (.attestationRequest n) s = .next s) ∧
    (∀ r : HostAccess, r.unit = 0 ∨ r.unit = 2 → exec (.hostBarAccess r) s = .next (s.report .unsupportedRequest)) ∧
    (∀ r, exec (.hostDma r) s = .next (s.report .unsupportedRequest)) ∧
    exec (.managementEthernetFrame .telemetry) s = .next s ∧ exec (.managementEthernetFrame .errorReport) s = .next s ∧
    ∀ image, exec (.managementEthernetFrame (.firmwareUpdate image)) s = .next s)

/-- R434, R437 to R439, R441, R443 to R445, R448: contributions to a reducing window, one in deterministic mode that waits
for the quantum's end, and one that a LINKF has named and that runs again without a second effect (R449); its query and its
arm; wakes; the signature's records. That a wake takes the lowest of the FREE slots is the model's (log entry 50), as is the
order of an ARM's statuses (log entry 81). R395, R396, R413, R431, R433, R434, R436, R439, R444: a wake is taken once, waits
before its kernel's install (known by the kernel that the launch names: log entry 83), for a slot, or with a partition that
has left; contributions of other cores are added, held until the quantum ends, or refused; a numbered request is applied
exactly once (log entry 83); a request that is never answered ends in LINKF at the instruction that waits for it, counted
while no other instruction has retired (log entry 84). -/
def Obligations.FabricResults : Prop :=
  ((∀ i d v n, (match i with
       | Instr.redst d a i => some (d, (fun (s : State) => s.rd a + i.signExtend 64), 4)
       | .redstLit d a l => some (d, (fun (s : State) => s.rd a + l), 12)
       | _ => none) = some (d, v, n) → ∀ (s : State) s' l, s.checkpointAck = .ok s' →
     (∀ bad, s'.access 0 (v s) bad 1 askReduce noCheck (fun e => need (windowFmt e.fmt) (.trap cFMTF (v s))) = .ok l) →
     (l.onAd && (s'.fwd || s'.rev)) = false → windowAligned (BitVec.ofNat 4 l.fmt) (v s) = true →
     s'.participates l.home s.lcore.toNat = true → s'.poisonCheck l.home 4 = .ok () → (s'.granule l.home).mig = false →
     s'.roundFull l.home s.lcore.toNat = false → s'.run.redst = none → (∀ u ∈ s'.run.lost, u.pc ≠ s.run.ctx.pc) →
     (s'.orderedWindow l.home = true ∨ s'.det = false →
       ∃ t, exec i s = .next t ∧ s.RetiredAt t (s.run.ctx.pc + BitVec.ofNat 64 n) ∧ (∀ r, t.rd r = s.rd r) ∧
         Contributed s' t l.home s.lcore.toNat ((s.rd d).setWidth 32)) ∧
     (s'.orderedWindow l.home = false → s'.det = true → ∃ t, exec i s = .next t ∧ t.run.stall = some .quantum ∧ t.run.ctx = s'.run.ctx ∧
       t.die = s'.die ∧ t.run.redst = some ⟨l.home, (s.rd d).setWidth 32, false, false⟩)) ∧
   (∀ i d a n, (match i with
       | Instr.redst d a _ => some (d, a, 4)
       | .redstLit d a _ => some (d, a, 12)
       | _ => none) = some (d, a, n) → ∀ (s : State) s', s.checkpointAck = .ok s' →
     (∃ u ∈ s'.run.lost, u.pc = s.run.ctx.pc ∧ u.sent = none) →
     ∃ t, exec i s = .next t ∧ s.RetiredAt t (s.run.ctx.pc + BitVec.ofNat 64 n) ∧ t.die.mem = s'.die.mem ∧
       t.die.contribs = s'.die.contribs ∧ t.run.lost.length + 1 = s'.run.lost.length) ∧
   (∀ d a (s : State) h, s.rd d = 0 → (∀ w, s.redqPlace w (s.rd a) = .ok h) →
     ∃ t v, exec (.redq d a) s = .next t ∧ s.RetiredAt t (s.run.ctx.pc + 4) ∧ WroteReg s t d v ∧ t.die = s.die ∧
       (s.inWindow h = false → v = 1) ∧ (s.inWindow h = true → v.extractLsb' 0 8 = 0 ∧
         v.extractLsb' 8 8 = (if s.orderedWindow h then 1 else 0) ∧ v.extractLsb' 32 8 = 0 ∧
         v.extractLsb' 16 16 = BitVec.ofNat 16 (min ((heldFor s h).map (·.count)).sum 65535) ∧
         v.extractLsb' 40 24 = BitVec.ofNat 24 (if s.orderedWindow h then s.closedRounds h else 0))) ∧
   (∀ d a (s : State) s' h, (s.rd d).extractLsb' 0 2 = 1 → s.checkpointAck = .ok s' →
     (∀ w, s'.redqPlace w (s.rd a) = .ok h) →
     let first := ((s.rd d).extractLsb' 30 34).toNat
     let n := ((s.rd d).extractLsb' 2 28).toNat + 1
     ∃ t v, exec (.redq d a) s = .next t ∧ s.RetiredAt t (s.run.ctx.pc + 4) ∧ WroteReg s t d v ∧ t.die.mem = s'.die.mem ∧
       (s'.inWindow h = false → v = 1) ∧
       (s'.inWindow h = true → s'.orderedWindow h = false → v.extractLsb' 0 8 = 4) ∧
       (s'.orderedWindow h = true → (∃ c ∈ s'.die.contribs, c.addr / 65536 = h / 65536) → v.extractLsb' 0 8 = 2) ∧
       (s'.orderedWindow h = true → (∀ c ∈ s'.die.contribs, c.addr / 65536 ≠ h / 65536) →
         (s.ncores < first + n → v.extractLsb' 0 8 = 3) ∧
         (first + n ≤ s.ncores → v.extractLsb' 0 8 = 0 ∧ (t.window h).first = first ∧ (t.window h).n = n ∧
           t.closedRounds h = 0))) ∧
   (∀ a (s : State) s' p, (s.rd a).toNat < 2 ^ 18 → (s.rd a).toNat % 16 = 0 →
     let n := 16 + 4 * p.len.toNat
     s.poisonCheck (s.spA (s.rd a).toNat) 16 = .ok () → s.wakeRecord (s.rd a).toNat = some p →
     (∀ k < ((s.rd a).toNat % 64 + n + 63) / 64, s.poisonCheck (s.spA ((s.rd a).toNat / 64 * 64 + 64 * k)) 1 = .ok ()) →
     (s.markRead (s.rd a).toNat n).checkpointAck = .ok s' → (∀ u ∈ s'.run.lost, u.pc ≠ s.run.ctx.pc) →
     ∃ t, exec (.wake a) s = .next t ∧ s.RetiredAt t (s.run.ctx.pc + 4) ∧ (∀ r, t.rd r = s.rd r) ∧
       t.core.wakes = s.core.wakes + 1 ∧ t.net.seenWakes.contains (s.lcore, s.core.wakes) = true ∧
       ∀ i, lowestFree s' i → s'.net.kernels ≠ [] → s'.holdsArrivals = false → noStreams s' = true →
         (∀ q ∈ s'.net.waiting ++ s'.net.flight, q.src = s.lcore → q.kind ≠ 3) → s'.net.seenWakes.contains (s.lcore, s.core.wakes) = false →
         WakeIn s' t i p) ∧
   (∀ a (s : State) s', s.checkpointAck = .ok s' → (s.rd a).toNat < 2 ^ 18 → (s.rd a).toNat % 64 = 0 →
     s'.run.ctx.sigk < 65536 → s'.poisonCheck (s'.spA (s.rd a).toNat) 64 = .ok () →
     ∃ t, exec (.sigx a) s = .next t ∧ s.RetiredAt t (s.run.ctx.pc + 4) ∧ (∀ r, t.rd r = s.rd r) ∧
       t.run.ctx.sigk = s'.run.ctx.sigk + 1 ∧ t.pkg.sigRecords = s'.pkg.sigRecords ++
         [(s.lcore, s'.run.ctx.sigk, s'.seenBytes (s'.spA (s.rd a).toNat) 64)])) ∧
  ((∀ p k x (s : State), s.net.seenWakes.contains (p.src, k) = true → exec (.wakePlacement p k s.pkg.part x) s = .next s) ∧
   (∀ p k x (s : State), s.net.seenWakes.contains (p.src, k) = false → ∃ t, exec (.wakePlacement p k s.pkg.part x) s = .next t ∧
     t.net.seenWakes.contains (p.src, k) = true ∧
     (early s x → t.net.early = s.net.early ++ [(x, p)] ∧ t.net.slots = s.net.slots) ∧
     (¬early s x → p.src ≠ s.lcore → s.holdsArrivals = true ∨ (∃ q ∈ s.net.waiting, q.src = p.src ∧ q.kind = 3) ∨
         (∀ i, (s.slot i).st ≠ .free) →
       t.net.waiting = s.net.waiting ++ [{ p with kind := 3 }] ∧ t.net.slots = s.net.slots) ∧
     (∀ i, ¬early s x → lowestFree s i → s.holdsArrivals = false → noStreams s = true → p.len.toNat ≤ 28 →
       (∀ q ∈ s.net.waiting ++ s.net.flight, q.src = p.src → q.kind ≠ 3) → WakeIn s t i p)) ∧
   (∀ p k x part (s : State), part ≠ s.pkg.part → ∃ t, exec (.wakePlacement p k part x) s = .next t ∧ t.net = s.net ∧
     t.run = s.run ∧ t.die = s.die ∧
     ∀ v ∈ s.pkg.switched, v.part = part → ∃ u ∈ t.pkg.switched, u.part = part ∧ u.run = v.run ∧
       u.net.seenWakes.contains (p.src, k) = true) ∧
   (∀ c a x (s : State), s.inWindow a = true → s.participates a c.toNat = true → s.roundFull a c.toNat = false →
     (s.granule a).mig = false → s.leaseOk c a = true →
     (s.orderedWindow a = true ∨ s.det = false →
       ∃ t, exec (.reduceContribution c a x) s = .next t ∧ t.run = s.run ∧ Contributed s t a c.toNat x) ∧
     (s.orderedWindow a = false → s.det = true → exec (.reduceContribution c a x) s =
       .next { s with die := { s.die with reduces := s.die.reduces ++ [(a, c, x)] } })) ∧
   (∀ c num (s : State), s.pkg.filter.any (fun f => f.1 == s.requester c && f.2.1 == num) = true →
     (∀ p, p.src = c → p.kind ≠ 3 → p.kind ≠ 4 → exec (.packetPlacement p (some num)) s = .next s) ∧
     (∀ r, r.src = c → exec (.setupFlit r (some num)) s = .next s) ∧
     (∀ a x, exec (.reduceContribution c a x (some num)) s = .next s) ∧
     (∀ r, r.core = c → exec (.heldRequest r (some num)) s = .next s ∧ exec (.dropNotice r (some num)) s = .next s ∧
       ∀ d v, exec (.applyNotice r d v (some num)) s = .next s)) ∧
   (∀ r num (s : State), s.pkg.filter.any (fun f => f.1 == s.requester r.core && f.2.1 == num) = false →
     ∃ t, exec (.dropNotice r (some num)) s = .next t ∧ t.pkg.filter.any (fun f => f.1 == s.requester r.core && f.2.1 == num) = true) ∧
   (∀ c a x (s : State), s.inWindow a = false ∨ s.participates a c.toNat = false ∨ s.roundFull a c.toNat = true ∨
       (s.granule a).mig = true ∨ s.leaseOk c a = false →
     exec (.reduceContribution c a x) s = .next s) ∧
   (∀ src num r (s : State), s.pkg.filter.any (fun f => f.1 == src && f.2.1 == num) = true →
     exec (.fabricRequest src num r) s = .next s) ∧
   (∀ src num r (s : State), s.pkg.filter.any (fun f => f.1 == src && f.2.1 == num) = false → s.delays r = false →
     ∃ t, exec (.fabricRequest src num r) s = .next t ∧ t.die = (s.serve r).1.die ∧
       t.pkg.filter.any (fun f => f.1 == src && f.2.1 == num && f.2.2 == (s.serve r).2) = true) ∧
   (∀ r (s : State), s.delays r = false → s.refuses r = false → s.readsPoison r = false → r.order = none →
     (∀ n, r.op = .load n → s.serve r = (s, s.die.mem.bytes r.addr n)) ∧
     (∀ data, r.op = .store data ∨ r.op = .strongStore data →
       (s.serve r).1.die.mem = s.die.mem.apply (ByteMap.put [] r.addr data) ∧ (s.serve r).2 = [])) ∧
   (∀ l (s : State), exec (.flitCrcFailure l) s = .next s) ∧
   (∀ pkg kind (s : State), s.pkg.resends = [] → ∃ t, exec (.fabricResendTimeout pkg kind) s = .next t ∧ t.run = s.run ∧
     t.pkg.resends = [(pkg, kind, s.core.retired, 1)] ∧ t.die = s.die) ∧
   (∀ pkg kind (s : State), s.pkg.resends = [(pkg, kind, s.core.retired, 7)] → s.run.act ≠ none → s.core.halt = none →
     s.run.retiring = false → s.run.parking = none → s.contributed = false → s.run.sent = none →
     s.Trappable → ∃ t, exec (.fabricResendTimeout pkg kind) s = .next t ∧ t.run.ctx.pc = s.core.tvec ∧
       t.run.ctx.tcause = BitVec.ofNat 6 cLINKF ∧ t.run.ctx.tval = BitVec.ofNat 64 (pkg.toNat * 2 ^ 42 + kind.toNat * 2 ^ 32 + 8) ∧
       t.run.ctx.priv = true ∧ t.die.mem = s.die.mem ∧ t.run.commit = none ∧
       (s.run.answer = none → t.run.ctx.epc = s.run.ctx.pc &&& ~~~3#64) ∧
       (∀ u, s.run.answer = some u → u.kind = kind → u.since = s.core.retired →
         t.run.ctx.epc = u.pc &&& ~~~3#64 ∧ t.run.owed = none ∧ u ∈ t.run.lost)) ∧
   (∀ l n (s : State), s.pkg.linkErrors = [(l, 7)] → ∃ t, exec (.onDieLinkCrcFailure l n) s = .next t ∧
     t.pkg.retiredLinks = s.pkg.retiredLinks ++ [l] ∧ (n = false → t.pkg.reports = s.pkg.reports ++ [.linkRetired l] ∧
       t.run = s.run)) ∧
   (∀ l n (s : State), s.pkg.linkErrors = [] → ∃ t, exec (.onDieLinkCrcFailure l n) s = .next t ∧
     t.pkg.linkErrors = [(l, 1)] ∧ t.run = s.run ∧ t.die = s.die))

namespace Sys2Proof.Claims

/-- An entry of the replay log of a source at this LIC (R467); the number of a source is the model's choice (log entry 9). -/
def Entry (s : State) (k : ReplaySource) (e : BitVec 128) : Prop :=
  e.extractLsb' 0 8 = BitVec.ofNat 8 k.code ∧ e.extractLsb' 8 56 = BitVec.ofNat 56 s.run.ctx.lic

end Sys2Proof.Claims

/-- R457 to R468: `mark` makes a record; a tick of the present die cycle, once, rotations when they are due, stops, which a halted core
meets as it resumes, breaks, PATCH (its address is a virtual one: log entry 99) with its completion, and the drain of the replay log. In
replay mode the next entry of the log for this LIC is the value that a read of CYCLE yields, or an abort that comes to pass as its cause
says (log entry 130; the codes of the log's sources: log entry 9). -/
def Obligations.DebugResults : Prop :=
  (∀ d i (s : State), ∃ t, exec (.mark d i) s = .next t ∧ s.RetiredAt t (s.run.ctx.pc + 4) ∧ (∀ r, t.rd r = s.rd r) ∧
    Ctx.OnlyScalars s.run.ctx t.run.ctx 0 ∧ s.KeptButDebug t ∧
    (s.dbg.enables.getLsbD kMARK = true → s.dbg.trace.length < s.dbg.traceCap → s.run.act ≠ none →
      ∃ r ∈ t.dbg.trace, r.body = s.markBody (s.rd d) i)) ∧
  (∀ o (s : State), s.dbg.gperiod ≠ 0 → s.cycle.toNat % s.dbg.gperiod ≠ 0 → exec (.geyserTick o) s = .next s) ∧
  (∀ o (s : State), s.cycle.toNat ≠ s.dbg.gdone * s.dbg.gperiod → exec (.geyserTick o) s = .next s) ∧
  (∀ o (s : State), s.dbg.gperiod ≠ 0 → s.cycle.toNat = s.dbg.gdone * s.dbg.gperiod → ∃ t, exec (.geyserTick o) s = .next t ∧
    t.dbg.gticks = s.dbg.gticks + 1 ∧ t.dbg.gdone = s.dbg.gdone + 1 ∧ t.run = s.run ∧ t.core = s.core ∧ t.die = s.die) ∧
  (∀ (s : State), s.core.pmOn = false ∨ s.core.rotatePeriod = 0 ∨ s.core.pmLeft ≠ 0 → exec .counterRotate s = .next s) ∧
  (∀ (s : State), s.core.pmOn = true → s.core.rotatePeriod ≠ 0 → s.core.pmLeft = 0 → ∃ t, exec .counterRotate s = .next t ∧ t.run = s.run ∧ t.die = s.die ∧
    t.core.pmActive = (if s.core.pmActive.toNat < (s.core.pmctl.extractLsb' 32 2).toNat then s.core.pmActive + 1 else 0)) ∧
  (∀ (s : State), s.core.halt ≠ some .stop → s.core.halt ≠ none ∨ s.run.act ≠ none →
    exec (.debugStop false) s = .next { s with core := { s.core with stopping := true } }) ∧
  (∀ (s : State), s.core.halt = none → s.run.act = none → ∃ t, exec (.debugStop false) s = .next t ∧
    t.core.halt = some .stop ∧ t.die = s.die) ∧
  (∀ (s : State), s.core.halt ≠ some .stop → s.pkg.thermalHold = false → s.core.stopping = true → s.run.act ≠ none →
    (s.run.retiring = false → s.run.parking = none → s.run.sent = none → s.contributed = false →
      ∃ t, exec (.debugStop true) s = .next t ∧ t.core.halt = some .stop ∧ t.run.ctx.pc = s.run.snap.pc ∧
        t.run.ctx.s = s.run.snap.s ∧ t.run.log = [] ∧ t.die.mem = s.die.mem) ∧
    (s.run.retiring = true → s.run.stall ≠ some .speculation → s.run.stall ≠ some .idle →
      ∃ t, exec (.debugStop true) s = .next t ∧ t.core.halt = some .stop ∧ t.run.retiring = true ∧ t.run.ctx = s.run.ctx ∧
        t.die = s.die)) ∧
  (∀ (s : State), s.core.halt = some .stop → ∃ t, exec .debugResume s = .next t ∧ t.core.halt = none ∧
    t.run.ctx = s.run.ctx ∧ t.die.mem = s.die.mem) ∧
  (∀ (s : State), s.core.halt = some .brk → ∃ t, exec .breakResume s = .next t ∧ t.core.halt = none ∧
    t.run.ctx = s.run.ctx ∧ t.core.inval = [] ∧ t.die.mem = s.die.mem ∧
    (∀ c ∈ t.core.icache, c.addr / 64 ≠ s.run.ctx.pc.toNat / 64 ∧ s.core.inval.contains (c.addr / 64) = false)) ∧
  (∀ a ws (s : State) e, a % 4 = 0 → 1 ≤ ws.length → a % 64 + 4 * ws.length ≤ 64 →
    s.walkEntry (BitVec.ofNat 64 a) = .ok e →
    ∃ t, exec (.patch a ws) s = .next t ∧ t.die.mem = s.die.mem.apply (ByteMap.put [] (e.physical (BitVec.ofNat 64 a))
      (ws.flatMap (fun w => bytesOf 4 w.toNat))) ∧ a / 64 ∈ t.core.inval ∧
      t.dbg.patches = s.dbg.patches ++ [a / 64] ∧
      (s.speculative = false ∨ (s.run.readTags.contains (e.physical (BitVec.ofNat 64 a) / 64) = false ∧ s.run.deps = []) →
        t.run = s.run)) ∧
  (∀ (s : State) l ls, s.dbg.patches = l :: ls → s.movePatches = s ∨
    s.movePatches = State.report { s with dbg := { s.dbg with patches := ls } } (.patchDone l)) ∧
  (∀ (s : State), ∃ t, exec .replayLogDrain s = .next t ∧ t.dbg.replay = [] ∧ t.dbg.replayOff = false ∧
    t.pkg.reports = s.pkg.reports ++ [.replay s.dbg.replay] ∧ t.run.ctx = s.run.ctx ∧ t.die = s.die) ∧
  (∀ d (s : State) e rest, s.dbg.replayMode = true → s.dbg.replay = e :: rest → Entry s .cycle e →
    ∃ t, exec (.csrr d 0x020) s = .next t ∧ s.RetiredAt t (s.run.ctx.pc + 4) ∧ WroteReg s t d (e.extractLsb' 64 64) ∧
      t.dbg.replay = rest) ∧
  (∀ (s : State) e rest a, s.dbg.replayMode = true → s.dbg.replay = e :: rest → Entry s .abort e → s.takesLinkf = true →
    s.pkg.linkf = none → s.run.late = none → s.run.act = some a →
    let cause := (e.extractLsb' 64 64).toNat
    ∃ t, s.otherTurn = some (.next t) ∧ t.run.log = [] ∧ t.die.mem = s.die.mem ∧ t.dbg.replay = rest ∧
      (cause = cORDABORT ∨ cause = cCAPF → t.run.act = some a ∧ t.run.ctx.pc = s.run.snap.pc ∧ t.run.ctx.s = s.run.snap.s) ∧
      (cause = cPAGEF ∨ cause = cPAGEF2 → s.run.mx.queue = [] → s.parked.length < 8 →
        t.run.act = none ∧ ∃ v, t.parked = s.parked ++ [v] ∧ v.saved.act = a ∧ v.slot = a.slot) ∧
      (cause ≠ cORDABORT → cause ≠ cCAPF → cause ≠ cPAGEF → cause ≠ cPAGEF2 → s.run.mx.queue = [] →
        t.run.act = none ∧ t.parked = s.parked))

namespace Sys2Proof.Claims

/-- The bytes of words, the least significant byte of each first (R4, R37). -/
def wordBytes (ws : List (BitVec 32)) : List Byte := ws.flatMap (fun w => bytesOf 4 w.toNat)

/-- A double trap of a cause (R124, R116): its report goes to the firmware, the log is dropped, and the activation retires without
restart, or is held as retiring while matrix commands stand (R233); no byte of memory changes and nothing retires. -/
def DoubleTraps (s t : State) (c : Nat) (v : Word) : Prop :=
  (s.run.mx.queue = [] → t.run.act = none) ∧
    (s.run.mx.queue ≠ [] → t.run.retiring = true ∧ t.run.mx.queue = s.run.mx.queue) ∧ t.run.log = [] ∧
    t.die.mem = s.die.mem ∧ t.core.retired = s.core.retired ∧
    Report.doubleTrap (BitVec.ofNat 6 c) v s.run.ctx.pc ∈ t.pkg.reports

/-- The causes of R125 that instructions raise without an operand in memory: `trap`, `bkpt`, an invalid word, a misaligned jump and
a privileged instruction at user level. -/
def raises (i : Instr) (s : State) : Option (Nat × Word) :=
  match i with
  | .trap n => some (0x13, n.setWidth 64)
  | .bkpt n => if s.dbg.hold = true ∧ 0x7F00 ≤ n.toNat then none else some (0x12, n.setWidth 64)
  | .nonInstruction w none => some (0x01, w.setWidth 64)
  | .nonInstruction w (some b) => some (0x02, (b ++ w).setWidth 64)
  | .eret => if s.run.ctx.priv then none else some (0x18, 0x1B4)
  | .csrr _ c => if readable c s.run.ctx.priv then none else some (0x18, csrWord i)
  | i => match jumpForm i, csrForm i with
    | some v, _ => if (v s).extractLsb' 0 2 = 0 then none else some (0x17, v s)
    | none, some (c, _) => if writable c s.run.ctx.priv then none else some (0x18, csrWord i)
    | none, none => none

/-- An instruction of the Kelvel set: neither an event nor a word that is none. -/
def isInstruction (i : Instr) : Bool :=
  match i with
  | .nonInstruction _ _ => false
  | i => !(encode i).isEmpty

end Sys2Proof.Claims

open Sys2Proof.Claims

/-- R37, R38, R59, R161, R407: in a turn in which the core issues, the words at the PC that decode to `i` run `i`, and nothing else, at
the state that the turn leaves, with the words in the instruction cache; a pre-emption that came within the instruction then halts the
core. An event that stands next among the inputs comes to pass instead, and a fetch that fails raises its exception. -/
def Obligations.StepRunsDecoded : Prop :=
  (∀ (s : State) a, s.pkg.powered = true → s.inputs = [] → let u := s.turn
    u.held = false → u.run.act = some a → u.otherTurn = none →
    (∀ ws i, u.fetch = .ok ws → decodeFetched ws = .ok i →
      (u.core.stopAt = none → step s = exec i (u.cacheWords u.run.ctx.pc ws)) ∧
      (∀ k t, u.core.stopAt = some k → exec i (u.cacheWords u.run.ctx.pc ws) = .next t →
        step s = .next t.settlePreempt ∧ (t.core.halt = none → t.core.stopAt ≠ none →
          t.settlePreempt.core.halt = some .preempt))) ∧
    (∀ e, u.fetch = .error e → u.core.stopAt = none → step s = .next (u.raiseExc (u.run.ctx.pc + 4) e))) ∧
  (∀ (s : State) e rest, s.pkg.powered = true → s.inputs = some e :: rest → step s = exec e { s with inputs := rest })

/-- R41 to R48, R56, R59: words of the encoding chapter's examples decode to the instructions that they stand for. -/
def Obligations.ExampleWords : Prop :=
  decode (wordBytes [0x038C2800]) = .ok (.add 5 6 7, []) ∧
  decode (wordBytes [0xFE8C2880]) = .ok (.addi 5 6 509, []) ∧
  decode (wordBytes [0xFFFE189C]) = .ok (.li 3 0x7FFF, []) ∧
  decode (wordBytes [0x0000189D, 0x789ABCDE, 0x00123456]) = .ok (.liLit 3 0x00123456789ABCDE, []) ∧
  decode (wordBytes [0x20082A18]) = .ok (.ld64 5 4 0x40, []) ∧
  decode (wordBytes [0x20082A50]) = .ok (.lds64 5 4 0x40, []) ∧
  decode (wordBytes [0xFFFA4988]) = .ok (.bcNe 9 0x7FFD, []) ∧
  decode (wordBytes [0x00002A1A, 0x000202C4, 0]) = .ok (.ld64Ext 5 4 1 3 0x40, []) ∧
  decode (wordBytes [0x00071C18]) = .ok (.hmov 3 7, [])

/-- R37 to R44, R59: the words of every well-formed instruction decode to it, whatever bytes follow, and words that decode are
those of the instruction they decode to: no bit of an encoding is dropped, and no two words mean the same. -/
def Obligations.DecodeOfEncode : Prop :=
  (∀ i rest, isInstruction i = true → i.verdict = none → decode (wordBytes (encode i) ++ rest) = .ok (i, rest)) ∧
  (∀ w ws i, decodeFetched (w :: ws) = .ok i → ws.length + 1 = wordCount (lenOf w) → encode i = w :: ws)

/-- R4, R423: every step keeps memory in its canonical form, whatever instruction or event it runs. -/
def Obligations.StepKeepsMemory : Prop :=
  ∀ s t, State.MemOk s → step s = .next t → t.MemOk

/-- No instruction and no event stops the machine: while the package has power, every step has a next state; without power it
has none (R427). -/
def Obligations.StepsNeverStop : Prop :=
  (∀ s : State, s.pkg.powered = true → ∃ t, step s = .next t) ∧
  (∀ s : State, s.pkg.powered = false → step s = .fault .powerOff)

/-- R9, R10, R119, R190, R348, R423: after reset every register that the spec gives a value holds it, memory is zero and in
canonical form, and nothing runs. That nothing runs, the zero of the scalar registers before the first activation and of
memory before boot are the model's choice (log entries 2 and 8). -/
def Obligations.ResetValues : Prop :=
  State.MemOk State.reset ∧ (∀ a, State.reset.die.mem.get a = 0) ∧ State.reset.run.act = none ∧
  (∀ r, State.reset.rd r = 0) ∧ State.reset.run.ctx.fflags = 0 ∧ State.reset.run.ctx.frm = 0 ∧
  State.reset.run.ctx.seed = 0 ∧ State.reset.run.ctx.fntol = 0x33800000 ∧ State.reset.run.ctx.admode = 0 ∧
  State.reset.run.ctx.estat = 0 ∧ State.reset.run.ctx.circidle = 4096 ∧ State.reset.run.ctx.epc = 0 ∧
  State.reset.run.ctx.tcause = 0 ∧ State.reset.run.ctx.tval = 0 ∧ State.reset.run.ctx.tscratch = 0 ∧
  State.reset.run.ctx.priv = false ∧ State.reset.cycle = 0 ∧ State.reset.core.retired = 0 ∧ State.reset.pkg.quant = 4096

/-- R124, R116: a trap of any cause at supervisor level, or while TVEC is 0, is a double trap: its report goes to the firmware, the log
is dropped, and the activation retires without restart, or is held as retiring while matrix commands stand (R233); no byte of memory
changes. So of the exceptions that a body raises (the second part), and of the instructions of `raises`. Only a full replay log that
stalls puts it off (R468). -/
def Obligations.DoubleTrap : Prop :=
  (∀ i c v (s : State), raises i s = some (c, v) → s.run.ctx.priv = true ∨ s.core.tvec = 0 → s.replayStalls .abort = false →
    ∃ t, exec i s = .next t ∧ DoubleTraps s t c v) ∧
  (∀ c v len body (s s' : State), body s = .exc s' (.trap c v) → s'.run.ctx.priv = true ∨ s'.core.tvec = 0 →
    s'.replayStalls .abort = false → ∃ t, runBody len s body = .next t ∧ DoubleTraps s' t c v)
end

