-- ==== Sys2Proof/Laws/Memory.lean ====
section
/-!
SUPPORT. Laws/Memory.lean: what the memory operations do: they keep the canonical form, a read after a write to the same
address gives the value, and a write leaves every other address alone.
-/

namespace Sys2Proof.Machine

/-! ### The canonical form -/

theorem Memory.risesFrom_le {lo hi : Nat} (h : lo ≤ hi) : ∀ {m : Memory}, Memory.risesFrom hi m = true →
    Memory.risesFrom lo m = true
  | [], _ => rfl
  | (k, v) :: m, hm => by
    simp only [Memory.risesFrom, Bool.and_eq_true, decide_eq_true_eq] at hm ⊢
    exact ⟨⟨by omega, hm.1.2⟩, hm.2⟩

/-- Below its first address a rising list reads as unlisted. -/
theorem Memory.get_of_lt {lo a : Nat} (h : a < lo) : ∀ {m : Memory}, Memory.risesFrom lo m = true →
    Memory.get m a = unlistedByte
  | [], _ => rfl
  | (k, v) :: m, hm => by
    simp only [Memory.risesFrom, Bool.and_eq_true, decide_eq_true_eq] at hm
    simp only [Memory.get]
    rw [if_neg (by omega), if_pos (by omega)]

theorem Memory.set_rises {lo a : Nat} (h : lo ≤ a) (v : Byte) : ∀ {m : Memory}, Memory.risesFrom lo m = true →
    Memory.risesFrom lo (Memory.set m a v) = true
  | [], _ => by
    unfold Memory.set
    split
    · rfl
    · simp [Memory.risesFrom, *]
  | (k, w) :: m, hm => by
    simp only [Memory.risesFrom, Bool.and_eq_true, decide_eq_true_eq] at hm
    unfold Memory.set
    split
    · subst k
      split
      · exact Memory.risesFrom_le (by omega) hm.2
      · simp [Memory.risesFrom, hm.2, *]
    · split
      · split
        · simp [Memory.risesFrom, hm.1.1, hm.1.2, hm.2]
        · simp only [Memory.risesFrom, Bool.and_eq_true, decide_eq_true_eq]
          exact ⟨⟨h, by simp [*]⟩, ⟨by omega, hm.1.2⟩, hm.2⟩
      · simp only [Memory.risesFrom, Bool.and_eq_true, decide_eq_true_eq]
        exact ⟨hm.1, Memory.set_rises (by omega) v hm.2⟩

/-- Writing a byte keeps the canonical form. -/
theorem Memory.set_wf {m : Memory} (h : m.wf = true) (a : Nat) (v : Byte) : (m.set a v).wf = true :=
  Memory.set_rises (Nat.zero_le a) v h

/-- Writing bytes keeps the canonical form. -/
theorem Memory.put_wf : ∀ (bs : List Byte) {m : Memory} (a : Nat), m.wf = true → (m.put a bs).wf = true
  | [], _, _, h => h
  | b :: bs, _, a, h => Memory.put_wf bs (a + 1) (Memory.set_wf h a b)

/-- Applying a log keeps the canonical form. -/
theorem Memory.apply_wf : ∀ (b : ByteMap) {m : Memory}, m.wf = true → (m.apply b).wf = true
  | [], _, h => h
  | (k, v) :: b, _, h => Memory.apply_wf b (Memory.set_wf h k v)

theorem Memory.filter_rises (p : Host.Cell → Bool) : ∀ {lo : Nat} {m : Memory}, Memory.risesFrom lo m = true →
    Memory.risesFrom lo (m.filter p) = true
  | _, [], _ => rfl
  | lo, (k, v) :: m, hm => by
    simp only [Memory.risesFrom, Bool.and_eq_true, decide_eq_true_eq] at hm
    simp only [List.filter]
    split
    · simp only [Memory.risesFrom, Bool.and_eq_true, decide_eq_true_eq]
      exact ⟨hm.1, Memory.filter_rises p hm.2⟩
    · exact Memory.risesFrom_le (by omega) (Memory.filter_rises p hm.2)

/-- Forgetting some bytes keeps the canonical form. -/
theorem Memory.filter_wf (p : Host.Cell → Bool) {m : Memory} (h : m.wf = true) : Memory.wf (m.filter p) = true :=
  Memory.filter_rises p h

/-- A fold of byte writes keeps the canonical form. -/
theorem Memory.fold_wf {α : Type} (f : Memory → α → Memory) (hf : ∀ m x, Memory.wf m = true → Memory.wf (f m x) = true) :
    ∀ (l : List α) (m : Memory), m.wf = true → Memory.wf (l.foldl f m) = true
  | [], _, h => h
  | x :: l, m, h => Memory.fold_wf f hf l (f m x) (hf m x h)

/-- Moving a granule keeps the canonical form (R334). -/
theorem Memory.move_wf {m : Memory} (h : m.wf = true) (old new : Nat) : (m.move old new).wf = true :=
  Memory.fold_wf _ (fun _ _ hm => Memory.set_wf hm _ _) _ _ (Memory.filter_wf _ h)

/-! ### Reading after writing -/

theorem Memory.get_set_rises {lo a : Nat} (v : Byte) (x : Nat) : ∀ {m : Memory}, Memory.risesFrom lo m = true →
    Memory.get (Memory.set m a v) x = if x = a then v else Memory.get m x
  | [], _ => by
    unfold Memory.set
    by_cases hv : v = unlistedByte
    · simp [hv, Memory.get]
    · by_cases hx : x = a
      · simp [hv, Memory.get, hx]
      · simp only [hv, if_false, Memory.get, hx]
        rw [if_neg (by omega)]
        simp
  | (k, w) :: m, hm => by
    simp only [Memory.risesFrom, Bool.and_eq_true, decide_eq_true_eq] at hm
    unfold Memory.set
    split
    · subst k
      by_cases hx : x = a
      · subst hx
        split
        · rw [Memory.get_of_lt (by omega) hm.2]; simp [*]
        · simp [Memory.get]
      · have hx' : ¬a = x := fun e => hx e.symm
        split
        · by_cases hlt : x < a
          · rw [Memory.get_of_lt (by omega) hm.2]
            simp [Memory.get, hx', hlt]
          · simp [Memory.get, hx', hlt]
        · simp [Memory.get, hx']
    · split
      · split
        · by_cases hx : x = a
          · subst hx
            simp only [Memory.get, if_true]
            rw [if_neg (by omega), if_pos (by omega)]
            exact (by assumption : v = unlistedByte).symm
          · simp [hx]
        · by_cases hx : x = a
          · subst hx; simp [Memory.get]
          · simp only [Memory.get, hx, if_false]
            rw [if_neg (by omega)]
            by_cases hlt : x < a
            · rw [if_pos hlt, if_neg (by omega), if_pos (by omega)]
            · rw [if_neg hlt]
      · simp only [Memory.get]
        rw [Memory.get_set_rises v x hm.2]
        by_cases hx : x = a
        · subst hx; rw [if_neg (by omega), if_neg (by omega)]; simp
        · simp [hx]

/-- A read after a write of one byte. -/
theorem Memory.get_set {m : Memory} (h : m.wf = true) (a : Nat) (v : Byte) (x : Nat) :
    (m.set a v).get x = if x = a then v else m.get x := Memory.get_set_rises v x h

/-- Writing bytes leaves every address before them alone. -/
theorem Memory.get_put_of_lt : ∀ (bs : List Byte) {m : Memory} (a x : Nat), m.wf = true → x < a →
    (m.put a bs).get x = m.get x
  | [], _, _, _, _, _ => rfl
  | b :: bs, m, a, x, h, hx => by
    simp only [Memory.put]
    rw [Memory.get_put_of_lt bs (a + 1) x (Memory.set_wf h a b) (by omega), Memory.get_set h, if_neg (by omega)]

/-- Writing bytes leaves every address outside them alone. -/
theorem Memory.get_put_outside : ∀ (bs : List Byte) {m : Memory} (a x : Nat), m.wf = true →
    ¬(a ≤ x ∧ x < a + bs.length) → (m.put a bs).get x = m.get x
  | [], _, _, _, _, _ => rfl
  | b :: bs, m, a, x, h, hx => by
    simp only [List.length_cons] at hx
    simp only [Memory.put]
    rw [Memory.get_put_outside bs (a + 1) x (Memory.set_wf h a b) (by omega), Memory.get_set h, if_neg (by omega)]

/-- A read after a write of bytes gives the byte written. -/
theorem Memory.get_put : ∀ (bs : List Byte) {m : Memory} (a k : Nat), m.wf = true → (hk : k < bs.length) →
    (m.put a bs).get (a + k) = bs[k]
  | b :: bs, m, a, 0, h, _ => by
    simp only [Memory.put, Nat.add_zero, List.getElem_cons_zero]
    rw [Memory.get_put_of_lt bs (a + 1) a (Memory.set_wf h a b) (by omega), Memory.get_set h, if_pos rfl]
  | b :: bs, m, a, k + 1, h, hk => by
    have hk' : k < bs.length := by simpa using hk
    have := Memory.get_put bs (a + 1) k (Memory.set_wf h a b) hk'
    simp only [Memory.put, List.getElem_cons_succ]
    rw [← this]
    congr 1
    omega

/-! ### The write log -/

/-- A read of the log after a write to it. -/
theorem ByteMap.find_set (a : Nat) (v : Byte) : ∀ (m : ByteMap), ByteMap.find (ByteMap.set m a v) a = some v
  | [] => by simp [ByteMap.set, ByteMap.find]
  | (k, w) :: m => by
    unfold ByteMap.set
    split
    · simp [ByteMap.find]
    · split
      · simp [ByteMap.find]
      · simp only [ByteMap.find]
        rw [if_neg (by assumption), if_neg (by assumption), ByteMap.find_set a v m]

/-- A write to the log leaves every other address alone. -/
theorem ByteMap.find_set_other {a x : Nat} (v : Byte) (h : x ≠ a) :
    ∀ (m : ByteMap), ByteMap.find (ByteMap.set m a v) x = ByteMap.find m x
  | [] => by
    simp only [ByteMap.set, ByteMap.find]
    rw [if_neg (by omega)]
    split <;> rfl
  | (k, w) :: m => by
    unfold ByteMap.set
    split
    · subst k
      simp [ByteMap.find, Ne.symm h]
    · split
      · simp only [ByteMap.find]
        by_cases hxa : x < a
        · rw [if_neg (by omega), if_pos hxa, if_neg (by omega), if_pos (by omega)]
        · rw [if_neg (by omega), if_neg hxa]
      · simp only [ByteMap.find]
        rw [ByteMap.find_set_other v h m]

end Sys2Proof.Machine
end

