-- ==== Sys2Proof/Laws/State.lean ====
section
/-!
SUPPORT. Laws/State.lean: one lemma for each field of the state under each plain update of it, true by definition, so that
no proof unfolds a record update.
-/

namespace Sys2Proof.Machine

/-! ### withCtx -/

@[simp] theorem State.withCtx_run (s : State) (c : Ctx) : (s.withCtx c).run = { s.run with ctx := c } := rfl
@[simp] theorem State.withCtx_core (s : State) (c : Ctx) : (s.withCtx c).core = s.core := rfl
@[simp] theorem State.withCtx_net (s : State) (c : Ctx) : (s.withCtx c).net = s.net := rfl
@[simp] theorem State.withCtx_die (s : State) (c : Ctx) : (s.withCtx c).die = s.die := rfl
@[simp] theorem State.withCtx_pkg (s : State) (c : Ctx) : (s.withCtx c).pkg = s.pkg := rfl
@[simp] theorem State.withCtx_dbg (s : State) (c : Ctx) : (s.withCtx c).dbg = s.dbg := rfl
@[simp] theorem State.withCtx_saved (s : State) (c : Ctx) : (s.withCtx c).saved = s.saved := rfl
@[simp] theorem State.withCtx_parked (s : State) (c : Ctx) : (s.withCtx c).parked = s.parked := rfl
@[simp] theorem State.withCtx_inPlace (s : State) (c : Ctx) : (s.withCtx c).inPlace = s.inPlace := rfl
@[simp] theorem State.withCtx_cycle (s : State) (c : Ctx) : (s.withCtx c).cycle = s.cycle := rfl
@[simp] theorem State.withCtx_fresh (s : State) (c : Ctx) : (s.withCtx c).fresh = s.fresh := rfl
@[simp] theorem State.withCtx_inputs (s : State) (c : Ctx) : (s.withCtx c).inputs = s.inputs := rfl

/-! ### wrH -/

@[simp] theorem State.wrH_run (s : State) (r : Reg) (v : BitVec 256) : (s.wrH r v).run =
    { s.run with ctx := { s.run.ctx with h := s.run.ctx.h.set (r.setWidth 5).toFin v } } := rfl
@[simp] theorem State.wrH_core (s : State) (r : Reg) (v : BitVec 256) : (s.wrH r v).core = s.core := rfl
@[simp] theorem State.wrH_net (s : State) (r : Reg) (v : BitVec 256) : (s.wrH r v).net = s.net := rfl
@[simp] theorem State.wrH_die (s : State) (r : Reg) (v : BitVec 256) : (s.wrH r v).die = s.die := rfl
@[simp] theorem State.wrH_pkg (s : State) (r : Reg) (v : BitVec 256) : (s.wrH r v).pkg = s.pkg := rfl
@[simp] theorem State.wrH_dbg (s : State) (r : Reg) (v : BitVec 256) : (s.wrH r v).dbg = s.dbg := rfl
@[simp] theorem State.wrH_saved (s : State) (r : Reg) (v : BitVec 256) : (s.wrH r v).saved = s.saved := rfl
@[simp] theorem State.wrH_parked (s : State) (r : Reg) (v : BitVec 256) : (s.wrH r v).parked = s.parked := rfl
@[simp] theorem State.wrH_inPlace (s : State) (r : Reg) (v : BitVec 256) : (s.wrH r v).inPlace = s.inPlace := rfl
@[simp] theorem State.wrH_cycle (s : State) (r : Reg) (v : BitVec 256) : (s.wrH r v).cycle = s.cycle := rfl
@[simp] theorem State.wrH_fresh (s : State) (r : Reg) (v : BitVec 256) : (s.wrH r v).fresh = s.fresh := rfl
@[simp] theorem State.wrH_inputs (s : State) (r : Reg) (v : BitVec 256) : (s.wrH r v).inputs = s.inputs := rfl

/-! ### wrF -/

@[simp] theorem State.wrF_run (s : State) (r : Reg) (v : FHdr) : (s.wrF r v).run =
    { s.run with ctx := { s.run.ctx with f := s.run.ctx.f.set (r.setWidth 4).toFin v } } := rfl
@[simp] theorem State.wrF_core (s : State) (r : Reg) (v : FHdr) : (s.wrF r v).core = s.core := rfl
@[simp] theorem State.wrF_net (s : State) (r : Reg) (v : FHdr) : (s.wrF r v).net = s.net := rfl
@[simp] theorem State.wrF_die (s : State) (r : Reg) (v : FHdr) : (s.wrF r v).die = s.die := rfl
@[simp] theorem State.wrF_pkg (s : State) (r : Reg) (v : FHdr) : (s.wrF r v).pkg = s.pkg := rfl
@[simp] theorem State.wrF_dbg (s : State) (r : Reg) (v : FHdr) : (s.wrF r v).dbg = s.dbg := rfl
@[simp] theorem State.wrF_saved (s : State) (r : Reg) (v : FHdr) : (s.wrF r v).saved = s.saved := rfl
@[simp] theorem State.wrF_parked (s : State) (r : Reg) (v : FHdr) : (s.wrF r v).parked = s.parked := rfl
@[simp] theorem State.wrF_inPlace (s : State) (r : Reg) (v : FHdr) : (s.wrF r v).inPlace = s.inPlace := rfl
@[simp] theorem State.wrF_cycle (s : State) (r : Reg) (v : FHdr) : (s.wrF r v).cycle = s.cycle := rfl
@[simp] theorem State.wrF_fresh (s : State) (r : Reg) (v : FHdr) : (s.wrF r v).fresh = s.fresh := rfl
@[simp] theorem State.wrF_inputs (s : State) (r : Reg) (v : FHdr) : (s.wrF r v).inputs = s.inputs := rfl

/-! ### wrW -/

@[simp] theorem State.wrW_run (s : State) (r : Reg) (v : Option (BitVec 5)) : (s.wrW r v).run =
    { s.run with ctx := { s.run.ctx with w := s.run.ctx.w.set (r.setWidth 4).toFin v } } := rfl
@[simp] theorem State.wrW_core (s : State) (r : Reg) (v : Option (BitVec 5)) : (s.wrW r v).core = s.core := rfl
@[simp] theorem State.wrW_net (s : State) (r : Reg) (v : Option (BitVec 5)) : (s.wrW r v).net = s.net := rfl
@[simp] theorem State.wrW_die (s : State) (r : Reg) (v : Option (BitVec 5)) : (s.wrW r v).die = s.die := rfl
@[simp] theorem State.wrW_pkg (s : State) (r : Reg) (v : Option (BitVec 5)) : (s.wrW r v).pkg = s.pkg := rfl
@[simp] theorem State.wrW_dbg (s : State) (r : Reg) (v : Option (BitVec 5)) : (s.wrW r v).dbg = s.dbg := rfl
@[simp] theorem State.wrW_saved (s : State) (r : Reg) (v : Option (BitVec 5)) : (s.wrW r v).saved = s.saved := rfl
@[simp] theorem State.wrW_parked (s : State) (r : Reg) (v : Option (BitVec 5)) : (s.wrW r v).parked = s.parked := rfl
@[simp] theorem State.wrW_inPlace (s : State) (r : Reg) (v : Option (BitVec 5)) : (s.wrW r v).inPlace = s.inPlace := rfl
@[simp] theorem State.wrW_cycle (s : State) (r : Reg) (v : Option (BitVec 5)) : (s.wrW r v).cycle = s.cycle := rfl
@[simp] theorem State.wrW_fresh (s : State) (r : Reg) (v : Option (BitVec 5)) : (s.wrW r v).fresh = s.fresh := rfl
@[simp] theorem State.wrW_inputs (s : State) (r : Reg) (v : Option (BitVec 5)) : (s.wrW r v).inputs = s.inputs := rfl

/-! ### wrQ -/

@[simp] theorem State.wrQ_run (s : State) (r : BitVec 3) (v : QReg) : (s.wrQ r v).run =
    { s.run with ctx := { s.run.ctx with q := s.run.ctx.q.set r.toFin v } } := rfl
@[simp] theorem State.wrQ_core (s : State) (r : BitVec 3) (v : QReg) : (s.wrQ r v).core = s.core := rfl
@[simp] theorem State.wrQ_net (s : State) (r : BitVec 3) (v : QReg) : (s.wrQ r v).net = s.net := rfl
@[simp] theorem State.wrQ_die (s : State) (r : BitVec 3) (v : QReg) : (s.wrQ r v).die = s.die := rfl
@[simp] theorem State.wrQ_pkg (s : State) (r : BitVec 3) (v : QReg) : (s.wrQ r v).pkg = s.pkg := rfl
@[simp] theorem State.wrQ_dbg (s : State) (r : BitVec 3) (v : QReg) : (s.wrQ r v).dbg = s.dbg := rfl
@[simp] theorem State.wrQ_saved (s : State) (r : BitVec 3) (v : QReg) : (s.wrQ r v).saved = s.saved := rfl
@[simp] theorem State.wrQ_parked (s : State) (r : BitVec 3) (v : QReg) : (s.wrQ r v).parked = s.parked := rfl
@[simp] theorem State.wrQ_inPlace (s : State) (r : BitVec 3) (v : QReg) : (s.wrQ r v).inPlace = s.inPlace := rfl
@[simp] theorem State.wrQ_cycle (s : State) (r : BitVec 3) (v : QReg) : (s.wrQ r v).cycle = s.cycle := rfl
@[simp] theorem State.wrQ_fresh (s : State) (r : BitVec 3) (v : QReg) : (s.wrQ r v).fresh = s.fresh := rfl
@[simp] theorem State.wrQ_inputs (s : State) (r : BitVec 3) (v : QReg) : (s.wrQ r v).inputs = s.inputs := rfl

/-! ### raise -/

@[simp] theorem State.raise_run (s : State) (f : Flags) : (s.raise f).run =
    { s.run with ctx := { s.run.ctx with fflags := s.run.ctx.fflags ||| f } } := rfl
@[simp] theorem State.raise_core (s : State) (f : Flags) : (s.raise f).core = s.core := rfl
@[simp] theorem State.raise_net (s : State) (f : Flags) : (s.raise f).net = s.net := rfl
@[simp] theorem State.raise_die (s : State) (f : Flags) : (s.raise f).die = s.die := rfl
@[simp] theorem State.raise_pkg (s : State) (f : Flags) : (s.raise f).pkg = s.pkg := rfl
@[simp] theorem State.raise_dbg (s : State) (f : Flags) : (s.raise f).dbg = s.dbg := rfl
@[simp] theorem State.raise_saved (s : State) (f : Flags) : (s.raise f).saved = s.saved := rfl
@[simp] theorem State.raise_parked (s : State) (f : Flags) : (s.raise f).parked = s.parked := rfl
@[simp] theorem State.raise_inPlace (s : State) (f : Flags) : (s.raise f).inPlace = s.inPlace := rfl
@[simp] theorem State.raise_cycle (s : State) (f : Flags) : (s.raise f).cycle = s.cycle := rfl
@[simp] theorem State.raise_fresh (s : State) (f : Flags) : (s.raise f).fresh = s.fresh := rfl
@[simp] theorem State.raise_inputs (s : State) (f : Flags) : (s.raise f).inputs = s.inputs := rfl

/-! ### setSlot -/

@[simp] theorem State.setSlot_run (s : State) (i : BitVec 5) (v : Slot) : (s.setSlot i v).run = s.run := rfl
@[simp] theorem State.setSlot_core (s : State) (i : BitVec 5) (v : Slot) : (s.setSlot i v).core = s.core := rfl
@[simp] theorem State.setSlot_net (s : State) (i : BitVec 5) (v : Slot) : (s.setSlot i v).net =
    { s.net with slots := s.net.slots.set i.toFin v } := rfl
@[simp] theorem State.setSlot_die (s : State) (i : BitVec 5) (v : Slot) : (s.setSlot i v).die = s.die := rfl
@[simp] theorem State.setSlot_pkg (s : State) (i : BitVec 5) (v : Slot) : (s.setSlot i v).pkg = s.pkg := rfl
@[simp] theorem State.setSlot_dbg (s : State) (i : BitVec 5) (v : Slot) : (s.setSlot i v).dbg = s.dbg := rfl
@[simp] theorem State.setSlot_saved (s : State) (i : BitVec 5) (v : Slot) : (s.setSlot i v).saved = s.saved := rfl
@[simp] theorem State.setSlot_parked (s : State) (i : BitVec 5) (v : Slot) : (s.setSlot i v).parked = s.parked := rfl
@[simp] theorem State.setSlot_inPlace (s : State) (i : BitVec 5) (v : Slot) : (s.setSlot i v).inPlace = s.inPlace := rfl
@[simp] theorem State.setSlot_cycle (s : State) (i : BitVec 5) (v : Slot) : (s.setSlot i v).cycle = s.cycle := rfl
@[simp] theorem State.setSlot_fresh (s : State) (i : BitVec 5) (v : Slot) : (s.setSlot i v).fresh = s.fresh := rfl
@[simp] theorem State.setSlot_inputs (s : State) (i : BitVec 5) (v : Slot) : (s.setSlot i v).inputs = s.inputs := rfl

/-! ### setChan -/

@[simp] theorem State.setChan_run (s : State) (c : BitVec 3) (v : Chan) : (s.setChan c v).run = s.run := rfl
@[simp] theorem State.setChan_core (s : State) (c : BitVec 3) (v : Chan) : (s.setChan c v).core =
    { s.core with chans := s.core.chans.set c.toFin v } := rfl
@[simp] theorem State.setChan_net (s : State) (c : BitVec 3) (v : Chan) : (s.setChan c v).net = s.net := rfl
@[simp] theorem State.setChan_die (s : State) (c : BitVec 3) (v : Chan) : (s.setChan c v).die = s.die := rfl
@[simp] theorem State.setChan_pkg (s : State) (c : BitVec 3) (v : Chan) : (s.setChan c v).pkg = s.pkg := rfl
@[simp] theorem State.setChan_dbg (s : State) (c : BitVec 3) (v : Chan) : (s.setChan c v).dbg = s.dbg := rfl
@[simp] theorem State.setChan_saved (s : State) (c : BitVec 3) (v : Chan) : (s.setChan c v).saved = s.saved := rfl
@[simp] theorem State.setChan_parked (s : State) (c : BitVec 3) (v : Chan) : (s.setChan c v).parked = s.parked := rfl
@[simp] theorem State.setChan_inPlace (s : State) (c : BitVec 3) (v : Chan) : (s.setChan c v).inPlace = s.inPlace := rfl
@[simp] theorem State.setChan_cycle (s : State) (c : BitVec 3) (v : Chan) : (s.setChan c v).cycle = s.cycle := rfl
@[simp] theorem State.setChan_fresh (s : State) (c : BitVec 3) (v : Chan) : (s.setChan c v).fresh = s.fresh := rfl
@[simp] theorem State.setChan_inputs (s : State) (c : BitVec 3) (v : Chan) : (s.setChan c v).inputs = s.inputs := rfl

/-! ### withMx -/

@[simp] theorem State.withMx_run (s : State) (m : Mx) : (s.withMx m).run = { s.run with mx := m } := rfl
@[simp] theorem State.withMx_core (s : State) (m : Mx) : (s.withMx m).core = s.core := rfl
@[simp] theorem State.withMx_net (s : State) (m : Mx) : (s.withMx m).net = s.net := rfl
@[simp] theorem State.withMx_die (s : State) (m : Mx) : (s.withMx m).die = s.die := rfl
@[simp] theorem State.withMx_pkg (s : State) (m : Mx) : (s.withMx m).pkg = s.pkg := rfl
@[simp] theorem State.withMx_dbg (s : State) (m : Mx) : (s.withMx m).dbg = s.dbg := rfl
@[simp] theorem State.withMx_saved (s : State) (m : Mx) : (s.withMx m).saved = s.saved := rfl
@[simp] theorem State.withMx_parked (s : State) (m : Mx) : (s.withMx m).parked = s.parked := rfl
@[simp] theorem State.withMx_inPlace (s : State) (m : Mx) : (s.withMx m).inPlace = s.inPlace := rfl
@[simp] theorem State.withMx_cycle (s : State) (m : Mx) : (s.withMx m).cycle = s.cycle := rfl
@[simp] theorem State.withMx_fresh (s : State) (m : Mx) : (s.withMx m).fresh = s.fresh := rfl
@[simp] theorem State.withMx_inputs (s : State) (m : Mx) : (s.withMx m).inputs = s.inputs := rfl

/-! ### report -/

@[simp] theorem State.report_run (s : State) (r : Report) : (s.report r).run = s.run := rfl
@[simp] theorem State.report_core (s : State) (r : Report) : (s.report r).core = s.core := rfl
@[simp] theorem State.report_net (s : State) (r : Report) : (s.report r).net = s.net := rfl
@[simp] theorem State.report_die (s : State) (r : Report) : (s.report r).die = s.die := rfl
@[simp] theorem State.report_pkg (s : State) (r : Report) : (s.report r).pkg =
    { s.pkg with reports := s.pkg.reports ++ [r] } := rfl
@[simp] theorem State.report_dbg (s : State) (r : Report) : (s.report r).dbg = s.dbg := rfl
@[simp] theorem State.report_saved (s : State) (r : Report) : (s.report r).saved = s.saved := rfl
@[simp] theorem State.report_parked (s : State) (r : Report) : (s.report r).parked = s.parked := rfl
@[simp] theorem State.report_inPlace (s : State) (r : Report) : (s.report r).inPlace = s.inPlace := rfl
@[simp] theorem State.report_cycle (s : State) (r : Report) : (s.report r).cycle = s.cycle := rfl
@[simp] theorem State.report_fresh (s : State) (r : Report) : (s.report r).fresh = s.fresh := rfl
@[simp] theorem State.report_inputs (s : State) (r : Report) : (s.report r).inputs = s.inputs := rfl

/-! ### tick -/

@[simp] theorem State.tick_run (s : State) : (s.tick).run = s.run := rfl
@[simp] theorem State.tick_core (s : State) : (s.tick).core = s.core := rfl
@[simp] theorem State.tick_net (s : State) : (s.tick).net = s.net := rfl
@[simp] theorem State.tick_die (s : State) : (s.tick).die = s.die := rfl
@[simp] theorem State.tick_pkg (s : State) : (s.tick).pkg = s.pkg := rfl
@[simp] theorem State.tick_dbg (s : State) : (s.tick).dbg = s.dbg := rfl
@[simp] theorem State.tick_saved (s : State) : (s.tick).saved = s.saved := rfl
@[simp] theorem State.tick_parked (s : State) : (s.tick).parked = s.parked := rfl
@[simp] theorem State.tick_inPlace (s : State) : (s.tick).inPlace = s.inPlace := rfl
@[simp] theorem State.tick_cycle (s : State) : (s.tick).cycle = s.cycle := rfl
@[simp] theorem State.tick_fresh (s : State) : (s.tick).fresh = s.fresh + 1 := rfl
@[simp] theorem State.tick_inputs (s : State) : (s.tick).inputs = s.inputs := rfl

/-! ### clearWait -/

@[simp] theorem State.clearWait_run (s : State) : (s.clearWait).run =
    { s.run with stall := none, waited := 0, served := false, idleDone := false, sent := none, part := 0, partIdx := [], watch := none, freed := false, redst := none } := rfl
@[simp] theorem State.clearWait_core (s : State) : (s.clearWait).core = s.core := rfl
@[simp] theorem State.clearWait_net (s : State) : (s.clearWait).net = s.net := rfl
@[simp] theorem State.clearWait_die (s : State) : (s.clearWait).die = s.die := rfl
@[simp] theorem State.clearWait_pkg (s : State) : (s.clearWait).pkg = s.pkg := rfl
@[simp] theorem State.clearWait_dbg (s : State) : (s.clearWait).dbg = s.dbg := rfl
@[simp] theorem State.clearWait_saved (s : State) : (s.clearWait).saved = s.saved := rfl
@[simp] theorem State.clearWait_parked (s : State) : (s.clearWait).parked = s.parked := rfl
@[simp] theorem State.clearWait_inPlace (s : State) : (s.clearWait).inPlace = s.inPlace := rfl
@[simp] theorem State.clearWait_cycle (s : State) : (s.clearWait).cycle = s.cycle := rfl
@[simp] theorem State.clearWait_fresh (s : State) : (s.clearWait).fresh = s.fresh := rfl
@[simp] theorem State.clearWait_inputs (s : State) : (s.clearWait).inputs = s.inputs := rfl

/-! ### withTape -/

@[simp] theorem State.withTape_run (s : State) (t : Tape) : (s.withTape t).run = s.run := rfl
@[simp] theorem State.withTape_core (s : State) (t : Tape) : (s.withTape t).core = { s.core with tape := t } := rfl
@[simp] theorem State.withTape_net (s : State) (t : Tape) : (s.withTape t).net = s.net := rfl
@[simp] theorem State.withTape_die (s : State) (t : Tape) : (s.withTape t).die = s.die := rfl
@[simp] theorem State.withTape_pkg (s : State) (t : Tape) : (s.withTape t).pkg = s.pkg := rfl
@[simp] theorem State.withTape_dbg (s : State) (t : Tape) : (s.withTape t).dbg = s.dbg := rfl
@[simp] theorem State.withTape_saved (s : State) (t : Tape) : (s.withTape t).saved = s.saved := rfl
@[simp] theorem State.withTape_parked (s : State) (t : Tape) : (s.withTape t).parked = s.parked := rfl
@[simp] theorem State.withTape_inPlace (s : State) (t : Tape) : (s.withTape t).inPlace = s.inPlace := rfl
@[simp] theorem State.withTape_cycle (s : State) (t : Tape) : (s.withTape t).cycle = s.cycle := rfl
@[simp] theorem State.withTape_fresh (s : State) (t : Tape) : (s.withTape t).fresh = s.fresh := rfl
@[simp] theorem State.withTape_inputs (s : State) (t : Tape) : (s.withTape t).inputs = s.inputs := rfl

/-! ### withTop -/

@[simp] theorem State.withTop_run (s : State) (n : Nat) : (s.withTop n).run =
    { s.run with ctx := { s.run.ctx with top := n } } := rfl
@[simp] theorem State.withTop_core (s : State) (n : Nat) : (s.withTop n).core = s.core := rfl
@[simp] theorem State.withTop_net (s : State) (n : Nat) : (s.withTop n).net = s.net := rfl
@[simp] theorem State.withTop_die (s : State) (n : Nat) : (s.withTop n).die = s.die := rfl
@[simp] theorem State.withTop_pkg (s : State) (n : Nat) : (s.withTop n).pkg = s.pkg := rfl
@[simp] theorem State.withTop_dbg (s : State) (n : Nat) : (s.withTop n).dbg = s.dbg := rfl
@[simp] theorem State.withTop_saved (s : State) (n : Nat) : (s.withTop n).saved = s.saved := rfl
@[simp] theorem State.withTop_parked (s : State) (n : Nat) : (s.withTop n).parked = s.parked := rfl
@[simp] theorem State.withTop_inPlace (s : State) (n : Nat) : (s.withTop n).inPlace = s.inPlace := rfl
@[simp] theorem State.withTop_cycle (s : State) (n : Nat) : (s.withTop n).cycle = s.cycle := rfl
@[simp] theorem State.withTop_fresh (s : State) (n : Nat) : (s.withTop n).fresh = s.fresh := rfl
@[simp] theorem State.withTop_inputs (s : State) (n : Nat) : (s.withTop n).inputs = s.inputs := rfl

/-! ### setGranule -/

@[simp] theorem State.setGranule_run (s : State) (a : Nat) (g : Granule) : (s.setGranule a g).run = s.run := rfl
@[simp] theorem State.setGranule_core (s : State) (a : Nat) (g : Granule) : (s.setGranule a g).core = s.core := rfl
@[simp] theorem State.setGranule_net (s : State) (a : Nat) (g : Granule) : (s.setGranule a g).net = s.net := rfl
@[simp] theorem State.setGranule_die (s : State) (a : Nat) (g : Granule) : (s.setGranule a g).die =
    { s.die with grans := assocSet (a / 65536) g s.die.grans } := rfl
@[simp] theorem State.setGranule_pkg (s : State) (a : Nat) (g : Granule) : (s.setGranule a g).pkg = s.pkg := rfl
@[simp] theorem State.setGranule_dbg (s : State) (a : Nat) (g : Granule) : (s.setGranule a g).dbg = s.dbg := rfl
@[simp] theorem State.setGranule_saved (s : State) (a : Nat) (g : Granule) : (s.setGranule a g).saved = s.saved := rfl
@[simp] theorem State.setGranule_parked (s : State) (a : Nat) (g : Granule) : (s.setGranule a g).parked = s.parked := rfl
@[simp] theorem State.setGranule_inPlace (s : State) (a : Nat) (g : Granule) : (s.setGranule a g).inPlace = s.inPlace := rfl
@[simp] theorem State.setGranule_cycle (s : State) (a : Nat) (g : Granule) : (s.setGranule a g).cycle = s.cycle := rfl
@[simp] theorem State.setGranule_fresh (s : State) (a : Nat) (g : Granule) : (s.setGranule a g).fresh = s.fresh := rfl
@[simp] theorem State.setGranule_inputs (s : State) (a : Nat) (g : Granule) : (s.setGranule a g).inputs = s.inputs := rfl

/-! ### retry -/

@[simp] theorem State.retry_run (s : State) : (s.retry).run = { s.run with stall := none } := rfl
@[simp] theorem State.retry_core (s : State) : (s.retry).core = s.core := rfl
@[simp] theorem State.retry_net (s : State) : (s.retry).net = s.net := rfl
@[simp] theorem State.retry_die (s : State) : (s.retry).die = s.die := rfl
@[simp] theorem State.retry_pkg (s : State) : (s.retry).pkg = s.pkg := rfl
@[simp] theorem State.retry_dbg (s : State) : (s.retry).dbg = s.dbg := rfl
@[simp] theorem State.retry_saved (s : State) : (s.retry).saved = s.saved := rfl
@[simp] theorem State.retry_parked (s : State) : (s.retry).parked = s.parked := rfl
@[simp] theorem State.retry_inPlace (s : State) : (s.retry).inPlace = s.inPlace := rfl
@[simp] theorem State.retry_cycle (s : State) : (s.retry).cycle = s.cycle := rfl
@[simp] theorem State.retry_fresh (s : State) : (s.retry).fresh = s.fresh := rfl
@[simp] theorem State.retry_inputs (s : State) : (s.retry).inputs = s.inputs := rfl

/-! ### wr -/

@[simp] theorem State.wr_core (s : State) (r : Reg) (v : Word) : (s.wr r v).core = s.core := by unfold State.wr; split <;> rfl
@[simp] theorem State.wr_net (s : State) (r : Reg) (v : Word) : (s.wr r v).net = s.net := by unfold State.wr; split <;> rfl
@[simp] theorem State.wr_die (s : State) (r : Reg) (v : Word) : (s.wr r v).die = s.die := by unfold State.wr; split <;> rfl
@[simp] theorem State.wr_pkg (s : State) (r : Reg) (v : Word) : (s.wr r v).pkg = s.pkg := by unfold State.wr; split <;> rfl
@[simp] theorem State.wr_dbg (s : State) (r : Reg) (v : Word) : (s.wr r v).dbg = s.dbg := by unfold State.wr; split <;> rfl
@[simp] theorem State.wr_saved (s : State) (r : Reg) (v : Word) : (s.wr r v).saved = s.saved := by unfold State.wr; split <;> rfl
@[simp] theorem State.wr_parked (s : State) (r : Reg) (v : Word) : (s.wr r v).parked = s.parked := by unfold State.wr; split <;> rfl
@[simp] theorem State.wr_inPlace (s : State) (r : Reg) (v : Word) : (s.wr r v).inPlace = s.inPlace := by unfold State.wr; split <;> rfl
@[simp] theorem State.wr_cycle (s : State) (r : Reg) (v : Word) : (s.wr r v).cycle = s.cycle := by unfold State.wr; split <;> rfl
@[simp] theorem State.wr_fresh (s : State) (r : Reg) (v : Word) : (s.wr r v).fresh = s.fresh := by unfold State.wr; split <;> rfl
@[simp] theorem State.wr_inputs (s : State) (r : Reg) (v : Word) : (s.wr r v).inputs = s.inputs := by unfold State.wr; split <;> rfl

@[simp] theorem State.wr_ctx_pc (s : State) (r : Reg) (v : Word) : (s.wr r v).run.ctx.pc = s.run.ctx.pc := by
  unfold State.wr; split <;> rfl
@[simp] theorem State.wr_ctx_h (s : State) (r : Reg) (v : Word) : (s.wr r v).run.ctx.h = s.run.ctx.h := by
  unfold State.wr; split <;> rfl
@[simp] theorem State.wr_ctx_f (s : State) (r : Reg) (v : Word) : (s.wr r v).run.ctx.f = s.run.ctx.f := by
  unfold State.wr; split <;> rfl
@[simp] theorem State.wr_ctx_w (s : State) (r : Reg) (v : Word) : (s.wr r v).run.ctx.w = s.run.ctx.w := by
  unfold State.wr; split <;> rfl
@[simp] theorem State.wr_ctx_q (s : State) (r : Reg) (v : Word) : (s.wr r v).run.ctx.q = s.run.ctx.q := by
  unfold State.wr; split <;> rfl
@[simp] theorem State.wr_ctx_fflags (s : State) (r : Reg) (v : Word) : (s.wr r v).run.ctx.fflags = s.run.ctx.fflags := by
  unfold State.wr; split <;> rfl
@[simp] theorem State.wr_ctx_frm (s : State) (r : Reg) (v : Word) : (s.wr r v).run.ctx.frm = s.run.ctx.frm := by
  unfold State.wr; split <;> rfl
@[simp] theorem State.wr_ctx_admode (s : State) (r : Reg) (v : Word) : (s.wr r v).run.ctx.admode = s.run.ctx.admode := by
  unfold State.wr; split <;> rfl
@[simp] theorem State.wr_ctx_seed (s : State) (r : Reg) (v : Word) : (s.wr r v).run.ctx.seed = s.run.ctx.seed := by
  unfold State.wr; split <;> rfl
@[simp] theorem State.wr_ctx_fntol (s : State) (r : Reg) (v : Word) : (s.wr r v).run.ctx.fntol = s.run.ctx.fntol := by
  unfold State.wr; split <;> rfl
@[simp] theorem State.wr_ctx_fnspace (s : State) (r : Reg) (v : Word) : (s.wr r v).run.ctx.fnspace = s.run.ctx.fnspace := by
  unfold State.wr; split <;> rfl
@[simp] theorem State.wr_ctx_circidle (s : State) (r : Reg) (v : Word) : (s.wr r v).run.ctx.circidle = s.run.ctx.circidle := by
  unfold State.wr; split <;> rfl
@[simp] theorem State.wr_ctx_estat (s : State) (r : Reg) (v : Word) : (s.wr r v).run.ctx.estat = s.run.ctx.estat := by
  unfold State.wr; split <;> rfl
@[simp] theorem State.wr_ctx_priv (s : State) (r : Reg) (v : Word) : (s.wr r v).run.ctx.priv = s.run.ctx.priv := by
  unfold State.wr; split <;> rfl
@[simp] theorem State.wr_ctx_ppriv (s : State) (r : Reg) (v : Word) : (s.wr r v).run.ctx.ppriv = s.run.ctx.ppriv := by
  unfold State.wr; split <;> rfl
@[simp] theorem State.wr_ctx_epc (s : State) (r : Reg) (v : Word) : (s.wr r v).run.ctx.epc = s.run.ctx.epc := by
  unfold State.wr; split <;> rfl
@[simp] theorem State.wr_ctx_tcause (s : State) (r : Reg) (v : Word) : (s.wr r v).run.ctx.tcause = s.run.ctx.tcause := by
  unfold State.wr; split <;> rfl
@[simp] theorem State.wr_ctx_tval (s : State) (r : Reg) (v : Word) : (s.wr r v).run.ctx.tval = s.run.ctx.tval := by
  unfold State.wr; split <;> rfl
@[simp] theorem State.wr_ctx_tscratch (s : State) (r : Reg) (v : Word) : (s.wr r v).run.ctx.tscratch = s.run.ctx.tscratch := by
  unfold State.wr; split <;> rfl
@[simp] theorem State.wr_ctx_last (s : State) (r : Reg) (v : Word) : (s.wr r v).run.ctx.last = s.run.ctx.last := by
  unfold State.wr; split <;> rfl
@[simp] theorem State.wr_ctx_top (s : State) (r : Reg) (v : Word) : (s.wr r v).run.ctx.top = s.run.ctx.top := by
  unfold State.wr; split <;> rfl
@[simp] theorem State.wr_ctx_iss (s : State) (r : Reg) (v : Word) : (s.wr r v).run.ctx.iss = s.run.ctx.iss := by
  unfold State.wr; split <;> rfl
@[simp] theorem State.wr_ctx_seq (s : State) (r : Reg) (v : Word) : (s.wr r v).run.ctx.seq = s.run.ctx.seq := by
  unfold State.wr; split <;> rfl
@[simp] theorem State.wr_ctx_units (s : State) (r : Reg) (v : Word) : (s.wr r v).run.ctx.units = s.run.ctx.units := by
  unfold State.wr; split <;> rfl
@[simp] theorem State.wr_ctx_lic (s : State) (r : Reg) (v : Word) : (s.wr r v).run.ctx.lic = s.run.ctx.lic := by
  unfold State.wr; split <;> rfl
@[simp] theorem State.wr_ctx_sigk (s : State) (r : Reg) (v : Word) : (s.wr r v).run.ctx.sigk = s.run.ctx.sigk := by
  unfold State.wr; split <;> rfl
@[simp] theorem State.wr_ctx_live (s : State) (r : Reg) (v : Word) : (s.wr r v).run.ctx.live = s.run.ctx.live := by
  unfold State.wr; split <;> rfl
@[simp] theorem State.wr_ctx_reissue (s : State) (r : Reg) (v : Word) : (s.wr r v).run.ctx.reissue = s.run.ctx.reissue := by
  unfold State.wr; split <;> rfl
@[simp] theorem State.wr_run_act (s : State) (r : Reg) (v : Word) : (s.wr r v).run.act = s.run.act := by
  unfold State.wr; split <;> rfl
@[simp] theorem State.wr_run_snap (s : State) (r : Reg) (v : Word) : (s.wr r v).run.snap = s.run.snap := by
  unfold State.wr; split <;> rfl
@[simp] theorem State.wr_run_log (s : State) (r : Reg) (v : Word) : (s.wr r v).run.log = s.run.log := by
  unfold State.wr; split <;> rfl
@[simp] theorem State.wr_run_adj (s : State) (r : Reg) (v : Word) : (s.wr r v).run.adj = s.run.adj := by
  unfold State.wr; split <;> rfl
@[simp] theorem State.wr_run_readSet (s : State) (r : Reg) (v : Word) : (s.wr r v).run.readSet = s.run.readSet := by
  unfold State.wr; split <;> rfl
@[simp] theorem State.wr_run_claimed (s : State) (r : Reg) (v : Word) : (s.wr r v).run.claimed = s.run.claimed := by
  unfold State.wr; split <;> rfl
@[simp] theorem State.wr_run_store (s : State) (r : Reg) (v : Word) : (s.wr r v).run.store = s.run.store := by
  unfold State.wr; split <;> rfl
@[simp] theorem State.wr_run_pins (s : State) (r : Reg) (v : Word) : (s.wr r v).run.pins = s.run.pins := by
  unfold State.wr; split <;> rfl
@[simp] theorem State.wr_run_mx (s : State) (r : Reg) (v : Word) : (s.wr r v).run.mx = s.run.mx := by
  unfold State.wr; split <;> rfl
@[simp] theorem State.wr_run_stall (s : State) (r : Reg) (v : Word) : (s.wr r v).run.stall = s.run.stall := by
  unfold State.wr; split <;> rfl
@[simp] theorem State.wr_run_waited (s : State) (r : Reg) (v : Word) : (s.wr r v).run.waited = s.run.waited := by
  unfold State.wr; split <;> rfl
@[simp] theorem State.wr_run_served (s : State) (r : Reg) (v : Word) : (s.wr r v).run.served = s.run.served := by
  unfold State.wr; split <;> rfl
@[simp] theorem State.wr_run_idleDone (s : State) (r : Reg) (v : Word) : (s.wr r v).run.idleDone = s.run.idleDone := by
  unfold State.wr; split <;> rfl
@[simp] theorem State.wr_run_sent (s : State) (r : Reg) (v : Word) : (s.wr r v).run.sent = s.run.sent := by
  unfold State.wr; split <;> rfl
@[simp] theorem State.wr_run_commit (s : State) (r : Reg) (v : Word) : (s.wr r v).run.commit = s.run.commit := by
  unfold State.wr; split <;> rfl
@[simp] theorem State.wr_run_acks (s : State) (r : Reg) (v : Word) : (s.wr r v).run.acks = s.run.acks := by
  unfold State.wr; split <;> rfl
@[simp] theorem State.wr_run_owed (s : State) (r : Reg) (v : Word) : (s.wr r v).run.owed = s.run.owed := by
  unfold State.wr; split <;> rfl
@[simp] theorem State.wr_run_retiring (s : State) (r : Reg) (v : Word) : (s.wr r v).run.retiring = s.run.retiring := by
  unfold State.wr; split <;> rfl
@[simp] theorem State.wr_run_readTags (s : State) (r : Reg) (v : Word) : (s.wr r v).run.readTags = s.run.readTags := by
  unfold State.wr; split <;> rfl
@[simp] theorem State.wr_run_writeTags (s : State) (r : Reg) (v : Word) : (s.wr r v).run.writeTags = s.run.writeTags := by
  unfold State.wr; split <;> rfl
@[simp] theorem State.wr_run_deps (s : State) (r : Reg) (v : Word) : (s.wr r v).run.deps = s.run.deps := by
  unfold State.wr; split <;> rfl
@[simp] theorem State.wr_run_streams (s : State) (r : Reg) (v : Word) : (s.wr r v).run.streams = s.run.streams := by
  unfold State.wr; split <;> rfl
@[simp] theorem State.wr_run_ended (s : State) (r : Reg) (v : Word) : (s.wr r v).run.ended = s.run.ended := by
  unfold State.wr; split <;> rfl
@[simp] theorem State.wr_run_part (s : State) (r : Reg) (v : Word) : (s.wr r v).run.part = s.run.part := by
  unfold State.wr; split <;> rfl
@[simp] theorem State.wr_run_partIdx (s : State) (r : Reg) (v : Word) : (s.wr r v).run.partIdx = s.run.partIdx := by
  unfold State.wr; split <;> rfl
@[simp] theorem State.wr_run_watch (s : State) (r : Reg) (v : Word) : (s.wr r v).run.watch = s.run.watch := by
  unfold State.wr; split <;> rfl
@[simp] theorem State.wr_run_freed (s : State) (r : Reg) (v : Word) : (s.wr r v).run.freed = s.run.freed := by
  unfold State.wr; split <;> rfl
@[simp] theorem State.wr_run_snapTvec (s : State) (r : Reg) (v : Word) : (s.wr r v).run.snapTvec = s.run.snapTvec := by
  unfold State.wr; split <;> rfl
@[simp] theorem State.wr_run_path (s : State) (r : Reg) (v : Word) : (s.wr r v).run.path = s.run.path := by
  unfold State.wr; split <;> rfl
@[simp] theorem State.wr_run_redst (s : State) (r : Reg) (v : Word) : (s.wr r v).run.redst = s.run.redst := by
  unfold State.wr; split <;> rfl
@[simp] theorem State.wr_run_answer (s : State) (r : Reg) (v : Word) : (s.wr r v).run.answer = s.run.answer := by
  unfold State.wr; split <;> rfl
@[simp] theorem State.wr_run_lost (s : State) (r : Reg) (v : Word) : (s.wr r v).run.lost = s.run.lost := by
  unfold State.wr; split <;> rfl
@[simp] theorem State.wr_run_struck (s : State) (r : Reg) (v : Word) : (s.wr r v).run.struck = s.run.struck := by
  unfold State.wr; split <;> rfl
@[simp] theorem State.wr_run_late (s : State) (r : Reg) (v : Word) : (s.wr r v).run.late = s.run.late := by
  unfold State.wr; split <;> rfl
@[simp] theorem State.wr_run_parking (s : State) (r : Reg) (v : Word) : (s.wr r v).run.parking = s.run.parking := by
  unfold State.wr; split <;> rfl

end Sys2Proof.Machine
end

