-- ==== Sys2Proof/Laws/Ops.lean ====
section
/-!
SUPPORT. Laws/Ops.lean: what the shared operations do: register accessors, records, counters, retiring, traps, and the
checkpoint (spec/04 R90 to R98; spec/05 R117, R124, R125).
-/

namespace Sys2Proof.Machine

/-! ### Registers -/

/-- S[0] reads as zero (R10). -/
@[simp] theorem State.rd_zero (s : State) : s.rd 0 = 0 := by simp [State.rd]

@[simp] theorem State.wr_zero (s : State) (v : Word) : s.wr 0 v = s := if_pos rfl

theorem State.wr_of_ne (s : State) {d : Reg} (h : d ≠ 0) (v : Word) :
    s.wr d v = s.withCtx { s.run.ctx with s := s.run.ctx.s.set d.toFin v } := if_neg h

theorem State.rd_of_ne (s : State) {r : Reg} (h : r ≠ 0) : s.rd r = s.run.ctx.s[r.toFin] := if_neg h

/-- A read after a write of a scalar register; a write to S[0] has no effect (R10). -/
theorem State.rd_wr (s : State) (d : Reg) (v : Word) (r : Reg) :
    (s.wr d v).rd r = if r = 0 then 0 else if r = d then v else s.rd r := by
  by_cases hr : r = 0
  · rw [if_pos hr, hr, State.rd_zero]
  · rw [if_neg hr]
    by_cases hd : d = 0
    · rw [hd, State.wr_zero, if_neg hr]
    · rw [State.rd_of_ne _ hr, State.wr_of_ne _ hd, State.rd_of_ne _ hr]
      by_cases he : r = d
      · subst he
        rw [if_pos rfl]
        exact Vector.getElem_set_self r.toFin.isLt
      · rw [if_neg he]
        exact Vector.getElem_set_ne d.toFin.isLt r.toFin.isLt (fun e => he (BitVec.eq_of_toNat_eq e.symm))

/-- Operations that keep the scalar file keep every read. -/
theorem State.rd_congr {s t : State} (h : t.run.ctx.s = s.run.ctx.s) (r : Reg) : t.rd r = s.rd r := by
  simp [State.rd, h]

theorem State.rdH_congr {s t : State} (h : t.run.ctx.h = s.run.ctx.h) (r : Reg) : t.rdH r = s.rdH r := by
  simp [State.rdH, h]

@[simp] theorem State.raise_rd (s : State) (f : Flags) (r : Reg) : (s.raise f).rd r = s.rd r := rfl
@[simp] theorem State.wr_rdH (s : State) (d r : Reg) (v : Word) : (s.wr d v).rdH r = s.rdH r := by simp [State.rdH]
@[simp] theorem State.wrH_rd (s : State) (d r : Reg) (v : BitVec 256) : (s.wrH d v).rd r = s.rd r := rfl

/-! ### Records, counters and the replay log: only debugging state changes (R457, R460, R467) -/

theorem State.traceAct_eq (s : State) (k : Nat) (b : List Byte) :
    s.traceAct k b = { s with dbg := (s.traceAct k b).dbg } := by
  unfold State.traceAct State.trace; split
  · split <;> rfl
  · rfl

@[simp] theorem State.traceAct_run (s : State) (k : Nat) (b : List Byte) : (s.traceAct k b).run = s.run := by
  rw [State.traceAct_eq]
@[simp] theorem State.traceAct_core (s : State) (k : Nat) (b : List Byte) : (s.traceAct k b).core = s.core := by
  rw [State.traceAct_eq]
@[simp] theorem State.traceAct_net (s : State) (k : Nat) (b : List Byte) : (s.traceAct k b).net = s.net := by
  rw [State.traceAct_eq]
@[simp] theorem State.traceAct_die (s : State) (k : Nat) (b : List Byte) : (s.traceAct k b).die = s.die := by
  rw [State.traceAct_eq]
@[simp] theorem State.traceAct_pkg (s : State) (k : Nat) (b : List Byte) : (s.traceAct k b).pkg = s.pkg := by
  rw [State.traceAct_eq]

theorem State.record_eq (s : State) (k : ReplaySource) (v : Nat) : s.record k v = { s with dbg := (s.record k v).dbg } := by
  unfold State.record; split
  · rfl
  · split
    · split
      · rfl
      · rw [State.traceAct_eq]
    · rfl

@[simp] theorem State.record_run (s : State) (k : ReplaySource) (v : Nat) : (s.record k v).run = s.run := by
  rw [State.record_eq]
@[simp] theorem State.record_core (s : State) (k : ReplaySource) (v : Nat) : (s.record k v).core = s.core := by
  rw [State.record_eq]
@[simp] theorem State.record_net (s : State) (k : ReplaySource) (v : Nat) : (s.record k v).net = s.net := by
  rw [State.record_eq]
@[simp] theorem State.record_die (s : State) (k : ReplaySource) (v : Nat) : (s.record k v).die = s.die := by
  rw [State.record_eq]
@[simp] theorem State.record_pkg (s : State) (k : ReplaySource) (v : Nat) : (s.record k v).pkg = s.pkg := by
  rw [State.record_eq]
@[simp] theorem State.record_rd (s : State) (k : ReplaySource) (v : Nat) (r : Reg) : (s.record k v).rd r = s.rd r := by
  rw [State.record_eq]; rfl

/-- Counting changes only the counters of the core and, by samples, the trace with its count of lost records. -/
theorem State.countOne_kept (s : State) (i : BitVec 3) (e n : Nat) : ∃ p tr l,
    s.countOne i e n = { s with core := { s.core with pm := p }, dbg := { s.dbg with trace := tr, lost := l } } := by
  unfold State.countOne
  dsimp only
  split
  · split
    · exact ⟨_, _, _, rfl⟩
    · split
      · exact ⟨_, _, _, rfl⟩
      · unfold State.traceAct State.trace; split
        · split <;> exact ⟨_, _, _, rfl⟩
        · exact ⟨_, _, _, rfl⟩
  · exact ⟨_, _, _, rfl⟩

theorem State.counted_again {s t : State}
    (h : ∃ p tr l, t = { s with core := { s.core with pm := p }, dbg := { s.dbg with trace := tr, lost := l } })
    (i : BitVec 3) (e n : Nat) : ∃ p tr l,
    t.countOne i e n = { s with core := { s.core with pm := p }, dbg := { s.dbg with trace := tr, lost := l } } := by
  obtain ⟨p, tr, l, rfl⟩ := h
  obtain ⟨p', tr', l', h⟩ := State.countOne_kept
    { s with core := { s.core with pm := p }, dbg := { s.dbg with trace := tr, lost := l } } i e n
  exact ⟨p', tr', l', h⟩

theorem State.count_kept (s : State) (e n : Nat) : ∃ p tr l,
    s.count e n = { s with core := { s.core with pm := p }, dbg := { s.dbg with trace := tr, lost := l } } :=
  State.counted_again (State.counted_again (State.counted_again (State.counted_again (State.counted_again
    (State.counted_again (State.counted_again (State.countOne_kept s 0 e n) 1 e n) 2 e n) 3 e n) 4 e n) 5 e n) 6 e n) 7 e n

theorem State.count_eq (s : State) (e n : Nat) :
    s.count e n = { s with
      core := { s.core with pm := (s.count e n).core.pm }
      dbg := { s.dbg with trace := (s.count e n).dbg.trace, lost := (s.count e n).dbg.lost } } := by
  obtain ⟨p, tr, l, h⟩ := State.count_kept s e n
  rw [h]

@[simp] theorem State.count_run (s : State) (e n : Nat) : (s.count e n).run = s.run := by rw [State.count_eq]
@[simp] theorem State.count_net (s : State) (e n : Nat) : (s.count e n).net = s.net := by rw [State.count_eq]
@[simp] theorem State.count_die (s : State) (e n : Nat) : (s.count e n).die = s.die := by rw [State.count_eq]
@[simp] theorem State.count_pkg (s : State) (e n : Nat) : (s.count e n).pkg = s.pkg := by rw [State.count_eq]
@[simp] theorem State.count_retired (s : State) (e n : Nat) : (s.count e n).core.retired = s.core.retired := by
  rw [State.count_eq]

/-! ### Retiring (R119, R401) -/

/-- What a retiring instruction changes beside its own effect. -/
theorem State.retireTo_eq (s : State) (pc : Word) :
    s.retireTo pc = { s with
      core := { s.core with retired := s.core.retired + 1, pm := (s.count 2 1).core.pm }
      dbg := { s.dbg with trace := (s.count 2 1).dbg.trace, lost := (s.count 2 1).dbg.lost }
      run := { s.run with
        ctx := { s.run.ctx with pc := pc, lic := s.run.ctx.lic + 1 }
        stall := none, waited := 0, served := false, idleDone := false, sent := none, part := 0, partIdx := []
        watch := none, freed := false, redst := none } } := by
  unfold State.retireTo
  rw [State.count_eq s 2 1]

@[simp] theorem State.retireTo_die (s : State) (pc : Word) : (s.retireTo pc).die = s.die := by rw [State.retireTo_eq]
@[simp] theorem State.retireTo_net (s : State) (pc : Word) : (s.retireTo pc).net = s.net := by rw [State.retireTo_eq]
@[simp] theorem State.retireTo_pkg (s : State) (pc : Word) : (s.retireTo pc).pkg = s.pkg := by rw [State.retireTo_eq]
@[simp] theorem State.retireTo_rd (s : State) (pc : Word) (r : Reg) : (s.retireTo pc).rd r = s.rd r := by
  rw [State.retireTo_eq]; rfl
@[simp] theorem State.retireTo_log (s : State) (pc : Word) : (s.retireTo pc).run.log = s.run.log := by
  rw [State.retireTo_eq]
@[simp] theorem State.retireTo_ctx (s : State) (pc : Word) :
    (s.retireTo pc).run.ctx = { s.run.ctx with pc := pc, lic := s.run.ctx.lic + 1 } := by rw [State.retireTo_eq]

/-- An instruction that retires at once is counted, waits for nothing, and leaves the PC at its target. -/
theorem State.retireTo_retired (s : State) (pc : Word) : s.RetiredAt (s.retireTo pc) pc := by
  rw [State.retireTo_eq]; exact ⟨rfl, rfl, rfl, rfl⟩

/-- It keeps what `Kept` says. -/
theorem State.retireTo_kept (s : State) (pc : Word) : s.Kept (s.retireTo pc) := by
  rw [State.retireTo_eq]; rfl

/-- A byte as the activation sees it depends on its log, the memory, the tags, the activation and the choice alone. -/
theorem State.seen_congr {s t : State} (h1 : t.run.log = s.run.log) (h2 : t.die = s.die) (h3 : t.run.act = s.run.act)
    (h4 : t.pkg = s.pkg) (h5 : t.fresh = s.fresh) (h6 : t.run.path = s.run.path) (a : Nat) : t.seen a = s.seen a := by
  have hm : State.missed t = State.missed s := by funext b; unfold State.missed; rw [h5, h6]
  unfold State.seen State.speculative State.ownKey State.lcore State.memByte
  rw [h1, h2, h3, h4, hm]

@[simp] theorem State.retireTo_seen (s : State) (pc : Word) (a : Nat) : (s.retireTo pc).seen a = s.seen a := by
  apply State.seen_congr <;> rw [State.retireTo_eq]

/-- The end of an instruction is always a next state. -/
theorem finish_next (len : Nat) (pc : Word) (r : Res) : ∃ t, finish len pc r = .next t := by
  cases r <;> exact ⟨_, rfl⟩

theorem runBody_next (len : Nat) (s : State) (body : State → Res) : ∃ t, runBody len s body = .next t :=
  finish_next _ _ _

/-! ### Traps (R124, R125) -/

/-- A trap at user level with TVEC set enters its handler. -/
theorem State.takeTrap_eq {s : State} (h : s.Trappable) (code : Nat) (val ret : Word) :
    s.takeTrap code val ret = (s.withCtx { s.run.ctx with
      epc := ret &&& ~~~3#64, tcause := BitVec.ofNat 6 code, tval := val, ppriv := false, priv := true
      pc := s.core.tvec }).clearWait := by
  have hp : s.run.ctx.priv = false := h.1
  have ht : (s.core.tvec == 0) = false := by simpa using h.2
  unfold State.takeTrap
  simp only [hp, ht, Bool.or_false, Bool.false_eq_true, if_false]

/-- It changes only the running context and the kept wait. -/
theorem State.takeTrap_kept {s : State} (h : s.Trappable) (code : Nat) (val ret : Word) :
    s.Kept (s.takeTrap code val ret) := by
  rw [State.takeTrap_eq h]; rfl

/-! ### Slots and streams (R108, R285) -/

/-- Releasing a slot changes only the slots of the network interface. -/
theorem State.releaseSlot_eq (s : State) (i : BitVec 5) :
    s.releaseSlot i = { s with net := { s.net with slots := (s.releaseSlot i).net.slots } } := by
  unfold State.releaseSlot
  split
  · split <;> rfl
  · rfl

theorem State.dropBinding_eq (s : State) (i : BitVec 5) :
    s.dropBinding i = { s with net := { s.net with slots := (s.dropBinding i).net.slots } } := by
  unfold State.dropBinding
  dsimp only
  split
  · exact State.releaseSlot_eq s i
  · rfl

theorem releaseFold_eq (l : List (BitVec 5)) : ∀ (acc : State × Nat × List (BitVec 5)),
    (l.foldl (fun (acc : State × Nat × List (BitVec 5)) i =>
      let bytes := 4 * (acc.1.slot i).pkt.len.toNat
      if acc.2.2.isEmpty && bytes ≤ acc.2.1 then (acc.1.releaseSlot i, acc.2.1 - bytes, [])
      else (acc.1, acc.2.1, acc.2.2 ++ [i])) acc).1 =
    { acc.1 with net := { acc.1.net with slots := (l.foldl (fun (acc : State × Nat × List (BitVec 5)) i =>
      let bytes := 4 * (acc.1.slot i).pkt.len.toNat
      if acc.2.2.isEmpty && bytes ≤ acc.2.1 then (acc.1.releaseSlot i, acc.2.1 - bytes, [])
      else (acc.1, acc.2.1, acc.2.2 ++ [i])) acc).1.net.slots } } := by
  induction l with
  | nil => intro acc; rfl
  | cons i l ih =>
    intro acc
    simp only [List.foldl_cons]
    split
    · rw [ih]
      simp only
      rw [State.releaseSlot_eq]
    · rw [ih]

/-- Releasing what a stream has consumed changes its register, its stream, the slots and the in-links, nothing else. -/
theorem State.releaseConsumed_eq (s : State) (r : BitVec 3) :
    s.releaseConsumed r = { s with
      net := { s.net with
        slots := (s.releaseConsumed r).net.slots
        inPrev := (s.releaseConsumed r).net.inPrev
        inNext := (s.releaseConsumed r).net.inNext }
      run := { s.run with
        ctx := { s.run.ctx with q := (s.releaseConsumed r).run.ctx.q }
        streams := (s.releaseConsumed r).run.streams } } := by
  unfold State.releaseConsumed
  dsimp only
  split
  · rfl
  · rfl
  · simp only [State.wrQ_run, State.wrQ_net]
    conv => lhs; rw [releaseFold_eq]
    conv => rhs; rw [releaseFold_eq]
    rfl
  · rfl

end Sys2Proof.Machine
end

