-- ==== Sys2Proof/Laws/Checkpoint.lean ====
section
/-!
SUPPORT. Laws/Checkpoint.lean: what a commit, a snapshot and a checkpoint leave as it was, and that the shared operations on
memory keep its canonical form (spec/04 R90 to R98; spec/20 R436 to R440).
-/

namespace Sys2Proof.Machine

/-! ### Homes: only the homes' state changes -/

theorem State.applyRound_eq (s : State) (f a k : Nat) : s.applyRound f a k = { s with die := (s.applyRound f a k).die } := rfl

theorem State.closeRound_eq (s : State) (w : Window) (a : Nat) : s.closeRound w a = { s with die := (s.closeRound w a).die } := by
  unfold State.closeRound
  dsimp only
  split
  · exact State.applyRound_eq _ _ _ _
  · rfl

theorem State.contribute_eq (s : State) (a c : Nat) (x : BitVec 32) :
    s.contribute a c x = { s with die := (s.contribute a c x).die, fresh := (s.contribute a c x).fresh } := by
  unfold State.contribute
  dsimp only
  split
  · rw [State.closeRound_eq, State.closeRound_eq]
  · rfl

/-- Time passes for the counters in their sets, the active set and the time that it has left (R460). -/
theorem CoreSt.passTime_kept : ∀ (f : Nat) (c : CoreSt) (n : Nat), ∃ p a l,
    CoreSt.passTime f c n = { c with pm := p, pmActive := a, pmLeft := l }
  | 0, c, _ => ⟨c.pm, c.pmActive, c.pmLeft, rfl⟩
  | f + 1, c, n => by
    have hr : ∃ a l, (if c.rotateDue then c.rotate else c) = { c with pmActive := a, pmLeft := l } := by
      split
      · exact ⟨_, _, rfl⟩
      · exact ⟨_, _, rfl⟩
    obtain ⟨a, l, hr⟩ := hr
    unfold CoreSt.passTime
    dsimp only
    rw [hr]
    split
    · exact ⟨_, _, _, rfl⟩
    · split
      · exact ⟨_, _, _, rfl⟩
      · obtain ⟨p', a', l', h⟩ := CoreSt.passTime_kept f
          { CoreSt.passSets { c with pmActive := a, pmLeft := l } l with pmLeft := 0 } (n - l)
        exact ⟨p', a', l', h⟩

/-- What time changes: CYCLE, and of the core the counters. -/
theorem State.pass_kept (s : State) (n : Nat) : ∃ c p a l,
    s.pass n = { s with cycle := c, core := { s.core with pm := p, pmActive := a, pmLeft := l } } := by
  unfold State.pass
  split
  · obtain ⟨p, a, l, h⟩ := CoreSt.passTime_kept (n + 1) s.core n
    rw [h]
    exact ⟨_, _, _, _, rfl⟩
  · exact ⟨_, s.core.pm, s.core.pmActive, s.core.pmLeft, rfl⟩

theorem State.applyCell_eq (s : State) (c : CoreNum) (a : Nat) (v : AdjCell) :
    s.applyCell c a v = { s with die := (s.applyCell c a v).die, fresh := (s.applyCell c a v).fresh } := by
  unfold State.applyCell
  split
  · rfl
  · split
    · rfl
    · split
      · exact State.contribute_eq _ _ _ _
      · rfl

theorem applyCells_eq : ∀ (l : List (Nat × AdjCell)) (s : State),
    l.foldl (fun s p => s.applyCell s.lcore p.1 p.2) s =
      { s with
        die := (l.foldl (fun s p => s.applyCell s.lcore p.1 p.2) s).die
        fresh := (l.foldl (fun s p => s.applyCell s.lcore p.1 p.2) s).fresh }
  | [], _ => rfl
  | p :: l, s => by
    simp only [List.foldl_cons]
    rw [applyCells_eq l, State.applyCell_eq]

theorem State.abortOthers_eq (s : State) (ks : List OrdKey) :
    s.abortOthers ks = { s with die := (s.abortOthers ks).die, saved := (s.abortOthers ks).saved } := rfl

/-- Waiting for a refresh takes time, and nothing else. -/
theorem State.awaitRefresh_kept (s : State) (a : Nat) :
    ∃ c p b l, s.awaitRefresh a = { s with cycle := c, core := { s.core with pm := p, pmActive := b, pmLeft := l } } := by
  unfold State.awaitRefresh
  split
  · exact ⟨s.cycle, s.core.pm, s.core.pmActive, s.core.pmLeft, rfl⟩
  · exact State.pass_kept _ _

theorem State.awaitLines_kept : ∀ (l : List Nat) (s : State),
    ∃ c p b r, s.awaitLines l = { s with cycle := c, core := { s.core with pm := p, pmActive := b, pmLeft := r } }
  | [], s => ⟨s.cycle, s.core.pm, s.core.pmActive, s.core.pmLeft, rfl⟩
  | a :: l, s => by
    obtain ⟨c, p, b, r, h⟩ := State.awaitRefresh_kept s (64 * a)
    obtain ⟨c', p', b', r', h'⟩ := State.awaitLines_kept l (s.awaitRefresh (64 * a))
    refine ⟨c', p', b', r', ?_⟩
    simp only [State.awaitLines]
    rw [h', h]

/-- A change of code leaves the old bytes for fetches, and nothing else. -/
theorem State.keepCode_kept (s : State) (as : List Nat) :
    ∃ o, s.keepCode as = { s with core := { s.core with codeOld := o } } := by
  unfold State.keepCode
  split
  · exact ⟨_, rfl⟩
  · exact ⟨_, rfl⟩

/-! ### Commits (R93, R94) -/

/-- What comes before a commit's bytes: readers abort, refreshes pass, old code is kept. -/
theorem State.commitStart_kept (s : State) (ls as : List Nat) (ks : List OrdKey) : ∃ d v c p b r o,
    ((if s.ordered then s else s.abortOthers ks).awaitLines ls).keepCode as =
      { s with die := d, saved := v, cycle := c
               core := { s.core with pm := p, pmActive := b, pmLeft := r, codeOld := o } } ∧ d.mem = s.die.mem := by
  have hu : ∃ d v, (if s.ordered then s else s.abortOthers ks) = { s with die := d, saved := v } ∧ d.mem = s.die.mem := by
    split
    · exact ⟨s.die, s.saved, rfl, rfl⟩
    · exact ⟨_, _, rfl, rfl⟩
  obtain ⟨d, v, hd, hm⟩ := hu
  obtain ⟨c, p, b, r, hc⟩ := State.awaitLines_kept ls { s with die := d, saved := v }
  obtain ⟨o, ho⟩ := State.keepCode_kept
    { s with die := d, saved := v, cycle := c, core := { s.core with pm := p, pmActive := b, pmLeft := r } } as
  exact ⟨d, v, c, p, b, r, o, by rw [hd, hc, ho], hm⟩

/-- A commit empties the log and changes, beside it, only the homes, what the core is owed, the marks of saved contexts, time, what
fetches may still miss and the place in the free values. -/
theorem State.commitLog_eq (s : State) :
    s.commitLog = { s with
      die := s.commitLog.die
      saved := s.commitLog.saved
      cycle := s.commitLog.cycle
      fresh := s.commitLog.fresh
      core := { s.core with
        pm := s.commitLog.core.pm, pmActive := s.commitLog.core.pmActive, pmLeft := s.commitLog.core.pmLeft
        codeOld := s.commitLog.core.codeOld }
      run := { s.run with log := [], adj := [], commit := none, acks := s.commitLog.run.acks } } := by
  unfold State.commitLog
  dsimp only
  obtain ⟨d, v, c, p, b, r, o, h, _⟩ := State.commitStart_kept s (s.logLines.filter (fun l => isCaldera (64 * l)))
    (s.run.log.map Prod.fst) (s.readersOf (s.logLines ++ s.adjLines) none)
  have hr : (if s.ordered = true then s else s.abortOthers (s.readersOf (s.logLines ++ s.adjLines) none)).run = s.run := by
    split <;> rfl
  rw [hr, h, applyCells_eq]

@[simp] theorem State.commitLog_ctx (s : State) : s.commitLog.run.ctx = s.run.ctx := by rw [State.commitLog_eq]
@[simp] theorem State.commitLog_log (s : State) : s.commitLog.run.log = [] := by rw [State.commitLog_eq]
@[simp] theorem State.commitLog_adj (s : State) : s.commitLog.run.adj = [] := by rw [State.commitLog_eq]
@[simp] theorem State.commitLog_act (s : State) : s.commitLog.run.act = s.run.act := by rw [State.commitLog_eq]
@[simp] theorem State.commitLog_net (s : State) : s.commitLog.net = s.net := by rw [State.commitLog_eq]
theorem State.commitLog_core (s : State) : s.commitLog.core =
    { s.core with
      pm := s.commitLog.core.pm, pmActive := s.commitLog.core.pmActive, pmLeft := s.commitLog.core.pmLeft
      codeOld := s.commitLog.core.codeOld } := by rw [State.commitLog_eq]
@[simp] theorem State.commitLog_pkg (s : State) : s.commitLog.pkg = s.pkg := by rw [State.commitLog_eq]

/-! ### The snapshot (R90) -/

theorem qfold_kept : ∀ (l : List (BitVec 3)) (s : State), ∃ sl ip inx q st,
    l.foldl (fun s r => s.releaseConsumed r) s = { s with
      net := { s.net with slots := sl, inPrev := ip, inNext := inx }
      run := { s.run with ctx := { s.run.ctx with q := q }, streams := st } }
  | [], s => ⟨s.net.slots, s.net.inPrev, s.net.inNext, s.run.ctx.q, s.run.streams, rfl⟩
  | r :: l, s => by
    simp only [List.foldl_cons]
    obtain ⟨sl, ip, inx, q, st, h⟩ := qfold_kept l (s.releaseConsumed r)
    refine ⟨sl, ip, inx, q, st, ?_⟩
    rw [h, State.releaseConsumed_eq s r]

/-- Releasing slots changes only the slots. -/
theorem releaseSlots_kept : ∀ (l : List (BitVec 5)) (s : State), ∃ sl,
    l.foldl (fun s i => s.releaseSlot i) s = { s with net := { s.net with slots := sl } }
  | [], s => ⟨s.net.slots, rfl⟩
  | i :: l, s => by
    simp only [List.foldl_cons]
    obtain ⟨sl, h⟩ := releaseSlots_kept l (s.releaseSlot i)
    refine ⟨sl, ?_⟩
    rw [h, State.releaseSlot_eq s i]

theorem State.releaseEnded_kept (s : State) : ∃ sl,
    s.releaseEnded = { s with net := { s.net with slots := sl }, run := { s.run with ended := [] } } := by
  obtain ⟨sl, h⟩ := releaseSlots_kept (s.run.ended.filterMap Prod.snd) s
  exact ⟨sl, by unfold State.releaseEnded; rw [h]⟩

theorem State.selfLink_eq (s : State) : s.selfLink = { s with net := s.selfLink.net } := by
  unfold State.selfLink; split <;> rfl

/-- A snapshot keeps memory, the package and every register but the stream registers; the read set and the claims are empty. -/
theorem State.snapshot_kept (s : State) (r : Word) :
    (s.snapshot r).die = s.die ∧ (s.snapshot r).pkg = s.pkg ∧ (s.snapshot r).run.act = s.run.act ∧
    (s.snapshot r).run.log = s.run.log ∧ (s.snapshot r).run.adj = s.run.adj ∧ (s.snapshot r).run.mx = s.run.mx ∧
    (s.snapshot r).run.acks = s.run.acks ∧ (s.snapshot r).run.stall = s.run.stall ∧
    (s.snapshot r).run.readSet = [] ∧ (s.snapshot r).run.claimed = [] ∧ (s.snapshot r).run.snap.pc = r ∧
    (s.snapshot r).core.retired = s.core.retired ∧ (s.snapshot r).core.tvec = s.core.tvec ∧
    (s.snapshot r).core.chans = s.core.chans ∧
    (s.snapshot r).run.ctx = { s.run.ctx with
      q := (s.snapshot r).run.ctx.q, live := (s.snapshot r).run.ctx.live, reissue := (s.snapshot r).run.ctx.reissue } ∧
    (s.snapshot r).run.snap = { (s.snapshot r).run.ctx with pc := r } := by
  unfold State.snapshot
  dsimp only
  obtain ⟨sl, ip, inx, q, st, h⟩ := qfold_kept qregs s
  rw [h]
  obtain ⟨sl', h'⟩ := State.releaseEnded_kept { s with
    net := { s.net with slots := sl, inPrev := ip, inNext := inx }
    run := { s.run with ctx := { s.run.ctx with q := q }, streams := st } }
  rw [h', State.selfLink_eq]
  dsimp only
  generalize State.selfLink _ = u
  rw [State.count_eq]
  exact ⟨rfl, rfl, rfl, rfl, rfl, rfl, rfl, rfl, rfl, rfl, rfl, rfl, rfl, rfl, rfl, rfl⟩

/-! ### Checkpoints (R90, R91) -/

/-- A checkpoint that does not wait commits the log and records the snapshot. -/
theorem State.checkpoint_ok {s t : State} {r : Word} (h : s.checkpoint r = .ok t) : t = s.checkpointNow r := by
  unfold State.checkpoint at h
  iterate 4 (split at h; · cases h)
  split at h
  · split at h
    · exact (Except.ok.inj h).symm
    · cases h
  · split at h
    · exact (Except.ok.inj h).symm
    · cases h

/-- The checkpoint before an irrevocable instruction leaves nothing owed. -/
theorem State.checkpointAck_ok {s t : State} (h : s.checkpointAck = .ok t) :
    t = s.checkpointNow s.run.ctx.pc ∧ t.run.acks = 0 ∧ t.deferredOf t.lcore = false := by
  unfold State.checkpointAck at h
  split at h
  · cases h
  · rename_i u hu
    split at h
    · cases h
    · split at h
      · cases h
      · have e := Except.ok.inj h
        subst e
        exact ⟨State.checkpoint_ok hu, by simpa using ‹¬(u.run.acks != 0) = true›, by simpa using ‹¬u.deferredOf u.lcore = true›⟩

/-- What such a checkpoint keeps: every register but the stream registers, the activation, the package; the log is empty. -/
theorem State.checkpointNow_kept (s : State) (r : Word) :
    (s.checkpointNow r).pkg = s.pkg ∧ (s.checkpointNow r).run.act = s.run.act ∧ (s.checkpointNow r).run.log = [] ∧
    (s.checkpointNow r).run.adj = [] ∧ (s.checkpointNow r).run.mx = s.run.mx ∧
    (s.checkpointNow r).run.stall = s.run.stall ∧ (s.checkpointNow r).core.retired = s.core.retired ∧
    (s.checkpointNow r).core.tvec = s.core.tvec ∧ (s.checkpointNow r).core.chans = s.core.chans ∧
    (s.checkpointNow r).die = s.commitLog.die ∧
    (s.checkpointNow r).run.ctx = { s.run.ctx with
      q := (s.checkpointNow r).run.ctx.q
      live := (s.checkpointNow r).run.ctx.live
      reissue := (s.checkpointNow r).run.ctx.reissue } := by
  obtain ⟨h1, h2, h3, h4, h5, h6, _, h8, _, _, _, h12, h13, h14, h15, _⟩ := s.commitLog.snapshot_kept r
  refine ⟨?_, ?_, ?_, ?_, ?_, ?_, ?_, ?_, ?_, h1, ?_⟩
  · exact h2.trans s.commitLog_pkg
  · exact h3.trans s.commitLog_act
  · exact h4.trans s.commitLog_log
  · exact h5.trans s.commitLog_adj
  · exact h6.trans (by rw [State.commitLog_eq])
  · exact h8.trans (by rw [State.commitLog_eq])
  · exact h12.trans (by rw [State.commitLog_eq])
  · exact h13.trans (by rw [State.commitLog_eq])
  · exact h14.trans (by rw [State.commitLog_eq])
  · exact h15.trans (by rw [State.commitLog_ctx]; rfl)

theorem State.checkpointNow_rd (s : State) (r : Word) (x : Reg) : (s.checkpointNow r).rd x = s.rd x :=
  State.rd_congr (by rw [(s.checkpointNow_kept r).2.2.2.2.2.2.2.2.2.2]) x

theorem State.checkpointNow_rdH (s : State) (r : Word) (x : Reg) : (s.checkpointNow r).rdH x = s.rdH x :=
  State.rdH_congr (by rw [(s.checkpointNow_kept r).2.2.2.2.2.2.2.2.2.2]) x

/-! ### The canonical form of memory under the shared operations -/

theorem windowAdd_wf (f : Nat) {m : Memory} (h : m.wf = true) (a : Nat) (x : BitVec 32) : (windowAdd f m a x).wf = true := by
  unfold windowAdd; split <;> exact Memory.put_wf _ _ h

theorem applyAdds_wf (f a : Nat) : ∀ (cs : List Contribution) (m : Memory), m.wf = true → (applyAdds f m a cs).wf = true
  | [], _, h => h
  | _ :: cs, _, h => applyAdds_wf f a cs _ (windowAdd_wf f h a _)

theorem State.applyRound_memOk {s : State} (h : s.MemOk) (f a k : Nat) : (s.applyRound f a k).MemOk := by
  unfold State.applyRound State.MemOk State.setClosed
  dsimp only
  split
  · exact h
  · exact windowAdd_wf _ h _ _

theorem State.closeRound_memOk {s : State} (h : s.MemOk) (w : Window) (a : Nat) : (s.closeRound w a).MemOk := by
  unfold State.closeRound
  dsimp only
  split
  · exact State.applyRound_memOk h _ _ _
  · exact h

theorem State.contribute_memOk {s : State} (h : s.MemOk) (a c : Nat) (x : BitVec 32) : (s.contribute a c x).MemOk := by
  unfold State.contribute
  dsimp only
  split
  · refine State.closeRound_memOk (State.closeRound_memOk ?_ _ _) _ _
    exact h
  · exact applyAdds_wf _ _ _ _ h

theorem State.applyCell_memOk {s : State} (h : s.MemOk) (c : CoreNum) (a : Nat) (v : AdjCell) : (s.applyCell c a v).MemOk := by
  unfold State.applyCell
  split
  · exact Memory.put_wf _ _ h
  · split
    · exact h
    · split
      · exact State.contribute_memOk h _ _ _
      · exact Memory.put_wf _ _ h

theorem applyCells_memOk : ∀ (l : List (Nat × AdjCell)) (s : State), s.MemOk →
    (l.foldl (fun s p => s.applyCell s.lcore p.1 p.2) s).MemOk
  | [], _, h => h
  | p :: l, s, h => applyCells_memOk l _ (State.applyCell_memOk h s.lcore p.1 p.2)

theorem State.commitLog_memOk {s : State} (h : s.MemOk) : s.commitLog.MemOk := by
  obtain ⟨d, v, c, p, b, r, o, h', hm⟩ := State.commitStart_kept s (s.logLines.filter (fun l => isCaldera (64 * l)))
    (s.run.log.map Prod.fst) (s.readersOf (s.logLines ++ s.adjLines) none)
  have hr : (if s.ordered = true then s else s.abortOthers (s.readersOf (s.logLines ++ s.adjLines) none)).run = s.run := by
    split <;> rfl
  unfold State.commitLog
  dsimp only
  rw [hr, h']
  refine applyCells_memOk _ _ ?_
  unfold State.MemOk
  dsimp only
  rw [hm]
  exact Memory.apply_wf _ h

theorem State.snapshot_memOk {s : State} (h : s.MemOk) (r : Word) : (s.snapshot r).MemOk := by
  unfold State.MemOk; rw [(s.snapshot_kept r).1]; exact h

theorem State.checkpointNow_memOk {s : State} (h : s.MemOk) (r : Word) : (s.checkpointNow r).MemOk :=
  State.snapshot_memOk (State.commitLog_memOk h) r

theorem State.checkpoint_memOk {s t : State} {r : Word} (h : s.MemOk) (e : s.checkpoint r = .ok t) : t.MemOk := by
  rw [State.checkpoint_ok e]; exact State.checkpointNow_memOk h r

theorem State.checkpointAck_memOk {s t : State} (h : s.MemOk) (e : s.checkpointAck = .ok t) : t.MemOk := by
  rw [(State.checkpointAck_ok e).1]; exact State.checkpointNow_memOk h _

theorem State.putMap_memOk {s : State} (h : s.MemOk) (m : ByteMap) : (s.putMap m).MemOk := by
  unfold State.putMap
  obtain ⟨o, ho⟩ := State.keepCode_kept (s.abortOthers (s.readersOf (linesOf (m.map Prod.fst)) none)) (m.map Prod.fst)
  dsimp only
  rw [ho]
  exact Memory.apply_wf _ h

theorem State.logStore_memOk {s : State} (h : s.MemOk) (a : Nat) (bs : List Byte) : (s.logStore a bs).MemOk := by
  unfold State.logStore State.tagWrite
  dsimp only
  split <;> exact h

/-- What paths may see late is no memory (R162). -/
theorem State.noteWrite_mem (s : State) (c : Nat) (key : Nat → Nat) (as : List Nat) :
    (s.noteWrite c key as).die.mem = s.die.mem := by
  unfold State.noteWrite State.noteFrom; split <;> rfl

theorem State.putAs_memOk {s : State} (h : s.MemOk) (c a : Nat) (bs : List Byte) (key : Nat → Nat) :
    (s.putAs c a bs key).MemOk := by
  unfold State.putAs
  split
  · unfold State.MemOk
    dsimp only
    rw [State.noteWrite_mem]
    exact Memory.put_wf _ _ h
  · exact State.logStore_memOk h a bs

theorem State.putBytes_memOk {s : State} (h : s.MemOk) (a : Nat) (bs : List Byte) : (s.putBytes a bs).MemOk :=
  State.putAs_memOk h 0 a bs _

theorem State.retireTo_memOk {s : State} (h : s.MemOk) (pc : Word) : (s.retireTo pc).MemOk := by
  unfold State.MemOk; rw [State.retireTo_die]; exact h

end Sys2Proof.Machine
end

