-- ==== Sys2Proof/Laws/Decode.lean ====
section
/-!
SUPPORT. Laws/Decode.lean: the fields that decode reads from words made of fields (spec/02 R41 to R44), and the words that
LEN counts (R37).
-/

namespace Sys2Proof

/-! ### Fields of concatenations -/

/-- A field above the lower part of a concatenation. -/
theorem extract_above {v w : Nat} (x : BitVec w) (y : BitVec v) (k n : Nat) :
    (x ++ y).extractLsb' (v + k) n = x.extractLsb' k n := by
  ext i hi
  simp only [BitVec.getElem_extractLsb', BitVec.getLsbD_append]
  rw [if_neg (by omega)]
  congr 1
  omega

/-- A field within the lower part of a concatenation. -/
theorem extract_within {v w : Nat} (x : BitVec w) (y : BitVec v) (k n : Nat) (h : k + n ≤ v) :
    (x ++ y).extractLsb' k n = y.extractLsb' k n := by
  ext i hi
  simp only [BitVec.getElem_extractLsb', BitVec.getLsbD_append]
  rw [if_pos (by omega)]

/-- The field that is the whole. -/
theorem extract_whole {w : Nat} (x : BitVec w) : x.extractLsb' 0 w = x := by
  ext i hi
  simp

/-! ### Format RRR -/

section rrr
variable (len : BitVec 2) (opc : BitVec 9) (fn : BitVec 3) (b a d : Reg)

@[simp] theorem lenOf_rrr : lenOf (rrr len opc fn b a d) = len := by
  unfold lenOf rrr
  rw [extract_within _ _ 0 2 (by omega), extract_whole]

@[simp] theorem opcOf_rrr : opcOf (rrr len opc fn b a d) = opc := by
  unfold opcOf rrr
  rw [extract_above _ _ 0 9, extract_within _ _ 0 9 (by omega), extract_whole]

theorem fd_rrr : (rrr len opc fn b a d).extractLsb' 11 6 = d := by
  unfold rrr
  rw [extract_above _ _ 9 6, extract_above _ _ 0 6, extract_within _ _ 0 6 (by omega), extract_whole]

theorem fa_rrr : (rrr len opc fn b a d).extractLsb' 17 6 = a := by
  unfold rrr
  rw [extract_above _ _ 15 6, extract_above _ _ 6 6, extract_above _ _ 0 6, extract_within _ _ 0 6 (by omega), extract_whole]

theorem fb_rrr : (rrr len opc fn b a d).extractLsb' 23 6 = b := by
  unfold rrr
  rw [extract_above _ _ 21 6, extract_above _ _ 12 6, extract_above _ _ 6 6, extract_above _ _ 0 6,
    extract_within _ _ 0 6 (by omega), extract_whole]

theorem fn_rrr : (rrr len opc fn b a d).extractLsb' 29 3 = fn := by
  unfold rrr
  rw [extract_above _ _ 27 3, extract_above _ _ 18 3, extract_above _ _ 12 3, extract_above _ _ 6 3,
    extract_above _ _ 0 3, extract_whole]

end rrr

/-! ### Formats RRI, RI15 and HHH -/

section rri
variable (len : BitVec 2) (opc : BitVec 9) (i : BitVec 9) (a d : Reg)

@[simp] theorem lenOf_rri : lenOf (rri len opc i a d) = len := by
  unfold lenOf rri
  rw [extract_within _ _ 0 2 (by omega), extract_whole]

@[simp] theorem opcOf_rri : opcOf (rri len opc i a d) = opc := by
  unfold opcOf rri
  rw [extract_above _ _ 0 9, extract_within _ _ 0 9 (by omega), extract_whole]

theorem fd_rri : (rri len opc i a d).extractLsb' 11 6 = d := by
  unfold rri
  rw [extract_above _ _ 9 6, extract_above _ _ 0 6, extract_within _ _ 0 6 (by omega), extract_whole]

theorem fa_rri : (rri len opc i a d).extractLsb' 17 6 = a := by
  unfold rri
  rw [extract_above _ _ 15 6, extract_above _ _ 6 6, extract_above _ _ 0 6, extract_within _ _ 0 6 (by omega), extract_whole]

theorem i9_rri : (rri len opc i a d).extractLsb' 23 9 = i := by
  unfold rri
  rw [extract_above _ _ 21 9, extract_above _ _ 12 9, extract_above _ _ 6 9, extract_above _ _ 0 9, extract_whole]

end rri

section ri15
variable (len : BitVec 2) (opc : BitVec 9) (i : BitVec 15) (d : Reg)

@[simp] theorem lenOf_ri15 : lenOf (ri15 len opc i d) = len := by
  unfold lenOf ri15
  rw [extract_within _ _ 0 2 (by omega), extract_whole]

@[simp] theorem opcOf_ri15 : opcOf (ri15 len opc i d) = opc := by
  unfold opcOf ri15
  rw [extract_above _ _ 0 9, extract_within _ _ 0 9 (by omega), extract_whole]

theorem fd_ri15 : (ri15 len opc i d).extractLsb' 11 6 = d := by
  unfold ri15
  rw [extract_above _ _ 9 6, extract_above _ _ 0 6, extract_within _ _ 0 6 (by omega), extract_whole]

theorem i15_ri15 : (ri15 len opc i d).extractLsb' 17 15 = i := by
  unfold ri15
  rw [extract_above _ _ 15 15, extract_above _ _ 6 15, extract_above _ _ 0 15, extract_whole]

end ri15

section hhh
variable (len : BitVec 2) (opc : BitVec 9) (fn : BitVec 6) (hb ha hd : BitVec 5)

@[simp] theorem lenOf_hhh : lenOf (hhh len opc fn hb ha hd) = len := by
  unfold lenOf hhh
  rw [extract_within _ _ 0 2 (by omega), extract_whole]

@[simp] theorem opcOf_hhh : opcOf (hhh len opc fn hb ha hd) = opc := by
  unfold opcOf hhh
  rw [extract_above _ _ 0 9, extract_within _ _ 0 9 (by omega), extract_whole]

theorem hd_hhh : (hhh len opc fn hb ha hd).extractLsb' 11 5 = hd := by
  unfold hhh
  rw [extract_above _ _ 9 5, extract_above _ _ 0 5, extract_within _ _ 0 5 (by omega), extract_whole]

theorem ha_hhh : (hhh len opc fn hb ha hd).extractLsb' 16 5 = ha := by
  unfold hhh
  rw [extract_above _ _ 14 5, extract_above _ _ 5 5, extract_above _ _ 0 5, extract_within _ _ 0 5 (by omega), extract_whole]

theorem hb_hhh : (hhh len opc fn hb ha hd).extractLsb' 21 5 = hb := by
  unfold hhh
  rw [extract_above _ _ 19 5, extract_above _ _ 10 5, extract_above _ _ 5 5, extract_above _ _ 0 5,
    extract_within _ _ 0 5 (by omega), extract_whole]

theorem fn6_hhh : (hhh len opc fn hb ha hd).extractLsb' 26 6 = fn := by
  unfold hhh
  rw [extract_above _ _ 24 6, extract_above _ _ 15 6, extract_above _ _ 10 6, extract_above _ _ 5 6,
    extract_above _ _ 0 6, extract_whole]

end hhh

/-! ### Literals -/

/-- The two words of a literal make it up again (R39). -/
theorem literal_words (l : Word) : l.extractLsb' 32 32 ++ l.extractLsb' 0 32 = l := by
  ext i hi
  simp only [BitVec.getElem_append, BitVec.getElem_extractLsb']
  split
  · simp [BitVec.getLsbD_eq_getElem, hi]
  · rw [show 32 + (i - 32) = i by omega, BitVec.getLsbD_eq_getElem hi]

/-! ### Bytes -/

/-- A word is made up again by its bytes (R4). -/
theorem wordOfBytes_parts (w : BitVec 32) :
    wordOfBytes (w.extractLsb' 0 8) (w.extractLsb' 8 8) (w.extractLsb' 16 8) (w.extractLsb' 24 8) = w := by
  unfold wordOfBytes
  ext i hi
  simp only [BitVec.getElem_append, BitVec.getElem_extractLsb']
  split
  · simp [BitVec.getLsbD_eq_getElem, hi]
  · split
    · rw [show 8 + (i - 8) = i by omega, BitVec.getLsbD_eq_getElem hi]
    · split
      · rw [show 16 + (i - 8 - 8) = i by omega, BitVec.getLsbD_eq_getElem hi]
      · rw [show 24 + (i - 8 - 8 - 8) = i by omega, BitVec.getLsbD_eq_getElem hi]

end Sys2Proof
end

