-- ==== Sys2Proof/Laws/PerInstr.lean ====
section
/-!
SUPPORT. Laws/PerInstr.lean: of every instruction: an event has no words, and any other has as many as the LEN field of its
first word counts (spec/02 R37).
-/

namespace Sys2Proof.Laws

/-- No words, or as many as LEN counts; the word that is no instruction is fetched as one. -/
def Length.Statement (i : Instr) : Prop :=
  encode i = [] ∨ (encode i).length = wordCount (lenOf i.word) ∨ ∃ w b, i = .nonInstruction w b

open Length (Statement)

theorem Length.add (d a b : Reg) : Statement (.add d a b) :=
  .inr (.inl (congrArg wordCount (lenOf_rrr 0 0x000 0 b a d)).symm)
theorem Length.sub (d a b : Reg) : Statement (.sub d a b) :=
  .inr (.inl (congrArg wordCount (lenOf_rrr 0 0x001 0 b a d)).symm)
theorem Length.mul (d a b : Reg) : Statement (.mul d a b) :=
  .inr (.inl (congrArg wordCount (lenOf_rrr 0 0x002 0 b a d)).symm)
theorem Length.mulhS (d a b : Reg) : Statement (.mulhS d a b) :=
  .inr (.inl (congrArg wordCount (lenOf_rrr 0 0x003 0 b a d)).symm)
theorem Length.mulhZ (d a b : Reg) : Statement (.mulhZ d a b) :=
  .inr (.inl (congrArg wordCount (lenOf_rrr 0 0x004 0 b a d)).symm)
theorem Length.divS (d a b : Reg) : Statement (.divS d a b) :=
  .inr (.inl (congrArg wordCount (lenOf_rrr 0 0x005 0 b a d)).symm)
theorem Length.divZ (d a b : Reg) : Statement (.divZ d a b) :=
  .inr (.inl (congrArg wordCount (lenOf_rrr 0 0x006 0 b a d)).symm)
theorem Length.remS (d a b : Reg) : Statement (.remS d a b) :=
  .inr (.inl (congrArg wordCount (lenOf_rrr 0 0x007 0 b a d)).symm)
theorem Length.remZ (d a b : Reg) : Statement (.remZ d a b) :=
  .inr (.inl (congrArg wordCount (lenOf_rrr 0 0x008 0 b a d)).symm)
theorem Length.and (d a b : Reg) : Statement (.and d a b) :=
  .inr (.inl (congrArg wordCount (lenOf_rrr 0 0x009 0 b a d)).symm)
theorem Length.or (d a b : Reg) : Statement (.or d a b) := .inr (.inl (congrArg wordCount (lenOf_rrr 0 0x00A 0 b a d)).symm)
theorem Length.xor (d a b : Reg) : Statement (.xor d a b) :=
  .inr (.inl (congrArg wordCount (lenOf_rrr 0 0x00B 0 b a d)).symm)
theorem Length.andn (d a b : Reg) : Statement (.andn d a b) :=
  .inr (.inl (congrArg wordCount (lenOf_rrr 0 0x00C 0 b a d)).symm)
theorem Length.shl (d a b : Reg) : Statement (.shl d a b) :=
  .inr (.inl (congrArg wordCount (lenOf_rrr 0 0x00D 0 b a d)).symm)
theorem Length.shr (d a b : Reg) : Statement (.shr d a b) :=
  .inr (.inl (congrArg wordCount (lenOf_rrr 0 0x00E 0 b a d)).symm)
theorem Length.sha (d a b : Reg) : Statement (.sha d a b) :=
  .inr (.inl (congrArg wordCount (lenOf_rrr 0 0x00F 0 b a d)).symm)
theorem Length.minS (d a b : Reg) : Statement (.minS d a b) :=
  .inr (.inl (congrArg wordCount (lenOf_rrr 0 0x010 0 b a d)).symm)
theorem Length.minZ (d a b : Reg) : Statement (.minZ d a b) :=
  .inr (.inl (congrArg wordCount (lenOf_rrr 0 0x011 0 b a d)).symm)
theorem Length.maxS (d a b : Reg) : Statement (.maxS d a b) :=
  .inr (.inl (congrArg wordCount (lenOf_rrr 0 0x012 0 b a d)).symm)
theorem Length.maxZ (d a b : Reg) : Statement (.maxZ d a b) :=
  .inr (.inl (congrArg wordCount (lenOf_rrr 0 0x013 0 b a d)).symm)
theorem Length.sel (d a b : Reg) : Statement (.sel d a b) :=
  .inr (.inl (congrArg wordCount (lenOf_rrr 0 0x014 0 b a d)).symm)
theorem Length.clz (d a : Reg) : Statement (.clz d a) := .inr (.inl (congrArg wordCount (lenOf_rrr 0 0x015 0 0 a d)).symm)
theorem Length.popc (d a : Reg) : Statement (.popc d a) := .inr (.inl (congrArg wordCount (lenOf_rrr 0 0x016 0 0 a d)).symm)
theorem Length.extS (d a b : Reg) : Statement (.extS d a b) :=
  .inr (.inl (congrArg wordCount (lenOf_rrr 0 0x017 0 b a d)).symm)
theorem Length.extZ (d a b : Reg) : Statement (.extZ d a b) :=
  .inr (.inl (congrArg wordCount (lenOf_rrr 0 0x018 0 b a d)).symm)
theorem Length.ins (d a b : Reg) : Statement (.ins d a b) :=
  .inr (.inl (congrArg wordCount (lenOf_rrr 0 0x019 0 b a d)).symm)
theorem Length.lea (d a b : Reg) (s : BitVec 2) : Statement (.lea d a b s) :=
  .inr (.inl (congrArg wordCount (lenOf_rrr 0 0x01A (0#1 ++ s) b a d)).symm)
theorem Length.rot (d a b : Reg) : Statement (.rot d a b) :=
  .inr (.inl (congrArg wordCount (lenOf_rrr 0 0x01B 0 b a d)).symm)
theorem Length.bswap (d a : Reg) : Statement (.bswap d a) :=
  .inr (.inl (congrArg wordCount (lenOf_rrr 0 0x01C 0 0 a d)).symm)
theorem Length.addi (d a : Reg) (i : BitVec 9) : Statement (.addi d a i) :=
  .inr (.inl (congrArg wordCount (lenOf_rri 0 0x020 i a d)).symm)
theorem Length.addiLit (d a : Reg) (l : Word) : Statement (.addiLit d a l) :=
  .inr (.inl (congrArg wordCount (lenOf_rri 1 0x020 0 a d)).symm)
theorem Length.andi (d a : Reg) (i : BitVec 9) : Statement (.andi d a i) :=
  .inr (.inl (congrArg wordCount (lenOf_rri 0 0x021 i a d)).symm)
theorem Length.andiLit (d a : Reg) (l : Word) : Statement (.andiLit d a l) :=
  .inr (.inl (congrArg wordCount (lenOf_rri 1 0x021 0 a d)).symm)
theorem Length.ori (d a : Reg) (i : BitVec 9) : Statement (.ori d a i) :=
  .inr (.inl (congrArg wordCount (lenOf_rri 0 0x022 i a d)).symm)
theorem Length.oriLit (d a : Reg) (l : Word) : Statement (.oriLit d a l) :=
  .inr (.inl (congrArg wordCount (lenOf_rri 1 0x022 0 a d)).symm)
theorem Length.xori (d a : Reg) (i : BitVec 9) : Statement (.xori d a i) :=
  .inr (.inl (congrArg wordCount (lenOf_rri 0 0x023 i a d)).symm)
theorem Length.xoriLit (d a : Reg) (l : Word) : Statement (.xoriLit d a l) :=
  .inr (.inl (congrArg wordCount (lenOf_rri 1 0x023 0 a d)).symm)
theorem Length.shli (d a : Reg) (i : BitVec 9) : Statement (.shli d a i) :=
  .inr (.inl (congrArg wordCount (lenOf_rri 0 0x024 i a d)).symm)
theorem Length.shliLit (d a : Reg) (l : Word) : Statement (.shliLit d a l) :=
  .inr (.inl (congrArg wordCount (lenOf_rri 1 0x024 0 a d)).symm)
theorem Length.shri (d a : Reg) (i : BitVec 9) : Statement (.shri d a i) :=
  .inr (.inl (congrArg wordCount (lenOf_rri 0 0x025 i a d)).symm)
theorem Length.shriLit (d a : Reg) (l : Word) : Statement (.shriLit d a l) :=
  .inr (.inl (congrArg wordCount (lenOf_rri 1 0x025 0 a d)).symm)
theorem Length.shai (d a : Reg) (i : BitVec 9) : Statement (.shai d a i) :=
  .inr (.inl (congrArg wordCount (lenOf_rri 0 0x026 i a d)).symm)
theorem Length.shaiLit (d a : Reg) (l : Word) : Statement (.shaiLit d a l) :=
  .inr (.inl (congrArg wordCount (lenOf_rri 1 0x026 0 a d)).symm)
theorem Length.li (d : Reg) (i : BitVec 15) : Statement (.li d i) :=
  .inr (.inl (congrArg wordCount (lenOf_ri15 0 0x027 i d)).symm)
theorem Length.liLit (d : Reg) (l : Word) : Statement (.liLit d l) :=
  .inr (.inl (congrArg wordCount (lenOf_ri15 1 0x027 0 d)).symm)
theorem Length.leasw (d a : Reg) (m : BitVec 3) : Statement (.leasw d a m) :=
  .inr (.inl (congrArg wordCount (lenOf_rri 0 0x028 (0#6 ++ m) a d)).symm)
theorem Length.cmpEq (d a b : Reg) : Statement (.cmpEq d a b) :=
  .inr (.inl (congrArg wordCount (lenOf_rrr 0 0x029 0 b a d)).symm)
theorem Length.cmpNe (d a b : Reg) : Statement (.cmpNe d a b) :=
  .inr (.inl (congrArg wordCount (lenOf_rrr 0 0x02A 0 b a d)).symm)
theorem Length.cmpLtS (d a b : Reg) : Statement (.cmpLtS d a b) :=
  .inr (.inl (congrArg wordCount (lenOf_rrr 0 0x02B 0 b a d)).symm)
theorem Length.cmpLtZ (d a b : Reg) : Statement (.cmpLtZ d a b) :=
  .inr (.inl (congrArg wordCount (lenOf_rrr 0 0x02C 0 b a d)).symm)
theorem Length.cmpLeS (d a b : Reg) : Statement (.cmpLeS d a b) :=
  .inr (.inl (congrArg wordCount (lenOf_rrr 0 0x02D 0 b a d)).symm)
theorem Length.cmpLeZ (d a b : Reg) : Statement (.cmpLeZ d a b) :=
  .inr (.inl (congrArg wordCount (lenOf_rrr 0 0x02E 0 b a d)).symm)
theorem Length.cmpiEq (d a : Reg) (i : BitVec 9) : Statement (.cmpiEq d a i) :=
  .inr (.inl (congrArg wordCount (lenOf_rri 0 0x02F i a d)).symm)
theorem Length.cmpiEqLit (d a : Reg) (l : Word) : Statement (.cmpiEqLit d a l) :=
  .inr (.inl (congrArg wordCount (lenOf_rri 1 0x02F 0 a d)).symm)
theorem Length.cmpiNe (d a : Reg) (i : BitVec 9) : Statement (.cmpiNe d a i) :=
  .inr (.inl (congrArg wordCount (lenOf_rri 0 0x030 i a d)).symm)
theorem Length.cmpiNeLit (d a : Reg) (l : Word) : Statement (.cmpiNeLit d a l) :=
  .inr (.inl (congrArg wordCount (lenOf_rri 1 0x030 0 a d)).symm)
theorem Length.cmpiLtS (d a : Reg) (i : BitVec 9) : Statement (.cmpiLtS d a i) :=
  .inr (.inl (congrArg wordCount (lenOf_rri 0 0x031 i a d)).symm)
theorem Length.cmpiLtSLit (d a : Reg) (l : Word) : Statement (.cmpiLtSLit d a l) :=
  .inr (.inl (congrArg wordCount (lenOf_rri 1 0x031 0 a d)).symm)
theorem Length.cmpiLtZ (d a : Reg) (i : BitVec 9) : Statement (.cmpiLtZ d a i) :=
  .inr (.inl (congrArg wordCount (lenOf_rri 0 0x032 i a d)).symm)
theorem Length.cmpiLtZLit (d a : Reg) (l : Word) : Statement (.cmpiLtZLit d a l) :=
  .inr (.inl (congrArg wordCount (lenOf_rri 1 0x032 0 a d)).symm)
theorem Length.cmpiLeS (d a : Reg) (i : BitVec 9) : Statement (.cmpiLeS d a i) :=
  .inr (.inl (congrArg wordCount (lenOf_rri 0 0x033 i a d)).symm)
theorem Length.cmpiLeSLit (d a : Reg) (l : Word) : Statement (.cmpiLeSLit d a l) :=
  .inr (.inl (congrArg wordCount (lenOf_rri 1 0x033 0 a d)).symm)
theorem Length.cmpiLeZ (d a : Reg) (i : BitVec 9) : Statement (.cmpiLeZ d a i) :=
  .inr (.inl (congrArg wordCount (lenOf_rri 0 0x034 i a d)).symm)
theorem Length.cmpiLeZLit (d a : Reg) (l : Word) : Statement (.cmpiLeZLit d a l) :=
  .inr (.inl (congrArg wordCount (lenOf_rri 1 0x034 0 a d)).symm)
theorem Length.nop : Statement .nop := .inr (.inl (congrArg wordCount (lenOf_rrr 0 0x035 0 0 0 0)).symm)
theorem Length.faddF32 (d a b : Reg) (f : BitVec 3) : Statement (.faddF32 d a b f) :=
  .inr (.inl (congrArg wordCount (lenOf_rrr 0 0x040 f b a d)).symm)
theorem Length.faddF64 (d a b : Reg) (f : BitVec 3) : Statement (.faddF64 d a b f) :=
  .inr (.inl (congrArg wordCount (lenOf_rrr 0 0x041 f b a d)).symm)
theorem Length.fsubF32 (d a b : Reg) (f : BitVec 3) : Statement (.fsubF32 d a b f) :=
  .inr (.inl (congrArg wordCount (lenOf_rrr 0 0x042 f b a d)).symm)
theorem Length.fsubF64 (d a b : Reg) (f : BitVec 3) : Statement (.fsubF64 d a b f) :=
  .inr (.inl (congrArg wordCount (lenOf_rrr 0 0x043 f b a d)).symm)
theorem Length.fmulF32 (d a b : Reg) (f : BitVec 3) : Statement (.fmulF32 d a b f) :=
  .inr (.inl (congrArg wordCount (lenOf_rrr 0 0x044 f b a d)).symm)
theorem Length.fmulF64 (d a b : Reg) (f : BitVec 3) : Statement (.fmulF64 d a b f) :=
  .inr (.inl (congrArg wordCount (lenOf_rrr 0 0x045 f b a d)).symm)
theorem Length.fdivF32 (d a b : Reg) (f : BitVec 3) : Statement (.fdivF32 d a b f) :=
  .inr (.inl (congrArg wordCount (lenOf_rrr 0 0x046 f b a d)).symm)
theorem Length.fdivF64 (d a b : Reg) (f : BitVec 3) : Statement (.fdivF64 d a b f) :=
  .inr (.inl (congrArg wordCount (lenOf_rrr 0 0x047 f b a d)).symm)
theorem Length.fsqrtF32 (d a : Reg) (f : BitVec 3) : Statement (.fsqrtF32 d a f) :=
  .inr (.inl (congrArg wordCount (lenOf_rrr 0 0x048 f 0 a d)).symm)
theorem Length.fsqrtF64 (d a : Reg) (f : BitVec 3) : Statement (.fsqrtF64 d a f) :=
  .inr (.inl (congrArg wordCount (lenOf_rrr 0 0x049 f 0 a d)).symm)
theorem Length.ffmaF32 (d a b : Reg) (f : BitVec 3) : Statement (.ffmaF32 d a b f) :=
  .inr (.inl (congrArg wordCount (lenOf_rrr 0 0x04A f b a d)).symm)
theorem Length.ffmaF64 (d a b : Reg) (f : BitVec 3) : Statement (.ffmaF64 d a b f) :=
  .inr (.inl (congrArg wordCount (lenOf_rrr 0 0x04B f b a d)).symm)
theorem Length.fminF32 (d a b : Reg) : Statement (.fminF32 d a b) :=
  .inr (.inl (congrArg wordCount (lenOf_rrr 0 0x04C 0 b a d)).symm)
theorem Length.fminF64 (d a b : Reg) : Statement (.fminF64 d a b) :=
  .inr (.inl (congrArg wordCount (lenOf_rrr 0 0x04D 0 b a d)).symm)
theorem Length.fmaxF32 (d a b : Reg) : Statement (.fmaxF32 d a b) :=
  .inr (.inl (congrArg wordCount (lenOf_rrr 0 0x04E 0 b a d)).symm)
theorem Length.fmaxF64 (d a b : Reg) : Statement (.fmaxF64 d a b) :=
  .inr (.inl (congrArg wordCount (lenOf_rrr 0 0x04F 0 b a d)).symm)
theorem Length.fcmpF32 (d a b : Reg) (p : BitVec 2) : Statement (.fcmpF32 d a b p) :=
  .inr (.inl (congrArg wordCount (lenOf_rrr 0 0x050 (0#1 ++ p) b a d)).symm)
theorem Length.fcmpF64 (d a b : Reg) (p : BitVec 2) : Statement (.fcmpF64 d a b p) :=
  .inr (.inl (congrArg wordCount (lenOf_rrr 0 0x051 (0#1 ++ p) b a d)).symm)
theorem Length.fcvtF32 (d a : Reg) (f : BitVec 3) (c : Reg) : Statement (.fcvtF32 d a f c) :=
  .inr (.inl (congrArg wordCount (lenOf_rrr 0 0x052 f c a d)).symm)
theorem Length.fcvtF64 (d a : Reg) (f : BitVec 3) (c : Reg) : Statement (.fcvtF64 d a f c) :=
  .inr (.inl (congrArg wordCount (lenOf_rrr 0 0x053 f c a d)).symm)
theorem Length.fclassF32 (d a : Reg) : Statement (.fclassF32 d a) :=
  .inr (.inl (congrArg wordCount (lenOf_rrr 0 0x054 0 0 a d)).symm)
theorem Length.fclassF64 (d a : Reg) : Statement (.fclassF64 d a) :=
  .inr (.inl (congrArg wordCount (lenOf_rrr 0 0x055 0 0 a d)).symm)
theorem Length.fsgnF32 (d a b : Reg) (j : BitVec 2) : Statement (.fsgnF32 d a b j) :=
  .inr (.inl (congrArg wordCount (lenOf_rrr 0 0x056 (0#1 ++ j) b a d)).symm)
theorem Length.fsgnF64 (d a b : Reg) (j : BitVec 2) : Statement (.fsgnF64 d a b j) :=
  .inr (.inl (congrArg wordCount (lenOf_rrr 0 0x057 (0#1 ++ j) b a d)).symm)
theorem Length.br (o : BitVec 15) : Statement (.br o) := .inr (.inl (congrArg wordCount (lenOf_ri15 0 0x060 o 0)).symm)
theorem Length.brLit (l : Word) : Statement (.brLit l) := .inr (.inl (congrArg wordCount (lenOf_ri15 1 0x060 0 0)).symm)
theorem Length.bcEq (a : Reg) (o : BitVec 15) : Statement (.bcEq a o) :=
  .inr (.inl (congrArg wordCount (lenOf_ri15 0 0x061 o a)).symm)
theorem Length.bcEqLit (a : Reg) (l : Word) : Statement (.bcEqLit a l) :=
  .inr (.inl (congrArg wordCount (lenOf_ri15 1 0x061 0 a)).symm)
theorem Length.bcNe (a : Reg) (o : BitVec 15) : Statement (.bcNe a o) :=
  .inr (.inl (congrArg wordCount (lenOf_ri15 0 0x062 o a)).symm)
theorem Length.bcNeLit (a : Reg) (l : Word) : Statement (.bcNeLit a l) :=
  .inr (.inl (congrArg wordCount (lenOf_ri15 1 0x062 0 a)).symm)
theorem Length.bcLt (a : Reg) (o : BitVec 15) : Statement (.bcLt a o) :=
  .inr (.inl (congrArg wordCount (lenOf_ri15 0 0x063 o a)).symm)
theorem Length.bcLtLit (a : Reg) (l : Word) : Statement (.bcLtLit a l) :=
  .inr (.inl (congrArg wordCount (lenOf_ri15 1 0x063 0 a)).symm)
theorem Length.bcGe (a : Reg) (o : BitVec 15) : Statement (.bcGe a o) :=
  .inr (.inl (congrArg wordCount (lenOf_ri15 0 0x064 o a)).symm)
theorem Length.bcGeLit (a : Reg) (l : Word) : Statement (.bcGeLit a l) :=
  .inr (.inl (congrArg wordCount (lenOf_ri15 1 0x064 0 a)).symm)
theorem Length.bcLe (a : Reg) (o : BitVec 15) : Statement (.bcLe a o) :=
  .inr (.inl (congrArg wordCount (lenOf_ri15 0 0x065 o a)).symm)
theorem Length.bcLeLit (a : Reg) (l : Word) : Statement (.bcLeLit a l) :=
  .inr (.inl (congrArg wordCount (lenOf_ri15 1 0x065 0 a)).symm)
theorem Length.bcGt (a : Reg) (o : BitVec 15) : Statement (.bcGt a o) :=
  .inr (.inl (congrArg wordCount (lenOf_ri15 0 0x066 o a)).symm)
theorem Length.bcGtLit (a : Reg) (l : Word) : Statement (.bcGtLit a l) :=
  .inr (.inl (congrArg wordCount (lenOf_ri15 1 0x066 0 a)).symm)
theorem Length.jmp (a : Reg) (i : BitVec 9) : Statement (.jmp a i) :=
  .inr (.inl (congrArg wordCount (lenOf_rri 0 0x067 i a 0)).symm)
theorem Length.jmpLit (a : Reg) (l : Word) : Statement (.jmpLit a l) :=
  .inr (.inl (congrArg wordCount (lenOf_rri 1 0x067 0 a 0)).symm)
theorem Length.call (a : Reg) (o : BitVec 15) : Statement (.call a o) :=
  .inr (.inl (congrArg wordCount (lenOf_ri15 0 0x068 o a)).symm)
theorem Length.callLit (a : Reg) (l : Word) : Statement (.callLit a l) :=
  .inr (.inl (congrArg wordCount (lenOf_ri15 1 0x068 0 a)).symm)
theorem Length.ret (a : Reg) : Statement (.ret a) := .inr (.inl (congrArg wordCount (lenOf_rrr 0 0x069 0 0 a 0)).symm)
theorem Length.loop (a : Reg) (o : BitVec 15) : Statement (.loop a o) :=
  .inr (.inl (congrArg wordCount (lenOf_ri15 0 0x06A o a)).symm)
theorem Length.loopLit (a : Reg) (l : Word) : Statement (.loopLit a l) :=
  .inr (.inl (congrArg wordCount (lenOf_ri15 1 0x06A 0 a)).symm)
theorem Length.endAct : Statement .endAct := .inr (.inl (congrArg wordCount (lenOf_rrr 0 0x06B 0 0 0 0)).symm)
theorem Length.trap (i : BitVec 15) : Statement (.trap i) := .inr (.inl (congrArg wordCount (lenOf_ri15 0 0x06C i 0)).symm)
theorem Length.eret : Statement .eret := .inr (.inl (congrArg wordCount (lenOf_rrr 0 0x06D 0 0 0 0)).symm)
theorem Length.csrr (d : Reg) (c : BitVec 12) : Statement (.csrr d c) :=
  .inr (.inl (congrArg wordCount (lenOf_ri15 0 0x06E (0#3 ++ c) d)).symm)
theorem Length.csrw (d : Reg) (c : BitVec 12) : Statement (.csrw d c) :=
  .inr (.inl (congrArg wordCount (lenOf_ri15 0 0x06F (0#3 ++ c) d)).symm)
theorem Length.csrs (d : Reg) (c : BitVec 12) : Statement (.csrs d c) :=
  .inr (.inl (congrArg wordCount (lenOf_ri15 0 0x070 (0#3 ++ c) d)).symm)
theorem Length.csrc (d : Reg) (c : BitVec 12) : Statement (.csrc d c) :=
  .inr (.inl (congrArg wordCount (lenOf_ri15 0 0x071 (0#3 ++ c) d)).symm)
theorem Length.bkpt (i : BitVec 15) : Statement (.bkpt i) := .inr (.inl (congrArg wordCount (lenOf_ri15 0 0x072 i 0)).symm)
theorem Length.synci (a : Reg) : Statement (.synci a) := .inr (.inl (congrArg wordCount (lenOf_rrr 0 0x073 0 0 a 0)).symm)
theorem Length.idle (a : Reg) : Statement (.idle a) := .inr (.inl (congrArg wordCount (lenOf_rrr 0 0x074 0 0 a 0)).symm)
theorem Length.idleExpiry : Statement .idleExpiry := .inl rfl
theorem Length.ldS8 (d a : Reg) (i : BitVec 9) : Statement (.ldS8 d a i) :=
  .inr (.inl (congrArg wordCount (lenOf_rri 0 0x080 i a d)).symm)
theorem Length.ldS8Lit (d a : Reg) (l : Word) : Statement (.ldS8Lit d a l) :=
  .inr (.inl (congrArg wordCount (lenOf_rri 1 0x080 0 a d)).symm)
theorem Length.ldS8Ext (d base : Reg) (space : BitVec 2) (swz : BitVec 3) (off : BitVec 21) : Statement (.ldS8Ext d base space swz off) :=
  .inr (.inl (congrArg wordCount (lenOf_rrr 2 0x080 0 0 0 d)).symm)
theorem Length.ldS8ExtLit (d base : Reg) (space : BitVec 2) (swz : BitVec 3) (l : Word) : Statement (.ldS8ExtLit d base space swz l) :=
  .inr (.inl (congrArg wordCount (lenOf_rrr 3 0x080 0 0 0 d)).symm)
theorem Length.ldZ8 (d a : Reg) (i : BitVec 9) : Statement (.ldZ8 d a i) :=
  .inr (.inl (congrArg wordCount (lenOf_rri 0 0x081 i a d)).symm)
theorem Length.ldZ8Lit (d a : Reg) (l : Word) : Statement (.ldZ8Lit d a l) :=
  .inr (.inl (congrArg wordCount (lenOf_rri 1 0x081 0 a d)).symm)
theorem Length.ldZ8Ext (d base : Reg) (space : BitVec 2) (swz : BitVec 3) (off : BitVec 21) : Statement (.ldZ8Ext d base space swz off) :=
  .inr (.inl (congrArg wordCount (lenOf_rrr 2 0x081 0 0 0 d)).symm)
theorem Length.ldZ8ExtLit (d base : Reg) (space : BitVec 2) (swz : BitVec 3) (l : Word) : Statement (.ldZ8ExtLit d base space swz l) :=
  .inr (.inl (congrArg wordCount (lenOf_rrr 3 0x081 0 0 0 d)).symm)
theorem Length.ldS16 (d a : Reg) (i : BitVec 9) : Statement (.ldS16 d a i) :=
  .inr (.inl (congrArg wordCount (lenOf_rri 0 0x082 i a d)).symm)
theorem Length.ldS16Lit (d a : Reg) (l : Word) : Statement (.ldS16Lit d a l) :=
  .inr (.inl (congrArg wordCount (lenOf_rri 1 0x082 0 a d)).symm)
theorem Length.ldS16Ext (d base : Reg) (space : BitVec 2) (swz : BitVec 3) (off : BitVec 21) : Statement (.ldS16Ext d base space swz off) :=
  .inr (.inl (congrArg wordCount (lenOf_rrr 2 0x082 0 0 0 d)).symm)
theorem Length.ldS16ExtLit (d base : Reg) (space : BitVec 2) (swz : BitVec 3) (l : Word) : Statement (.ldS16ExtLit d base space swz l) :=
  .inr (.inl (congrArg wordCount (lenOf_rrr 3 0x082 0 0 0 d)).symm)
theorem Length.ldZ16 (d a : Reg) (i : BitVec 9) : Statement (.ldZ16 d a i) :=
  .inr (.inl (congrArg wordCount (lenOf_rri 0 0x083 i a d)).symm)
theorem Length.ldZ16Lit (d a : Reg) (l : Word) : Statement (.ldZ16Lit d a l) :=
  .inr (.inl (congrArg wordCount (lenOf_rri 1 0x083 0 a d)).symm)
theorem Length.ldZ16Ext (d base : Reg) (space : BitVec 2) (swz : BitVec 3) (off : BitVec 21) : Statement (.ldZ16Ext d base space swz off) :=
  .inr (.inl (congrArg wordCount (lenOf_rrr 2 0x083 0 0 0 d)).symm)
theorem Length.ldZ16ExtLit (d base : Reg) (space : BitVec 2) (swz : BitVec 3) (l : Word) : Statement (.ldZ16ExtLit d base space swz l) :=
  .inr (.inl (congrArg wordCount (lenOf_rrr 3 0x083 0 0 0 d)).symm)
theorem Length.ldS32 (d a : Reg) (i : BitVec 9) : Statement (.ldS32 d a i) :=
  .inr (.inl (congrArg wordCount (lenOf_rri 0 0x084 i a d)).symm)
theorem Length.ldS32Lit (d a : Reg) (l : Word) : Statement (.ldS32Lit d a l) :=
  .inr (.inl (congrArg wordCount (lenOf_rri 1 0x084 0 a d)).symm)
theorem Length.ldS32Ext (d base : Reg) (space : BitVec 2) (swz : BitVec 3) (off : BitVec 21) : Statement (.ldS32Ext d base space swz off) :=
  .inr (.inl (congrArg wordCount (lenOf_rrr 2 0x084 0 0 0 d)).symm)
theorem Length.ldS32ExtLit (d base : Reg) (space : BitVec 2) (swz : BitVec 3) (l : Word) : Statement (.ldS32ExtLit d base space swz l) :=
  .inr (.inl (congrArg wordCount (lenOf_rrr 3 0x084 0 0 0 d)).symm)
theorem Length.ldZ32 (d a : Reg) (i : BitVec 9) : Statement (.ldZ32 d a i) :=
  .inr (.inl (congrArg wordCount (lenOf_rri 0 0x085 i a d)).symm)
theorem Length.ldZ32Lit (d a : Reg) (l : Word) : Statement (.ldZ32Lit d a l) :=
  .inr (.inl (congrArg wordCount (lenOf_rri 1 0x085 0 a d)).symm)
theorem Length.ldZ32Ext (d base : Reg) (space : BitVec 2) (swz : BitVec 3) (off : BitVec 21) : Statement (.ldZ32Ext d base space swz off) :=
  .inr (.inl (congrArg wordCount (lenOf_rrr 2 0x085 0 0 0 d)).symm)
theorem Length.ldZ32ExtLit (d base : Reg) (space : BitVec 2) (swz : BitVec 3) (l : Word) : Statement (.ldZ32ExtLit d base space swz l) :=
  .inr (.inl (congrArg wordCount (lenOf_rrr 3 0x085 0 0 0 d)).symm)
theorem Length.ld64 (d a : Reg) (i : BitVec 9) : Statement (.ld64 d a i) :=
  .inr (.inl (congrArg wordCount (lenOf_rri 0 0x086 i a d)).symm)
theorem Length.ld64Lit (d a : Reg) (l : Word) : Statement (.ld64Lit d a l) :=
  .inr (.inl (congrArg wordCount (lenOf_rri 1 0x086 0 a d)).symm)
theorem Length.ld64Ext (d base : Reg) (space : BitVec 2) (swz : BitVec 3) (off : BitVec 21) : Statement (.ld64Ext d base space swz off) :=
  .inr (.inl (congrArg wordCount (lenOf_rrr 2 0x086 0 0 0 d)).symm)
theorem Length.ld64ExtLit (d base : Reg) (space : BitVec 2) (swz : BitVec 3) (l : Word) : Statement (.ld64ExtLit d base space swz l) :=
  .inr (.inl (congrArg wordCount (lenOf_rrr 3 0x086 0 0 0 d)).symm)
theorem Length.ld128 (d a : Reg) (i : BitVec 9) : Statement (.ld128 d a i) :=
  .inr (.inl (congrArg wordCount (lenOf_rri 0 0x087 i a d)).symm)
theorem Length.ld128Lit (d a : Reg) (l : Word) : Statement (.ld128Lit d a l) :=
  .inr (.inl (congrArg wordCount (lenOf_rri 1 0x087 0 a d)).symm)
theorem Length.ld128Ext (d base : Reg) (space : BitVec 2) (swz : BitVec 3) (off : BitVec 21) : Statement (.ld128Ext d base space swz off) :=
  .inr (.inl (congrArg wordCount (lenOf_rrr 2 0x087 0 0 0 d)).symm)
theorem Length.ld128ExtLit (d base : Reg) (space : BitVec 2) (swz : BitVec 3) (l : Word) : Statement (.ld128ExtLit d base space swz l) :=
  .inr (.inl (congrArg wordCount (lenOf_rrr 3 0x087 0 0 0 d)).symm)
theorem Length.st8 (d a : Reg) (i : BitVec 9) : Statement (.st8 d a i) :=
  .inr (.inl (congrArg wordCount (lenOf_rri 0 0x088 i a d)).symm)
theorem Length.st8Lit (d a : Reg) (l : Word) : Statement (.st8Lit d a l) :=
  .inr (.inl (congrArg wordCount (lenOf_rri 1 0x088 0 a d)).symm)
theorem Length.st8Ext (d base : Reg) (space : BitVec 2) (swz : BitVec 3) (off : BitVec 21) : Statement (.st8Ext d base space swz off) :=
  .inr (.inl (congrArg wordCount (lenOf_rrr 2 0x088 0 0 0 d)).symm)
theorem Length.st8ExtLit (d base : Reg) (space : BitVec 2) (swz : BitVec 3) (l : Word) : Statement (.st8ExtLit d base space swz l) :=
  .inr (.inl (congrArg wordCount (lenOf_rrr 3 0x088 0 0 0 d)).symm)
theorem Length.st16 (d a : Reg) (i : BitVec 9) : Statement (.st16 d a i) :=
  .inr (.inl (congrArg wordCount (lenOf_rri 0 0x089 i a d)).symm)
theorem Length.st16Lit (d a : Reg) (l : Word) : Statement (.st16Lit d a l) :=
  .inr (.inl (congrArg wordCount (lenOf_rri 1 0x089 0 a d)).symm)
theorem Length.st16Ext (d base : Reg) (space : BitVec 2) (swz : BitVec 3) (off : BitVec 21) : Statement (.st16Ext d base space swz off) :=
  .inr (.inl (congrArg wordCount (lenOf_rrr 2 0x089 0 0 0 d)).symm)
theorem Length.st16ExtLit (d base : Reg) (space : BitVec 2) (swz : BitVec 3) (l : Word) : Statement (.st16ExtLit d base space swz l) :=
  .inr (.inl (congrArg wordCount (lenOf_rrr 3 0x089 0 0 0 d)).symm)
theorem Length.st32 (d a : Reg) (i : BitVec 9) : Statement (.st32 d a i) :=
  .inr (.inl (congrArg wordCount (lenOf_rri 0 0x08A i a d)).symm)
theorem Length.st32Lit (d a : Reg) (l : Word) : Statement (.st32Lit d a l) :=
  .inr (.inl (congrArg wordCount (lenOf_rri 1 0x08A 0 a d)).symm)
theorem Length.st32Ext (d base : Reg) (space : BitVec 2) (swz : BitVec 3) (off : BitVec 21) : Statement (.st32Ext d base space swz off) :=
  .inr (.inl (congrArg wordCount (lenOf_rrr 2 0x08A 0 0 0 d)).symm)
theorem Length.st32ExtLit (d base : Reg) (space : BitVec 2) (swz : BitVec 3) (l : Word) : Statement (.st32ExtLit d base space swz l) :=
  .inr (.inl (congrArg wordCount (lenOf_rrr 3 0x08A 0 0 0 d)).symm)
theorem Length.st64 (d a : Reg) (i : BitVec 9) : Statement (.st64 d a i) :=
  .inr (.inl (congrArg wordCount (lenOf_rri 0 0x08B i a d)).symm)
theorem Length.st64Lit (d a : Reg) (l : Word) : Statement (.st64Lit d a l) :=
  .inr (.inl (congrArg wordCount (lenOf_rri 1 0x08B 0 a d)).symm)
theorem Length.st64Ext (d base : Reg) (space : BitVec 2) (swz : BitVec 3) (off : BitVec 21) : Statement (.st64Ext d base space swz off) :=
  .inr (.inl (congrArg wordCount (lenOf_rrr 2 0x08B 0 0 0 d)).symm)
theorem Length.st64ExtLit (d base : Reg) (space : BitVec 2) (swz : BitVec 3) (l : Word) : Statement (.st64ExtLit d base space swz l) :=
  .inr (.inl (congrArg wordCount (lenOf_rrr 3 0x08B 0 0 0 d)).symm)
theorem Length.st128 (d a : Reg) (i : BitVec 9) : Statement (.st128 d a i) :=
  .inr (.inl (congrArg wordCount (lenOf_rri 0 0x08C i a d)).symm)
theorem Length.st128Lit (d a : Reg) (l : Word) : Statement (.st128Lit d a l) :=
  .inr (.inl (congrArg wordCount (lenOf_rri 1 0x08C 0 a d)).symm)
theorem Length.st128Ext (d base : Reg) (space : BitVec 2) (swz : BitVec 3) (off : BitVec 21) : Statement (.st128Ext d base space swz off) :=
  .inr (.inl (congrArg wordCount (lenOf_rrr 2 0x08C 0 0 0 d)).symm)
theorem Length.st128ExtLit (d base : Reg) (space : BitVec 2) (swz : BitVec 3) (l : Word) : Statement (.st128ExtLit d base space swz l) :=
  .inr (.inl (congrArg wordCount (lenOf_rrr 3 0x08C 0 0 0 d)).symm)
theorem Length.ldf (d a : Reg) (i : BitVec 9) : Statement (.ldf d a i) :=
  .inr (.inl (congrArg wordCount (lenOf_rri 0 0x08D i a d)).symm)
theorem Length.ldsS8 (d a : Reg) (i : BitVec 9) : Statement (.ldsS8 d a i) :=
  .inr (.inl (congrArg wordCount (lenOf_rri 0 0x08E i a d)).symm)
theorem Length.ldsZ8 (d a : Reg) (i : BitVec 9) : Statement (.ldsZ8 d a i) :=
  .inr (.inl (congrArg wordCount (lenOf_rri 0 0x08F i a d)).symm)
theorem Length.ldsS16 (d a : Reg) (i : BitVec 9) : Statement (.ldsS16 d a i) :=
  .inr (.inl (congrArg wordCount (lenOf_rri 0 0x090 i a d)).symm)
theorem Length.ldsZ16 (d a : Reg) (i : BitVec 9) : Statement (.ldsZ16 d a i) :=
  .inr (.inl (congrArg wordCount (lenOf_rri 0 0x091 i a d)).symm)
theorem Length.ldsS32 (d a : Reg) (i : BitVec 9) : Statement (.ldsS32 d a i) :=
  .inr (.inl (congrArg wordCount (lenOf_rri 0 0x092 i a d)).symm)
theorem Length.ldsZ32 (d a : Reg) (i : BitVec 9) : Statement (.ldsZ32 d a i) :=
  .inr (.inl (congrArg wordCount (lenOf_rri 0 0x093 i a d)).symm)
theorem Length.lds64 (d a : Reg) (i : BitVec 9) : Statement (.lds64 d a i) :=
  .inr (.inl (congrArg wordCount (lenOf_rri 0 0x094 i a d)).symm)
theorem Length.sts8 (d a : Reg) (i : BitVec 9) : Statement (.sts8 d a i) :=
  .inr (.inl (congrArg wordCount (lenOf_rri 0 0x095 i a d)).symm)
theorem Length.sts16 (d a : Reg) (i : BitVec 9) : Statement (.sts16 d a i) :=
  .inr (.inl (congrArg wordCount (lenOf_rri 0 0x096 i a d)).symm)
theorem Length.sts32 (d a : Reg) (i : BitVec 9) : Statement (.sts32 d a i) :=
  .inr (.inl (congrArg wordCount (lenOf_rri 0 0x097 i a d)).symm)
theorem Length.sts64 (d a : Reg) (i : BitVec 9) : Statement (.sts64 d a i) :=
  .inr (.inl (congrArg wordCount (lenOf_rri 0 0x098 i a d)).symm)
theorem Length.amoAdd32 (d a b : Reg) (s : BitVec 3) : Statement (.amoAdd32 d a b s) :=
  .inr (.inl (congrArg wordCount (lenOf_rrr 0 0x0A0 s b a d)).symm)
theorem Length.amoAdd64 (d a b : Reg) (s : BitVec 3) : Statement (.amoAdd64 d a b s) :=
  .inr (.inl (congrArg wordCount (lenOf_rrr 0 0x0A1 s b a d)).symm)
theorem Length.amoMinS32 (d a b : Reg) (s : BitVec 3) : Statement (.amoMinS32 d a b s) :=
  .inr (.inl (congrArg wordCount (lenOf_rrr 0 0x0A2 s b a d)).symm)
theorem Length.amoMinS64 (d a b : Reg) (s : BitVec 3) : Statement (.amoMinS64 d a b s) :=
  .inr (.inl (congrArg wordCount (lenOf_rrr 0 0x0A3 s b a d)).symm)
theorem Length.amoMinZ32 (d a b : Reg) (s : BitVec 3) : Statement (.amoMinZ32 d a b s) :=
  .inr (.inl (congrArg wordCount (lenOf_rrr 0 0x0A4 s b a d)).symm)
theorem Length.amoMinZ64 (d a b : Reg) (s : BitVec 3) : Statement (.amoMinZ64 d a b s) :=
  .inr (.inl (congrArg wordCount (lenOf_rrr 0 0x0A5 s b a d)).symm)
theorem Length.amoMaxS32 (d a b : Reg) (s : BitVec 3) : Statement (.amoMaxS32 d a b s) :=
  .inr (.inl (congrArg wordCount (lenOf_rrr 0 0x0A6 s b a d)).symm)
theorem Length.amoMaxS64 (d a b : Reg) (s : BitVec 3) : Statement (.amoMaxS64 d a b s) :=
  .inr (.inl (congrArg wordCount (lenOf_rrr 0 0x0A7 s b a d)).symm)
theorem Length.amoMaxZ32 (d a b : Reg) (s : BitVec 3) : Statement (.amoMaxZ32 d a b s) :=
  .inr (.inl (congrArg wordCount (lenOf_rrr 0 0x0A8 s b a d)).symm)
theorem Length.amoMaxZ64 (d a b : Reg) (s : BitVec 3) : Statement (.amoMaxZ64 d a b s) :=
  .inr (.inl (congrArg wordCount (lenOf_rrr 0 0x0A9 s b a d)).symm)
theorem Length.amoAnd32 (d a b : Reg) (s : BitVec 3) : Statement (.amoAnd32 d a b s) :=
  .inr (.inl (congrArg wordCount (lenOf_rrr 0 0x0AA s b a d)).symm)
theorem Length.amoAnd64 (d a b : Reg) (s : BitVec 3) : Statement (.amoAnd64 d a b s) :=
  .inr (.inl (congrArg wordCount (lenOf_rrr 0 0x0AB s b a d)).symm)
theorem Length.amoOr32 (d a b : Reg) (s : BitVec 3) : Statement (.amoOr32 d a b s) :=
  .inr (.inl (congrArg wordCount (lenOf_rrr 0 0x0AC s b a d)).symm)
theorem Length.amoOr64 (d a b : Reg) (s : BitVec 3) : Statement (.amoOr64 d a b s) :=
  .inr (.inl (congrArg wordCount (lenOf_rrr 0 0x0AD s b a d)).symm)
theorem Length.amoXor32 (d a b : Reg) (s : BitVec 3) : Statement (.amoXor32 d a b s) :=
  .inr (.inl (congrArg wordCount (lenOf_rrr 0 0x0AE s b a d)).symm)
theorem Length.amoXor64 (d a b : Reg) (s : BitVec 3) : Statement (.amoXor64 d a b s) :=
  .inr (.inl (congrArg wordCount (lenOf_rrr 0 0x0AF s b a d)).symm)
theorem Length.amoXchg32 (d a b : Reg) (s : BitVec 3) : Statement (.amoXchg32 d a b s) :=
  .inr (.inl (congrArg wordCount (lenOf_rrr 0 0x0B0 s b a d)).symm)
theorem Length.amoXchg64 (d a b : Reg) (s : BitVec 3) : Statement (.amoXchg64 d a b s) :=
  .inr (.inl (congrArg wordCount (lenOf_rrr 0 0x0B1 s b a d)).symm)
theorem Length.amoCas32 (d a b : Reg) (s : BitVec 3) : Statement (.amoCas32 d a b s) :=
  .inr (.inl (congrArg wordCount (lenOf_rrr 0 0x0B2 s b a d)).symm)
theorem Length.amoCas64 (d a b : Reg) (s : BitVec 3) : Statement (.amoCas64 d a b s) :=
  .inr (.inl (congrArg wordCount (lenOf_rrr 0 0x0B3 s b a d)).symm)
theorem Length.amoCas128 (d a b : Reg) (s : BitVec 3) : Statement (.amoCas128 d a b s) :=
  .inr (.inl (congrArg wordCount (lenOf_rrr 0 0x0B4 s b a d)).symm)
theorem Length.amoFaddF32 (d a b : Reg) (s : BitVec 3) : Statement (.amoFaddF32 d a b s) :=
  .inr (.inl (congrArg wordCount (lenOf_rrr 0 0x0B5 s b a d)).symm)
theorem Length.ldx32 (d a : Reg) (s : BitVec 3) : Statement (.ldx32 d a s) :=
  .inr (.inl (congrArg wordCount (lenOf_rrr 0 0x0B6 s 0 a d)).symm)
theorem Length.ldx64 (d a : Reg) (s : BitVec 3) : Statement (.ldx64 d a s) :=
  .inr (.inl (congrArg wordCount (lenOf_rrr 0 0x0B7 s 0 a d)).symm)
theorem Length.stx32 (d a : Reg) (s : BitVec 3) : Statement (.stx32 d a s) :=
  .inr (.inl (congrArg wordCount (lenOf_rrr 0 0x0B8 s 0 a d)).symm)
theorem Length.stx64 (d a : Reg) (s : BitVec 3) : Statement (.stx64 d a s) :=
  .inr (.inl (congrArg wordCount (lenOf_rrr 0 0x0B9 s 0 a d)).symm)
theorem Length.ldacq64 (d a : Reg) (s : BitVec 3) : Statement (.ldacq64 d a s) :=
  .inr (.inl (congrArg wordCount (lenOf_rrr 0 0x0BA s 0 a d)).symm)
theorem Length.strel64 (d a : Reg) (s : BitVec 3) : Statement (.strel64 d a s) :=
  .inr (.inl (congrArg wordCount (lenOf_rrr 0 0x0BB s 0 a d)).symm)
theorem Length.fence (s : BitVec 3) : Statement (.fence s) :=
  .inr (.inl (congrArg wordCount (lenOf_rrr 0 0x0BC s 0 0 0)).symm)
theorem Length.xfence (s : BitVec 3) (m : Reg) : Statement (.xfence s m) :=
  .inr (.inl (congrArg wordCount (lenOf_ri15 0 0x0BD (0#6 ++ s ++ m) 0)).symm)
theorem Length.vaddVv (d a b : Reg) (f : BitVec 3) : Statement (.vaddVv d a b f) :=
  .inr (.inl (congrArg wordCount (lenOf_rrr 0 0x0C0 f b a d)).symm)
theorem Length.vaddVs (d a b : Reg) (f : BitVec 3) : Statement (.vaddVs d a b f) :=
  .inr (.inl (congrArg wordCount (lenOf_rrr 0 0x0C1 f b a d)).symm)
theorem Length.vaddVq (d a b : Reg) (f : BitVec 3) : Statement (.vaddVq d a b f) :=
  .inr (.inl (congrArg wordCount (lenOf_rrr 0 0x0C2 f b a d)).symm)
theorem Length.vsubVv (d a b : Reg) (f : BitVec 3) : Statement (.vsubVv d a b f) :=
  .inr (.inl (congrArg wordCount (lenOf_rrr 0 0x0C3 f b a d)).symm)
theorem Length.vsubVs (d a b : Reg) (f : BitVec 3) : Statement (.vsubVs d a b f) :=
  .inr (.inl (congrArg wordCount (lenOf_rrr 0 0x0C4 f b a d)).symm)
theorem Length.vsubVq (d a b : Reg) (f : BitVec 3) : Statement (.vsubVq d a b f) :=
  .inr (.inl (congrArg wordCount (lenOf_rrr 0 0x0C5 f b a d)).symm)
theorem Length.vmulVv (d a b : Reg) (f : BitVec 3) : Statement (.vmulVv d a b f) :=
  .inr (.inl (congrArg wordCount (lenOf_rrr 0 0x0C6 f b a d)).symm)
theorem Length.vmulVs (d a b : Reg) (f : BitVec 3) : Statement (.vmulVs d a b f) :=
  .inr (.inl (congrArg wordCount (lenOf_rrr 0 0x0C7 f b a d)).symm)
theorem Length.vmulVq (d a b : Reg) (f : BitVec 3) : Statement (.vmulVq d a b f) :=
  .inr (.inl (congrArg wordCount (lenOf_rrr 0 0x0C8 f b a d)).symm)
theorem Length.vminVv (d a b : Reg) : Statement (.vminVv d a b) :=
  .inr (.inl (congrArg wordCount (lenOf_rrr 0 0x0C9 0 b a d)).symm)
theorem Length.vminVs (d a b : Reg) : Statement (.vminVs d a b) :=
  .inr (.inl (congrArg wordCount (lenOf_rrr 0 0x0CA 0 b a d)).symm)
theorem Length.vminVq (d a b : Reg) : Statement (.vminVq d a b) :=
  .inr (.inl (congrArg wordCount (lenOf_rrr 0 0x0CB 0 b a d)).symm)
theorem Length.vmaxVv (d a b : Reg) : Statement (.vmaxVv d a b) :=
  .inr (.inl (congrArg wordCount (lenOf_rrr 0 0x0CC 0 b a d)).symm)
theorem Length.vmaxVs (d a b : Reg) : Statement (.vmaxVs d a b) :=
  .inr (.inl (congrArg wordCount (lenOf_rrr 0 0x0CD 0 b a d)).symm)
theorem Length.vmaxVq (d a b : Reg) : Statement (.vmaxVq d a b) :=
  .inr (.inl (congrArg wordCount (lenOf_rrr 0 0x0CE 0 b a d)).symm)
theorem Length.vfmaVv (d a b : Reg) (f : BitVec 3) : Statement (.vfmaVv d a b f) :=
  .inr (.inl (congrArg wordCount (lenOf_rrr 0 0x0CF f b a d)).symm)
theorem Length.vfmaVs (d a b : Reg) (f : BitVec 3) : Statement (.vfmaVs d a b f) :=
  .inr (.inl (congrArg wordCount (lenOf_rrr 0 0x0D0 f b a d)).symm)
theorem Length.vfmaVq (d a b : Reg) (f : BitVec 3) : Statement (.vfmaVq d a b f) :=
  .inr (.inl (congrArg wordCount (lenOf_rrr 0 0x0D1 f b a d)).symm)
theorem Length.vabs (d a : Reg) : Statement (.vabs d a) := .inr (.inl (congrArg wordCount (lenOf_rrr 0 0x0D2 0 0 a d)).symm)
theorem Length.vneg (d a : Reg) : Statement (.vneg d a) := .inr (.inl (congrArg wordCount (lenOf_rrr 0 0x0D3 0 0 a d)).symm)
theorem Length.vcvt (d a : Reg) (f : BitVec 3) (t : BitVec 1) : Statement (.vcvt d a f t) :=
  .inr (.inl (congrArg wordCount (lenOf_rrr 0 0x0D4 f (t ++ 0#5) a d)).symm)
theorem Length.vscale (d a b : Reg) (f : BitVec 3) : Statement (.vscale d a b f) :=
  .inr (.inl (congrArg wordCount (lenOf_rrr 0 0x0D5 f b a d)).symm)
theorem Length.vsum (d a : Reg) (f : BitVec 3) : Statement (.vsum d a f) :=
  .inr (.inl (congrArg wordCount (lenOf_rrr 0 0x0E0 f 0 a d)).symm)
theorem Length.vdot (d a b : Reg) (f : BitVec 3) : Statement (.vdot d a b f) :=
  .inr (.inl (congrArg wordCount (lenOf_rrr 0 0x0E1 f b a d)).symm)
theorem Length.vdotQ (d a b : Reg) (f : BitVec 3) : Statement (.vdotQ d a b f) :=
  .inr (.inl (congrArg wordCount (lenOf_rrr 0 0x0E2 f b a d)).symm)
theorem Length.vcmp (d a b : Reg) (p : BitVec 2) : Statement (.vcmp d a b p) :=
  .inr (.inl (congrArg wordCount (lenOf_rrr 0 0x0E3 (0#1 ++ p) b a d)).symm)
theorem Length.vsel (d a b : Reg) : Statement (.vsel d a b) :=
  .inr (.inl (congrArg wordCount (lenOf_rrr 0 0x0E4 0 b a d)).symm)
theorem Length.vclass (d a : Reg) : Statement (.vclass d a) :=
  .inr (.inl (congrArg wordCount (lenOf_rrr 0 0x0E5 0 0 a d)).symm)
theorem Length.vcopy (d a : Reg) : Statement (.vcopy d a) :=
  .inr (.inl (congrArg wordCount (lenOf_rrr 0 0x0E6 0 0 a d)).symm)
theorem Length.vcopyW (d a : Reg) : Statement (.vcopyW d a) :=
  .inr (.inl (congrArg wordCount (lenOf_rrr 0 0x0E6 0 1 a d)).symm)
theorem Length.vcopyWAll (d a : Reg) : Statement (.vcopyWAll d a) :=
  .inr (.inl (congrArg wordCount (lenOf_rrr 0 0x0E6 0 2 a d)).symm)
theorem Length.vfill (d a : Reg) : Statement (.vfill d a) :=
  .inr (.inl (congrArg wordCount (lenOf_rrr 0 0x0E7 0 0 a d)).symm)
theorem Length.vfillI (d a : Reg) : Statement (.vfillI d a) :=
  .inr (.inl (congrArg wordCount (lenOf_rrr 0 0x0E7 0 1 a d)).symm)
theorem Length.vfillB (d a : Reg) : Statement (.vfillB d a) :=
  .inr (.inl (congrArg wordCount (lenOf_rrr 0 0x0E7 0 2 a d)).symm)
theorem Length.vgath (d a b : Reg) : Statement (.vgath d a b) :=
  .inr (.inl (congrArg wordCount (lenOf_rrr 0 0x0E8 0 b a d)).symm)
theorem Length.vq4 (d a b : Reg) : Statement (.vq4 d a b) :=
  .inr (.inl (congrArg wordCount (lenOf_rrr 0 0x0E9 0 b a d)).symm)
theorem Length.vrng (d a : Reg) : Statement (.vrng d a) := .inr (.inl (congrArg wordCount (lenOf_rrr 0 0x0EA 0 0 a d)).symm)
theorem Length.vmaxabs (d a : Reg) : Statement (.vmaxabs d a) :=
  .inr (.inl (congrArg wordCount (lenOf_rrr 0 0x0EB 0 0 a d)).symm)
theorem Length.viadd (d a b : Reg) : Statement (.viadd d a b) :=
  .inr (.inl (congrArg wordCount (lenOf_rrr 0 0x0EC 0 b a d)).symm)
theorem Length.visub (d a b : Reg) : Statement (.visub d a b) :=
  .inr (.inl (congrArg wordCount (lenOf_rrr 0 0x0ED 0 b a d)).symm)
theorem Length.vimul (d a b : Reg) : Statement (.vimul d a b) :=
  .inr (.inl (congrArg wordCount (lenOf_rrr 0 0x0EE 0 b a d)).symm)
theorem Length.viand (d a b : Reg) : Statement (.viand d a b) :=
  .inr (.inl (congrArg wordCount (lenOf_rrr 0 0x0EF 0 b a d)).symm)
theorem Length.vior (d a b : Reg) : Statement (.vior d a b) :=
  .inr (.inl (congrArg wordCount (lenOf_rrr 0 0x0F0 0 b a d)).symm)
theorem Length.vixor (d a b : Reg) : Statement (.vixor d a b) :=
  .inr (.inl (congrArg wordCount (lenOf_rrr 0 0x0F1 0 b a d)).symm)
theorem Length.vishl (d a b : Reg) : Statement (.vishl d a b) :=
  .inr (.inl (congrArg wordCount (lenOf_rrr 0 0x0F2 0 b a d)).symm)
theorem Length.vishr (d a b : Reg) (f : BitVec 1) : Statement (.vishr d a b f) :=
  .inr (.inl (congrArg wordCount (lenOf_rrr 0 0x0F3 (0#2 ++ f) b a d)).symm)
theorem Length.vidx (d a b : Reg) : Statement (.vidx d a b) :=
  .inr (.inl (congrArg wordCount (lenOf_rrr 0 0x0F4 0 b a d)).symm)
theorem Length.vpack (d a b : Reg) : Statement (.vpack d a b) :=
  .inr (.inl (congrArg wordCount (lenOf_rrr 0 0x0F5 0 b a d)).symm)
theorem Length.vunpk (d a b : Reg) : Statement (.vunpk d a b) :=
  .inr (.inl (congrArg wordCount (lenOf_rrr 0 0x0F6 0 b a d)).symm)
theorem Length.vrcp (d a : Reg) (f : BitVec 3) : Statement (.vrcp d a f) :=
  .inr (.inl (congrArg wordCount (lenOf_rrr 0 0x0F7 f 0 a d)).symm)
theorem Length.vrsqrt (d a : Reg) (f : BitVec 3) : Statement (.vrsqrt d a f) :=
  .inr (.inl (congrArg wordCount (lenOf_rrr 0 0x0F8 f 0 a d)).symm)
theorem Length.waitf (d a : Reg) (i : BitVec 9) : Statement (.waitf d a i) :=
  .inr (.inl (congrArg wordCount (lenOf_rri 0 0x100 i a d)).symm)
theorem Length.waitfLit (d a : Reg) (l : Word) : Statement (.waitfLit d a l) :=
  .inr (.inl (congrArg wordCount (lenOf_rri 1 0x100 0 a d)).symm)
theorem Length.waite (d a : Reg) (i : BitVec 9) : Statement (.waite d a i) :=
  .inr (.inl (congrArg wordCount (lenOf_rri 0 0x101 i a d)).symm)
theorem Length.waiteLit (d a : Reg) (l : Word) : Statement (.waiteLit d a l) :=
  .inr (.inl (congrArg wordCount (lenOf_rri 1 0x101 0 a d)).symm)
theorem Length.advp (d a : Reg) (i : BitVec 9) : Statement (.advp d a i) :=
  .inr (.inl (congrArg wordCount (lenOf_rri 0 0x102 i a d)).symm)
theorem Length.advpLit (d a : Reg) (l : Word) : Statement (.advpLit d a l) :=
  .inr (.inl (congrArg wordCount (lenOf_rri 1 0x102 0 a d)).symm)
theorem Length.advc (d a : Reg) (i : BitVec 9) : Statement (.advc d a i) :=
  .inr (.inl (congrArg wordCount (lenOf_rri 0 0x103 i a d)).symm)
theorem Length.advcLit (d a : Reg) (l : Word) : Statement (.advcLit d a l) :=
  .inr (.inl (congrArg wordCount (lenOf_rri 1 0x103 0 a d)).symm)
theorem Length.hset (d a : Reg) (i : BitVec 9) : Statement (.hset d a i) :=
  .inr (.inl (congrArg wordCount (lenOf_rri 0 0x104 i a d)).symm)
theorem Length.hget (d a : Reg) (i : BitVec 9) : Statement (.hget d a i) :=
  .inr (.inl (congrArg wordCount (lenOf_rri 0 0x105 i a d)).symm)
theorem Length.hmov (d a : BitVec 5) : Statement (.hmov d a) :=
  .inr (.inl (congrArg wordCount (lenOf_hhh 0 0x106 0 0 a d)).symm)
theorem Length.hld (d a : Reg) (i : BitVec 9) : Statement (.hld d a i) :=
  .inr (.inl (congrArg wordCount (lenOf_rri 0 0x107 i a d)).symm)
theorem Length.hldLit (d a : Reg) (l : Word) : Statement (.hldLit d a l) :=
  .inr (.inl (congrArg wordCount (lenOf_rri 1 0x107 0 a d)).symm)
theorem Length.hst (d a : Reg) (i : BitVec 9) : Statement (.hst d a i) :=
  .inr (.inl (congrArg wordCount (lenOf_rri 0 0x108 i a d)).symm)
theorem Length.hstLit (d a : Reg) (l : Word) : Statement (.hstLit d a l) :=
  .inr (.inl (congrArg wordCount (lenOf_rri 1 0x108 0 a d)).symm)
theorem Length.send (d a b : Reg) : Statement (.send d a b) :=
  .inr (.inl (congrArg wordCount (lenOf_rrr 0 0x109 0 b a d)).symm)
theorem Length.sendSp (d a b : Reg) : Statement (.sendSp d a b) :=
  .inr (.inl (congrArg wordCount (lenOf_rrr 0 0x109 1 b a d)).symm)
theorem Length.sendCode (d a b : Reg) : Statement (.sendCode d a b) :=
  .inr (.inl (congrArg wordCount (lenOf_rrr 0 0x109 2 b a d)).symm)
theorem Length.sendNz (d a b : Reg) : Statement (.sendNz d a b) :=
  .inr (.inl (congrArg wordCount (lenOf_rrr 0 0x109 3 b a d)).symm)
theorem Length.sendw (d a b : Reg) : Statement (.sendw d a b) :=
  .inr (.inl (congrArg wordCount (lenOf_rrr 0 0x10A 0 b a d)).symm)
theorem Length.sendwSp (d a b : Reg) : Statement (.sendwSp d a b) :=
  .inr (.inl (congrArg wordCount (lenOf_rrr 0 0x10A 1 b a d)).symm)
theorem Length.sendwCode (d a b : Reg) : Statement (.sendwCode d a b) :=
  .inr (.inl (congrArg wordCount (lenOf_rrr 0 0x10A 2 b a d)).symm)
theorem Length.sendwNz (d a b : Reg) : Statement (.sendwNz d a b) :=
  .inr (.inl (congrArg wordCount (lenOf_rrr 0 0x10A 3 b a d)).symm)
theorem Length.relw (d : Reg) : Statement (.relw d) := .inr (.inl (congrArg wordCount (lenOf_rrr 0 0x10B 0 0 0 d)).symm)
theorem Length.wcnt (d a : Reg) : Statement (.wcnt d a) := .inr (.inl (congrArg wordCount (lenOf_rrr 0 0x10C 0 0 a d)).symm)
theorem Length.ckpt : Statement .ckpt := .inr (.inl (congrArg wordCount (lenOf_rrr 0 0x10D 0 0 0 0)).symm)
theorem Length.yield : Statement .yield := .inr (.inl (congrArg wordCount (lenOf_rrr 0 0x10E 0 0 0 0)).symm)
theorem Length.tstamp (d : Reg) : Statement (.tstamp d) := .inr (.inl (congrArg wordCount (lenOf_rrr 0 0x10F 0 0 0 d)).symm)
theorem Length.spawn (d a b : Reg) : Statement (.spawn d a b) :=
  .inr (.inl (congrArg wordCount (lenOf_rrr 0 0x110 0 b a d)).symm)
theorem Length.abort : Statement .abort := .inr (.inl (congrArg wordCount (lenOf_rrr 0 0x111 0 0 0 0)).symm)
theorem Length.fnfit (d a b : Reg) (c : BitVec 1) : Statement (.fnfit d a b c) :=
  .inr (.inl (congrArg wordCount (lenOf_rrr 0 0x120 (0#2 ++ c) b a d)).symm)
theorem Length.fnld (d a : Reg) (i : BitVec 9) : Statement (.fnld d a i) :=
  .inr (.inl (congrArg wordCount (lenOf_rri 0 0x121 i a d)).symm)
theorem Length.fnldLit (d a : Reg) (l : Word) : Statement (.fnldLit d a l) :=
  .inr (.inl (congrArg wordCount (lenOf_rri 1 0x121 0 a d)).symm)
theorem Length.fnst (d a : Reg) (i : BitVec 9) : Statement (.fnst d a i) :=
  .inr (.inl (congrArg wordCount (lenOf_rri 0 0x122 i a d)).symm)
theorem Length.fnstLit (d a : Reg) (l : Word) : Statement (.fnstLit d a l) :=
  .inr (.inl (congrArg wordCount (lenOf_rri 1 0x122 0 a d)).symm)
theorem Length.fnadd (d a b : Reg) (c : BitVec 1) : Statement (.fnadd d a b c) :=
  .inr (.inl (congrArg wordCount (lenOf_rrr 0 0x123 (0#2 ++ c) b a d)).symm)
theorem Length.fnsub (d a b : Reg) (c : BitVec 1) : Statement (.fnsub d a b c) :=
  .inr (.inl (congrArg wordCount (lenOf_rrr 0 0x124 (0#2 ++ c) b a d)).symm)
theorem Length.fnmul (d a b : Reg) (c : BitVec 1) : Statement (.fnmul d a b c) :=
  .inr (.inl (congrArg wordCount (lenOf_rrr 0 0x125 (0#2 ++ c) b a d)).symm)
theorem Length.fnscale (d a b : Reg) (c : BitVec 1) : Statement (.fnscale d a b c) :=
  .inr (.inl (congrArg wordCount (lenOf_rrr 0 0x126 (0#2 ++ c) b a d)).symm)
theorem Length.fncomp (d a b : Reg) (c : BitVec 1) : Statement (.fncomp d a b c) :=
  .inr (.inl (congrArg wordCount (lenOf_rrr 0 0x127 (0#2 ++ c) b a d)).symm)
theorem Length.fnint (d a : Reg) (c : BitVec 1) : Statement (.fnint d a c) :=
  .inr (.inl (congrArg wordCount (lenOf_rrr 0 0x128 (0#2 ++ c) 0 a d)).symm)
theorem Length.fnder (d a : Reg) (c : BitVec 1) : Statement (.fnder d a c) :=
  .inr (.inl (congrArg wordCount (lenOf_rrr 0 0x129 (0#2 ++ c) 0 a d)).symm)
theorem Length.fnroot (d a b : Reg) : Statement (.fnroot d a b) :=
  .inr (.inl (congrArg wordCount (lenOf_rrr 0 0x12A 0 b a d)).symm)
theorem Length.fneval (d a b : Reg) (c : BitVec 1) : Statement (.fneval d a b c) :=
  .inr (.inl (congrArg wordCount (lenOf_rrr 0 0x12B (0#2 ++ c) b a d)).symm)
theorem Length.fnevs (d a b : Reg) (c : BitVec 1) : Statement (.fnevs d a b c) :=
  .inr (.inl (congrArg wordCount (lenOf_rrr 0 0x12C (0#2 ++ c) b a d)).symm)
theorem Length.fntrunc (d a b : Reg) (c : BitVec 1) : Statement (.fntrunc d a b c) :=
  .inr (.inl (congrArg wordCount (lenOf_rrr 0 0x12D (0#2 ++ c) b a d)).symm)
theorem Length.fndom (d a b : Reg) : Statement (.fndom d a b) :=
  .inr (.inl (congrArg wordCount (lenOf_rrr 0 0x12E 0 b a d)).symm)
theorem Length.fnfree (d : Reg) : Statement (.fnfree d) := .inr (.inl (congrArg wordCount (lenOf_rrr 0 0x12F 0 0 0 d)).symm)
theorem Length.fnlen (d a : Reg) : Statement (.fnlen d a) :=
  .inr (.inl (congrArg wordCount (lenOf_rrr 0 0x130 0 0 a d)).symm)
theorem Length.fnmov (d a : Reg) (c : BitVec 1) : Statement (.fnmov d a c) :=
  .inr (.inl (congrArg wordCount (lenOf_rrr 0 0x131 (0#2 ++ c) 0 a d)).symm)
theorem Length.pdict (a : Reg) : Statement (.pdict a) := .inr (.inl (congrArg wordCount (lenOf_rrr 0 0x140 0 0 a 0)).symm)
theorem Length.pimg (a : Reg) : Statement (.pimg a) := .inr (.inl (congrArg wordCount (lenOf_rrr 0 0x141 0 0 a 0)).symm)
theorem Length.pthr (a b : Reg) : Statement (.pthr a b) := .inr (.inl (congrArg wordCount (lenOf_rrr 0 0x142 0 b a 0)).symm)
theorem Length.penc (d a b : Reg) : Statement (.penc d a b) :=
  .inr (.inl (congrArg wordCount (lenOf_rrr 0 0x143 0 b a d)).symm)
theorem Length.pacc (d a : Reg) : Statement (.pacc d a) := .inr (.inl (congrArg wordCount (lenOf_rrr 0 0x144 0 0 a d)).symm)
theorem Length.pesc (d a : Reg) : Statement (.pesc d a) := .inr (.inl (congrArg wordCount (lenOf_rrr 0 0x145 0 0 a d)).symm)
theorem Length.pdec (d a : Reg) : Statement (.pdec d a) := .inr (.inl (congrArg wordCount (lenOf_rrr 0 0x146 0 0 a d)).symm)
theorem Length.pgrad (d a b : Reg) : Statement (.pgrad d a b) :=
  .inr (.inl (congrArg wordCount (lenOf_rrr 0 0x147 0 b a d)).symm)
theorem Length.pstat (d : Reg) : Statement (.pstat d) := .inr (.inl (congrArg wordCount (lenOf_rrr 0 0x148 0 0 0 d)).symm)
theorem Length.mxq (a b : BitVec 5) : Statement (.mxq a b) :=
  .inr (.inl (congrArg wordCount (lenOf_hhh 0 0x149 0 b a 0)).symm)
theorem Length.mxseq (d : Reg) : Statement (.mxseq d) := .inr (.inl (congrArg wordCount (lenOf_rrr 0 0x14A 0 0 0 d)).symm)
theorem Length.mxwait (a : Reg) : Statement (.mxwait a) := .inr (.inl (congrArg wordCount (lenOf_rrr 0 0x14B 0 0 a 0)).symm)
theorem Length.accmv (d a b : Reg) : Statement (.accmv d a b) :=
  .inr (.inl (congrArg wordCount (lenOf_rrr 0 0x14C 0 b a d)).symm)
theorem Length.accpk (d a b : Reg) : Statement (.accpk d a b) :=
  .inr (.inl (congrArg wordCount (lenOf_rrr 0 0x14D 0 b a d)).symm)
theorem Length.mxLdw : Statement .mxLdw := .inl rfl
theorem Length.mxMma (mis : List Nat) : Statement (.mxMma mis) := .inl rfl
theorem Length.mxMmat (mis : List Nat) : Statement (.mxMmat mis) := .inl rfl
theorem Length.mxStacc : Statement .mxStacc := .inl rfl
theorem Length.mxZero : Statement .mxZero := .inl rfl
theorem Length.mxChk : Statement .mxChk := .inl rfl
theorem Length.admode (m : BitVec 2) : Statement (.admode m) :=
  .inr (.inl (congrArg wordCount (lenOf_ri15 0 0x160 (0#13 ++ m) 0)).symm)
theorem Length.adld (d a : Reg) (i : BitVec 9) : Statement (.adld d a i) :=
  .inr (.inl (congrArg wordCount (lenOf_rri 0 0x161 i a d)).symm)
theorem Length.adldLit (d a : Reg) (l : Word) : Statement (.adldLit d a l) :=
  .inr (.inl (congrArg wordCount (lenOf_rri 1 0x161 0 a d)).symm)
theorem Length.adst (d a : Reg) (i : BitVec 9) : Statement (.adst d a i) :=
  .inr (.inl (congrArg wordCount (lenOf_rri 0 0x162 i a d)).symm)
theorem Length.adstLit (d a : Reg) (l : Word) : Statement (.adstLit d a l) :=
  .inr (.inl (congrArg wordCount (lenOf_rri 1 0x162 0 a d)).symm)
theorem Length.adclr (d a : Reg) (i : BitVec 9) : Statement (.adclr d a i) :=
  .inr (.inl (congrArg wordCount (lenOf_rri 0 0x163 i a d)).symm)
theorem Length.adclrLit (d a : Reg) (l : Word) : Statement (.adclrLit d a l) :=
  .inr (.inl (congrArg wordCount (lenOf_rri 1 0x163 0 a d)).symm)
theorem Length.tmark (d : Reg) : Statement (.tmark d) := .inr (.inl (congrArg wordCount (lenOf_rrr 0 0x164 0 0 0 d)).symm)
theorem Length.trew (a : Reg) : Statement (.trew a) := .inr (.inl (congrArg wordCount (lenOf_rrr 0 0x165 0 0 a 0)).symm)
theorem Length.tstat (d : Reg) : Statement (.tstat d) := .inr (.inl (congrArg wordCount (lenOf_rrr 0 0x166 0 0 0 d)).symm)
theorem Length.lkset (a : Reg) : Statement (.lkset a) := .inr (.inl (congrArg wordCount (lenOf_rrr 0 0x167 0 0 a 0)).symm)
theorem Length.lkget (d : Reg) : Statement (.lkget d) := .inr (.inl (congrArg wordCount (lenOf_rrr 0 0x168 0 0 0 d)).symm)
theorem Length.qbind (d a : Reg) : Statement (.qbind d a) :=
  .inr (.inl (congrArg wordCount (lenOf_rrr 0 0x169 0 0 a d)).symm)
theorem Length.qpush (d a : Reg) : Statement (.qpush d a) :=
  .inr (.inl (congrArg wordCount (lenOf_rrr 0 0x16A 0 0 a d)).symm)
theorem Length.nxld (d a : Reg) (n : BitVec 1) : Statement (.nxld d a n) :=
  .inr (.inl (congrArg wordCount (lenOf_rrr 0 0x16B (0#2 ++ n) 0 a d)).symm)
theorem Length.nxst (d a : Reg) (n : BitVec 1) : Statement (.nxst d a n) :=
  .inr (.inl (congrArg wordCount (lenOf_rrr 0 0x16C (0#2 ++ n) 0 a d)).symm)
theorem Length.balloc (d : Reg) : Statement (.balloc d) := .inr (.inl (congrArg wordCount (lenOf_rrr 0 0x16D 0 0 0 d)).symm)
theorem Length.bfree (a : Reg) : Statement (.bfree a) := .inr (.inl (congrArg wordCount (lenOf_rrr 0 0x16E 0 0 a 0)).symm)
theorem Length.barr (d a b : Reg) (c : BitVec 1) : Statement (.barr d a b c) :=
  .inr (.inl (congrArg wordCount (lenOf_rrr 0 0x16F (0#2 ++ c) b a d)).symm)
theorem Length.barrM (d a b : Reg) (c : BitVec 1) : Statement (.barrM d a b c) :=
  .inr (.inl (congrArg wordCount (lenOf_rrr 0 0x170 (0#2 ++ c) b a d)).symm)
theorem Length.barrMCs (d a b : Reg) (c : BitVec 1) : Statement (.barrMCs d a b c) :=
  .inr (.inl (congrArg wordCount (lenOf_rrr 0 0x170 (1#2 ++ c) b a d)).symm)
theorem Length.bwait (d a b : Reg) : Statement (.bwait d a b) :=
  .inr (.inl (congrArg wordCount (lenOf_rrr 0 0x171 0 b a d)).symm)
theorem Length.bwaitCs (d a b : Reg) : Statement (.bwaitCs d a b) :=
  .inr (.inl (congrArg wordCount (lenOf_rrr 0 0x171 1 b a d)).symm)
theorem Length.bwaitGv (d a b : Reg) : Statement (.bwaitGv d a b) :=
  .inr (.inl (congrArg wordCount (lenOf_rrr 0 0x171 2 b a d)).symm)
theorem Length.btest (d a b : Reg) : Statement (.btest d a b) :=
  .inr (.inl (congrArg wordCount (lenOf_rrr 0 0x172 0 b a d)).symm)
theorem Length.btestCs (d a b : Reg) : Statement (.btestCs d a b) :=
  .inr (.inl (congrArg wordCount (lenOf_rrr 0 0x172 1 b a d)).symm)
theorem Length.btestGv (d a b : Reg) : Statement (.btestGv d a b) :=
  .inr (.inl (congrArg wordCount (lenOf_rrr 0 0x172 2 b a d)).symm)
theorem Length.barto : Statement .barto := .inl rfl
theorem Length.barrierChangeNotice : Statement .barrierChangeNotice := .inl rfl
theorem Length.capxfer (a b : Reg) : Statement (.capxfer a b) :=
  .inr (.inl (congrArg wordCount (lenOf_rrr 0 0x180 0 b a 0)).symm)
theorem Length.capq (d a : Reg) : Statement (.capq d a) := .inr (.inl (congrArg wordCount (lenOf_rrr 0 0x181 0 0 a d)).symm)
theorem Length.circ (d a b : Reg) : Statement (.circ d a b) :=
  .inr (.inl (congrArg wordCount (lenOf_rrr 0 0x182 0 b a d)).symm)
theorem Length.circrel (a : Reg) : Statement (.circrel a) :=
  .inr (.inl (congrArg wordCount (lenOf_rrr 0 0x183 0 0 a 0)).symm)
theorem Length.sopen (d a b : Reg) : Statement (.sopen d a b) :=
  .inr (.inl (congrArg wordCount (lenOf_rrr 0 0x184 0 b a d)).symm)
theorem Length.sclose (a : Reg) : Statement (.sclose a) := .inr (.inl (congrArg wordCount (lenOf_rrr 0 0x185 0 0 a 0)).symm)
theorem Length.cp (d a : Reg) (c : BitVec 3) : Statement (.cp d a c) :=
  .inr (.inl (congrArg wordCount (lenOf_rrr 0 0x186 c 0 a d)).symm)
theorem Length.cpt (d a : Reg) (c : BitVec 3) : Statement (.cpt d a c) :=
  .inr (.inl (congrArg wordCount (lenOf_rrr 0 0x187 c 0 a d)).symm)
theorem Length.gath (d a b : Reg) (c : BitVec 3) : Statement (.gath d a b c) :=
  .inr (.inl (congrArg wordCount (lenOf_rrr 0 0x188 c b a d)).symm)
theorem Length.cpwp (d : Reg) (c : BitVec 3) : Statement (.cpwp d c) :=
  .inr (.inl (congrArg wordCount (lenOf_rrr 0 0x189 c 0 0 d)).symm)
theorem Length.cpwait (c : BitVec 3) : Statement (.cpwait c) :=
  .inr (.inl (congrArg wordCount (lenOf_rrr 0 0x18A c 0 0 0)).symm)
theorem Length.engseq (d a : Reg) : Statement (.engseq d a) :=
  .inr (.inl (congrArg wordCount (lenOf_rrr 0 0x18B 0 0 a d)).symm)
theorem Length.halo (d a : Reg) (c : BitVec 3) : Statement (.halo d a c) :=
  .inr (.inl (congrArg wordCount (lenOf_rrr 0 0x18C c 0 a d)).symm)
theorem Length.lclock (d : Reg) : Statement (.lclock d) := .inr (.inl (congrArg wordCount (lenOf_rrr 0 0x18D 0 0 0 d)).symm)
theorem Length.engineUnit (c : BitVec 3) : Statement (.engineUnit c) := .inl rfl
theorem Length.pst (d a : Reg) (i : BitVec 9) : Statement (.pst d a i) :=
  .inr (.inl (congrArg wordCount (lenOf_rri 0 0x1A0 i a d)).symm)
theorem Length.pstLit (d a : Reg) (l : Word) : Statement (.pstLit d a l) :=
  .inr (.inl (congrArg wordCount (lenOf_rri 1 0x1A0 0 a d)).symm)
theorem Length.pstb (d a : Reg) (i : BitVec 9) : Statement (.pstb d a i) :=
  .inr (.inl (congrArg wordCount (lenOf_rri 0 0x1A1 i a d)).symm)
theorem Length.pstbLit (d a : Reg) (l : Word) : Statement (.pstbLit d a l) :=
  .inr (.inl (congrArg wordCount (lenOf_rri 1 0x1A1 0 a d)).symm)
theorem Length.redst (d a : Reg) (i : BitVec 9) : Statement (.redst d a i) :=
  .inr (.inl (congrArg wordCount (lenOf_rri 0 0x1A2 i a d)).symm)
theorem Length.redstLit (d a : Reg) (l : Word) : Statement (.redstLit d a l) :=
  .inr (.inl (congrArg wordCount (lenOf_rri 1 0x1A2 0 a d)).symm)
theorem Length.redq (d a : Reg) : Statement (.redq d a) := .inr (.inl (congrArg wordCount (lenOf_rrr 0 0x1A3 0 0 a d)).symm)
theorem Length.wake (a : Reg) : Statement (.wake a) := .inr (.inl (congrArg wordCount (lenOf_rrr 0 0x1A4 0 0 a 0)).symm)
theorem Length.sigx (a : Reg) : Statement (.sigx a) := .inr (.inl (congrArg wordCount (lenOf_rrr 0 0x1A5 0 0 a 0)).symm)
theorem Length.mark (d : Reg) (i : BitVec 15) : Statement (.mark d i) :=
  .inr (.inl (congrArg wordCount (lenOf_ri15 0 0x1A6 i d)).symm)
theorem Length.packetPlacement (p : Packet) (num : Option (BitVec 16)) : Statement (.packetPlacement p num) := .inl rfl
theorem Length.unboundArrivalAnswer (slot : BitVec 5) (entry : Option BindEntry) : Statement (.unboundArrivalAnswer slot entry) :=
  .inl rfl
theorem Length.activationStart : Statement .activationStart := .inl rfl
theorem Length.heldRequest (r : HeldReq) (num : Option (BitVec 16)) : Statement (.heldRequest r num) := .inl rfl
theorem Length.applyNotice (r : HeldReq) (data : List (Nat × BitVec 8)) (val : BitVec 32)
    (num : Option (BitVec 16)) : Statement (.applyNotice r data val num) :=
  .inl rfl
theorem Length.dropNotice (r : HeldReq) (num : Option (BitVec 16)) : Statement (.dropNotice r num) := .inl rfl
theorem Length.commitAcknowledgement : Statement .commitAcknowledgement := .inl rfl
theorem Length.speculationEnd : Statement .speculationEnd := .inl rfl
theorem Length.preempt (flight : Bool) : Statement (.preempt flight) := .inl rfl
theorem Length.contextSave : Statement .contextSave := .inl rfl
theorem Length.contextResume (i : Nat) : Statement (.contextResume i) := .inl rfl
theorem Length.partitionSwitch (part : BitVec 16) : Statement (.partitionSwitch part) := .inl rfl
theorem Length.parkedActivationReturn (i : Nat) (retire : Bool) : Statement (.parkedActivationReturn i retire) := .inl rfl
theorem Length.linkPassThrough (toNext : Bool) (arrival : Option (List Byte)) : Statement (.linkPassThrough toNext arrival) :=
  .inl rfl
theorem Length.circuitIdleTimeout (key : CircKey) : Statement (.circuitIdleTimeout key) := .inl rfl
theorem Length.closingMarker (c : CircMark) : Statement (.closingMarker c) := .inl rfl
theorem Length.setupFlit (r : SetupReq) (num : Option (BitVec 16)) : Statement (.setupFlit r num) := .inl rfl
theorem Length.setupGrant (src : BitVec 34) : Statement (.setupGrant src) := .inl rfl
theorem Length.syncPacket (core : BitVec 34) (die : Bool) (slot : BitVec 6) (n : BitVec 16) : Statement (.syncPacket core die slot n) :=
  .inl rfl
theorem Length.wakePlacement (p : Packet) (count : Nat) (part : BitVec 16) (ksel : Option (BitVec 4)) :
    Statement (.wakePlacement p count part ksel) := .inl rfl
theorem Length.kernelInstall (k : KernelPlan) : Statement (.kernelInstall k) := .inl rfl
theorem Length.kernelRemoval (ksel : BitVec 4) : Statement (.kernelRemoval ksel) := .inl rfl
theorem Length.slotRecordWrite (idx : BitVec 10) (rec : SlotRecord) (others : BitVec 2) : Statement (.slotRecordWrite idx rec others) := .inl rfl
theorem Length.quantumEnd : Statement .quantumEnd := .inl rfl
theorem Length.clockChange (mhz : Nat) : Statement (.clockChange mhz) := .inl rfl
theorem Length.thermalThrottle (mhz : Nat) : Statement (.thermalThrottle mhz) := .inl rfl
theorem Length.thermalPreemption : Statement .thermalPreemption := .inl rfl
theorem Length.thermalResume : Statement .thermalResume := .inl rfl
theorem Length.thermalTrip : Statement .thermalTrip := .inl rfl
theorem Length.boot (r : BootResult) : Statement (.boot r) := .inl rfl
theorem Length.attestationRequest (nonce : List (BitVec 8)) : Statement (.attestationRequest nonce) := .inl rfl
theorem Length.hostBarAccess (r : HostAccess) : Statement (.hostBarAccess r) := .inl rfl
theorem Length.hostDma (r : HostAccess) : Statement (.hostDma r) := .inl rfl
theorem Length.sliceAccess (r : SliceReq) : Statement (.sliceAccess r) := .inl rfl
theorem Length.hbmFill (line : Nat) (core : BitVec 34) : Statement (.hbmFill line core) := .inl rfl
theorem Length.calderaRefreshStart (bank : BitVec 7) : Statement (.calderaRefreshStart bank) := .inl rfl
theorem Length.calderaRefreshEnd (bank : BitVec 7) : Statement (.calderaRefreshEnd bank) := .inl rfl
theorem Length.tlbWalk (va : Word) (kind : AccessKind) : Statement (.tlbWalk va kind) := .inl rfl
theorem Length.firmwareInvalidation (va : Word) : Statement (.firmwareInvalidation va) := .inl rfl
theorem Length.migration (granule : Nat) (frame : Nat) (frames : List Nat) : Statement (.migration granule frame frames) := .inl rfl
theorem Length.migrationCopyComplete (granule : Nat) (res : CopyResult) : Statement (.migrationCopyComplete granule res) :=
  .inl rfl
theorem Length.hotnessRead (granule : Nat) : Statement (.hotnessRead granule) := .inl rfl
theorem Length.uncorrectableError (site : ErrorSite) : Statement (.uncorrectableError site) := .inl rfl
theorem Length.correctableError (cls : SoftClass) (die : BitVec 2) : Statement (.correctableError cls die) := .inl rfl
theorem Length.fabricRequest (src : BitVec 34) (num : BitVec 16) (r : SliceReq) : Statement (.fabricRequest src num r) :=
  .inl rfl
theorem Length.fabricResendTimeout (pkg : BitVec 22) (kind : BitVec 4) : Statement (.fabricResendTimeout pkg kind) :=
  .inl rfl
theorem Length.flitCrcFailure (link : Nat) : Statement (.flitCrcFailure link) := .inl rfl
theorem Length.onDieLinkCrcFailure (link : Nat) (noRoute : Bool) : Statement (.onDieLinkCrcFailure link noRoute) := .inl rfl
theorem Length.leaseRecall (granule : Nat) : Statement (.leaseRecall granule) := .inl rfl
theorem Length.leaseHolderFailed (pkg : BitVec 22) : Statement (.leaseHolderFailed pkg) := .inl rfl
theorem Length.reduceContribution (core : BitVec 34) (addr : Nat) (val : BitVec 32)
    (num : Option (BitVec 16)) : Statement (.reduceContribution core addr val num) :=
  .inl rfl
theorem Length.geyserTick (others : List GeyserCore) : Statement (.geyserTick others) := .inl rfl
theorem Length.counterRotate : Statement .counterRotate := .inl rfl
theorem Length.debugStop (passed : Bool) : Statement (.debugStop passed) := .inl rfl
theorem Length.debugResume : Statement .debugResume := .inl rfl
theorem Length.breakResume : Statement .breakResume := .inl rfl
theorem Length.patch (addr : Nat) (words : List (BitVec 32)) : Statement (.patch addr words) := .inl rfl
theorem Length.replayLogDrain : Statement .replayLogDrain := .inl rfl
theorem Length.frmWrite (v : Word) : Statement (.frmWrite v) := .inl rfl
theorem Length.fntolWrite (v : Word) : Statement (.fntolWrite v) := .inl rfl
theorem Length.pmselWrite (v : Word) : Statement (.pmselWrite v) := .inl rfl
theorem Length.csrWrite (c : BitVec 12) (v : Word) : Statement (.csrWrite c v) := .inl rfl
theorem Length.nonInstruction (w : BitVec 32) (bit : Option (BitVec 8)) : Statement (.nonInstruction w bit) :=
  .inr (.inr ⟨w, bit, rfl⟩)
theorem Length.placementAcknowledgement : Statement .placementAcknowledgement := .inl rfl
theorem Length.atomicReply : Statement .atomicReply := .inl rfl
theorem Length.holdAnswer : Statement .holdAnswer := .inl rfl
theorem Length.managementEthernetFrame (f : EthFrame) : Statement (.managementEthernetFrame f) := .inl rfl

end Sys2Proof.Laws
end

