-- ==== Sys2Proof/Tests/Slice0.lean ====
section
/-!
SUPPORT. Tests/Slice0.lean: ill-formed terms that the checks refuse, decodings of words written out from the spec's encodings,
single steps on small states, and for every statement concrete states and operands that meet its hypotheses.
-/

open Sys2Proof Sys2Proof.Machine Sys2Proof.Claims

set_option maxRecDepth 1000000
set_option Elab.async false

namespace Sys2Proof.Tests

/-! ### Small states -/

/-- A page of 64 KiB at virtual granule `va` and home `pa`, of a format, with every right. -/
def page (va pa : Nat) (fmt : BitVec 4) : TlbEntry where
  part := 0
  asid := 0
  va := va
  pa := pa
  ipa := pa
  psize := 65536
  fpage := 65536
  frame := 0
  r1 := true
  w1 := true
  x1 := true
  u1 := true
  r2 := true
  w2 := true
  x2 := true
  u2 := true
  lvl1 := 3
  lvl2 := 3
  fmt := fmt
  t := false
  g := 0
  ad := false
  frames := []
  accR := true
  accW := true
  accA := true
  grant := Granule.default.cap

/-- The pages of the tests: granule 2 plain, 3 a SYNC granule, 4 differentiable FP32 with its frame at 0x50000, 6 of E2M1 blocks
with its scales at 0x70000, 8 and 9 the two of a pair, 10 a reducing window of FP32. -/
def pages : List TlbEntry :=
  [page 2 0x20000 0, { page 3 0x30000 0 with grant := .sync }, { page 4 0x40000 1 with ad := true, frames := [0x50000] },
    { page 6 0x60000 6 with frames := [0x70000] }, page 8 0x80000 2, page 9 0x90000 2, { page 10 0xA0000 1 with grant := .reduce false }]

/-- The activation of the tests, in user mode. -/
def act : Act := ⟨0, 0x11, 0, 0, 0, 0x10000, 0, 0, 0, 0, 0, 0, false, 7⟩

/-- A booted core that runs it, with a handler at 0x18000 and the pages mapped. -/
def base : State := { State.reset with
  run := { Run.reset with act := some act, ctx := { Ctx.reset with pc := 0x10000 } }
  core := { CoreSt.reset with tvec := 0x18000, dtlb := pages }
  die := { Die.reset with grans := [(3, { Granule.default with cap := .sync }), (10, { Granule.default with cap := .reduce false })] }
  pkg := { Pkg.reset with booted := true } }

/-- A state with scalar registers set. -/
def regs (s : State) (l : List (Reg × Word)) : State := l.foldl (fun s p => s.wr p.1 p.2) s

/-- A state with handle registers set. -/
def hands (s : State) (l : List (Reg × BitVec 256)) : State := l.foldl (fun s p => s.wrH p.1 p.2) s

/-- A state with bytes of memory set. -/
def bytesAt (s : State) (l : List (Nat × List Byte)) : State :=
  { s with die := { s.die with mem := l.foldl (fun m p => m.put p.1 p.2) s.die.mem } }

/-- A handle: BASE, SPACE, KIND, FMT, and its dimensions with their strides. -/
def handle (b sp kind fmt : Nat) (dims : List (Nat × Nat)) : BitVec 256 :=
  BitVec.ofNat 256 (b + sp * 2 ^ 64 + kind * 2 ^ 68 + fmt * 2 ^ 72 + (dims.length - 1) * 2 ^ 80 +
    (dims.zipIdx.map (fun p => p.1.1 * 2 ^ (88 + 16 * p.2) + p.1.2 * 2 ^ (152 + 16 * p.2))).sum)

/-- `n` elements of a format in the scratchpad from `a` on. -/
def vec (a fmt n : Nat) : BitVec 256 := handle a 1 0 fmt [(n, 1)]

/-- A ring in the scratchpad: slots of `n` elements, CAP, PROD and CONS. -/
def ring (a fmt n cap prod cons : Nat) : BitVec 256 :=
  BitVec.ofNat 256 ((handle a 1 1 fmt [(n, 1)]).toNat + cap * 2 ^ 216 + prod * 2 ^ 228 + cons * 2 ^ 242)

/-- The state in supervisor mode. -/
def super (s : State) : State := s.withCtx { s.run.ctx with priv := true }

/-- An instruction completes. -/
def Runs (i : Instr) (s : State) : Prop := ∃ t, exec i s = .next t

theorem runs {o : Host.Outcome State Fault Refusal} {p : State → Prop} (h : ∃ t, o = .next t ∧ p t) : ∃ t, o = .next t :=
  h.imp fun _ q => q.1

/-- A store that needs no checkpoint first leaves the state as it is. -/
theorem noRoom {s : State} {homes cells : List Nat}
    (h : ((homes.filter s.ownSp).any (fun a => s.run.readSet.contains ((a - s.spA 0) / 64)) ||
      !s.logRoom (homes.filter (fun a => !s.ownSp a)) cells) = false) : s.storeRoom homes cells = .ok s :=
  if_neg (ne_true_of_eq_false h)

/-- A destination that needs no checkpoint leaves the state as it is. -/
theorem noDest {s : State} {w : BitVec 32} {d : Opnd} {srcs : List Opnd}
    (h1 : Config.logLines < (insertAll ((d.homes.filter (fun a => !s.ownSp a)).map (· / 64)) []).length ↔ False)
    (h2 : (linesOf (insertAll (d.homes.filter s.ownSp) [])).any
      (srcs.flatMap (fun o => o.els.flatMap (fun e => (o.reads e).map (fun u => u.1 / 64)))).contains = false)
    (h3 : s.storeRoom d.homes [] = .ok s) : s.destRoom w d srcs = .ok (s, false) := by
  unfold State.destRoom
  simp [h1, h2, h3]

/-- A destination that overlaps a source takes the checkpoint before it and one after. -/
theorem ckDest {s : State} {w : BitVec 32} {d : Opnd} {srcs : List Opnd} (h0 : s.run.part = 0)
    (h1 : Config.logLines < (insertAll ((d.homes.filter (fun a => !s.ownSp a)).map (· / 64)) []).length ↔ False)
    (h2 : (linesOf (insertAll (d.homes.filter s.ownSp) [])).any
      (srcs.flatMap (fun o => o.els.flatMap (fun e => (o.reads e).map (fun u => u.1 / 64)))).contains = true)
    (h3 : s.checkpointHere = .ok (s.checkpointNow s.run.ctx.pc)) :
    s.destRoom w d srcs = .ok (s.checkpointNow s.run.ctx.pc, true) := by
  unfold State.destRoom
  simp [h0, h1, h2, h3]

/-- Where nothing is poisoned no read meets poison. -/
theorem cleanLine {s : State} (h : s.die.poison = []) (h' : s.die.gpoison = []) (a n : Nat) : s.poisonCheck a n = .ok () := by
  have : ∀ l : List Nat, l.find? (fun k => s.poisoned (a / 64 + k)) = none := fun l =>
    List.find?_eq_none.mpr fun k _ => by simp [State.poisoned, h, h']
  simp [State.poisonCheck, this]

theorem clean {s : State} (h : s.die.poison = []) (h' : s.die.gpoison = []) : ∀ us : List (Nat × Nat), s.loadPoison us = .ok ()
  | [] => rfl
  | u :: us => by
    have ht := clean h h' us
    simp only [State.loadPoison, List.map_cons, checks, cleanLine h h', ite_self] at ht ⊢
    exact ht

/-- Whether two units of storage share no byte. -/
def apart2 (u v : Nat × Nat) : Bool := decide (u.1 + u.2 ≤ v.1) || decide (v.1 + v.2 ≤ u.1)

theorem apartUnits {us vs : List (Nat × Nat)} (h : us.all (fun u => vs.all (apart2 u)) = true) (a : Nat)
    (ha : inUnits us a = true) : inUnits vs a = false := by
  simp only [inUnits, List.any_eq_true, List.any_eq_false, List.all_eq_true, apart2, Bool.or_eq_true, Bool.and_eq_true,
    decide_eq_true_eq] at *
  obtain ⟨u, hu, h1⟩ := ha
  intro v hv h2
  have := h u hu v hv
  omega

/-- Element j of D shares no byte with another. -/
theorem apart {o : Opnd} {j : Nat}
    (h : (List.range o.sh.n).all (fun k => k == j || (o.el j).units.all (fun u => (o.el k).units.all (apart2 u))) = true) :
    ∀ k < o.sh.n, k ≠ j → ∀ a, inUnits (o.el j).units a = true → inUnits (o.el k).units a = false := by
  intro k hk hj
  have := List.all_eq_true.mp h k (List.mem_range.mpr hk)
  simp only [Bool.or_eq_true, beq_iff_eq, hj, false_or] at this
  exact apartUnits this

theorem oneBlock {o a : Opnd} (hn : o.sh.n ≤ 8) (hs : scaleUnit (o.el 0) = []) : ∀ j < o.sh.n, j % 8 = 0 → blockIndependent o a j := by
  intro j hj hm
  have : j = 0 := by omega
  subst this
  exact ⟨fun x hx => by rw [hs] at hx; exact absurd hx (by simp [inUnits]), fun k hk hne => by omega⟩

/-- Whether element j of D and what is read for it share no byte with another element of D. -/
def apartAt (o : Opnd) (rs : List (Opnd × Nat)) (j : Nat) : Bool :=
  (List.range o.sh.n).all (fun k => k == j || (o.el j).units.all (fun u => (o.el k).units.all (apart2 u))) &&
    rs.all (fun x => (List.range o.sh.n).all (fun k => k == j ||
      (x.1.reads (x.1.el x.2)).all (fun u => (o.el k).units.all (apart2 u))))

theorem independent_of_apartAt {o : Opnd} {rs : List (Opnd × Nat)} {j : Nat} (h : apartAt o rs j = true) : independentOf o rs j := by
  obtain ⟨h1, h2⟩ := Bool.and_eq_true_iff.mp h
  refine ⟨apart h1, fun x hx k hk hj => ?_⟩
  have := List.all_eq_true.mp (List.all_eq_true.mp h2 x hx) k (List.mem_range.mpr hk)
  simp only [Bool.or_eq_true, beq_iff_eq, hj, false_or] at this
  exact apartUnits this

theorem apartEach {o : Opnd} {rs : Nat → List (Opnd × Nat)} (h : (List.range o.sh.n).all (fun j => apartAt o (rs j) j) = true) :
    ∀ j < o.sh.n, independentOf o (rs j) j :=
  fun j hj => independent_of_apartAt (List.all_eq_true.mp h j (List.mem_range.mpr hj))

/-! ### Words written out from the formats of R41 and R44 and the tables of R66 to R78

A word stands field by field from bit 31 down, as the strips of R41 give it. -/

/-- R66: words of row 0. -/
theorem decode_integer_registers :
    decode (wordBytes [0b000_000111_000110_000101_000000000_00]) = .ok (.add 5 6 7, []) ∧
    decode (wordBytes [0b000_000011_000010_000001_000001100_00]) = .ok (.andn 1 2 3, []) ∧
    decode (wordBytes [0b000_000000_001001_001000_000010101_00]) = .ok (.clz 8 9, []) ∧
    decode (wordBytes [0b000_000011_000010_111111_000011001_00]) = .ok (.ins 63 2 3, []) ∧
    decode (wordBytes [0b011_000011_000010_000001_000011010_00]) = .ok (.lea 1 2 3 3, []) ∧
    decode (wordBytes [0b000_000000_000010_000001_000011100_00]) = .ok (.bswap 1 2, []) := by
  refine ⟨?_, ?_, ?_, ?_, ?_, ?_⟩ <;> rfl

/-- R67: words of row 1. -/
theorem decode_immediates_and_compares :
    decode (wordBytes [0b111111101_000110_000101_000100000_00]) = .ok (.addi 5 6 0x1FD, []) ∧
    decode (wordBytes [0b000000000_000110_000101_000100100_01, 63, 0]) = .ok (.shliLit 5 6 63, []) ∧
    decode (wordBytes [0b000000111_000110_000101_000101000_00]) = .ok (.leasw 5 6 7, []) ∧
    decode (wordBytes [0b000_000111_000110_000101_000101100_00]) = .ok (.cmpLtZ 5 6 7, []) ∧
    decode (wordBytes [0b000000000_000110_000101_000110100_01, 0x9ABCDEF0, 0x12345678]) = .ok (.cmpiLeZLit 5 6 0x123456789ABCDEF0, []) ∧
    decode (wordBytes [0x000000D4]) = .ok (.nop, []) := by
  refine ⟨?_, ?_, ?_, ?_, ?_, ?_⟩ <;> rfl

/-- R68: words of row 2. -/
theorem decode_floating_point :
    decode (wordBytes [0b001_000110_000101_000100_001000001_00]) = .ok (.faddF64 4 5 6 1, []) ∧
    decode (wordBytes [0b111_000000_000101_000100_001001000_00]) = .ok (.fsqrtF32 4 5 7, []) ∧
    decode (wordBytes [0b000_000110_000101_000100_001001011_00]) = .ok (.ffmaF64 4 5 6 0, []) ∧
    decode (wordBytes [0b010_000110_000101_000100_001010000_00]) = .ok (.fcmpF32 4 5 6 2, []) ∧
    decode (wordBytes [0b100_010101_000101_000100_001010011_00]) = .ok (.fcvtF64 4 5 4 0b010101, []) ∧
    decode (wordBytes [0b010_000110_000101_000100_001010110_00]) = .ok (.fsgnF32 4 5 6 2, []) := by
  refine ⟨?_, ?_, ?_, ?_, ?_, ?_⟩ <;> rfl

/-- R69: words of row 3. -/
theorem decode_control :
    decode (wordBytes [0b111111111111101_000000_001100000_00]) = .ok (.br 0x7FFD, []) ∧
    decode (wordBytes [0b111111111111101_001001_001100010_00]) = .ok (.bcNe 9 0x7FFD, []) ∧
    decode (wordBytes [0b000000000000101_001001_001100110_00]) = .ok (.bcGt 9 5, []) ∧
    decode (wordBytes [0b111111100_001001_000000_001100111_00]) = .ok (.jmp 9 0x1FC, []) ∧
    decode (wordBytes [0b000000000000000_000001_001101000_01, 0x9ABCDEF0, 0x12345678]) = .ok (.callLit 1 0x123456789ABCDEF0, []) ∧
    decode (wordBytes [0b000_000000_000001_000000_001101001_00]) = .ok (.ret 1, []) ∧
    decode (wordBytes [0b111111111111110_000011_001101010_00]) = .ok (.loop 3 0x7FFE, []) ∧
    decode (wordBytes [0b111111111111111_000000_001101100_00]) = .ok (.trap 0x7FFF, []) ∧
    decode (wordBytes [0b000001000001000_000101_001101110_00]) = .ok (.csrr 5 0x208, []) ∧
    decode (wordBytes [0b000000100000101_000101_001101111_00]) = .ok (.csrw 5 0x105, []) ∧
    decode (wordBytes [0b000_000000_000100_000000_001110100_00]) = .ok (.idle 4, []) := by
  refine ⟨?_, ?_, ?_, ?_, ?_, ?_, ?_, ?_, ?_, ?_, ?_⟩ <;> rfl

/-- R70, R44: words of row 4. -/
theorem decode_loads_and_stores :
    decode (wordBytes [0b111111111_000100_000101_010000000_00]) = .ok (.ldS8 5 4 0x1FF, []) ∧
    decode (wordBytes [0b001000000_000100_000101_010000110_00]) = .ok (.ld64 5 4 0x40, []) ∧
    decode (wordBytes [0b000000000_000100_000101_010000101_01, 0x9ABCDEF0, 0x12345678]) = .ok (.ldZ32Lit 5 4 0x123456789ABCDEF0, []) ∧
    decode (wordBytes [0b000_000000_000000_000101_010000110_10, 0b000000000000001000000_01_011_000100, 0]) = .ok (.ld64Ext 5 4 1 3 0x40, []) ∧
    decode (wordBytes [0b000010000_000100_000110_010001100_00]) = .ok (.st128 6 4 16, []) ∧
    decode (wordBytes [0b000_000000_000000_000110_010001100_11, 0b000000000000000000000_11_000_000100, 0, 0x9ABCDEF0, 0x12345678]) = .ok (.st128ExtLit 6 4 3 0 0x123456789ABCDEF0, []) ∧
    decode (wordBytes [0b000000010_000100_000101_010001101_00]) = .ok (.ldf 5 4 2, []) ∧
    decode (wordBytes [0b000000010_000100_000101_010010001_00]) = .ok (.ldsZ16 5 4 2, []) ∧
    decode (wordBytes [0b000000100_000100_000101_010010111_00]) = .ok (.sts32 5 4 4, []) := by
  refine ⟨?_, ?_, ?_, ?_, ?_, ?_, ?_, ?_, ?_⟩ <;> rfl

/-- R71, R72: words of row 5. -/
theorem decode_atomics_and_fences :
    decode (wordBytes [0b010_001001_001000_000111_010100001_00]) = .ok (.amoAdd64 7 8 9 2, []) ∧
    decode (wordBytes [0b100_001001_001000_000111_010110010_00]) = .ok (.amoCas32 7 8 9 4, []) ∧
    decode (wordBytes [0b001_001010_001000_000110_010110100_00]) = .ok (.amoCas128 6 8 10 1, []) ∧
    decode (wordBytes [0b000_001001_001000_000111_010110101_00]) = .ok (.amoFaddF32 7 8 9 0, []) ∧
    decode (wordBytes [0b011_000000_001000_000111_010111001_00]) = .ok (.stx64 7 8 3, []) ∧
    decode (wordBytes [0b010_000000_001000_000111_010111011_00]) = .ok (.strel64 7 8 2, []) ∧
    decode (wordBytes [0b100_000000_000000_000000_010111100_00]) = .ok (.fence 4, []) ∧
    decode (wordBytes [0b000000010000011_000000_010111101_00]) = .ok (.xfence 2 0b000011, []) := by
  refine ⟨?_, ?_, ?_, ?_, ?_, ?_, ?_, ?_⟩ <;> rfl

/-- R73: words of row 6. -/
theorem decode_vector_arithmetic :
    decode (wordBytes [0b111_000011_000010_000001_011000000_00]) = .ok (.vaddVv 1 2 3 7, []) ∧
    decode (wordBytes [0b000_000011_000010_000001_011001101_00]) = .ok (.vmaxVs 1 2 3, []) ∧
    decode (wordBytes [0b001_000111_000010_000001_011010001_00]) = .ok (.vfmaVq 1 2 7 1, []) ∧
    decode (wordBytes [0b000_000000_000010_000001_011010011_00]) = .ok (.vneg 1 2, []) ∧
    decode (wordBytes [0b100_100000_000010_000001_011010100_00]) = .ok (.vcvt 1 2 4 1, []) ∧
    decode (wordBytes [0b111_111100_000010_011111_011010101_00]) = .ok (.vscale 31 2 60 7, []) := by
  refine ⟨?_, ?_, ?_, ?_, ?_, ?_⟩ <;> rfl

/-- R73: words of row 7. -/
theorem decode_vector_others :
    decode (wordBytes [0b000_000000_000010_101000_011100000_00]) = .ok (.vsum 40 2 0, []) ∧
    decode (wordBytes [0b111_000001_000010_101000_011100010_00]) = .ok (.vdotQ 40 2 1 7, []) ∧
    decode (wordBytes [0b011_000011_000010_000001_011100011_00]) = .ok (.vcmp 1 2 3 3, []) ∧
    decode (wordBytes [0b000_000000_000010_000001_011100110_00]) = .ok (.vcopy 1 2, []) ∧
    decode (wordBytes [0b000_000001_000000_000010_011100110_00]) = .ok (.vcopyW 2 0, []) ∧
    decode (wordBytes [0b000_000010_000000_000010_011100110_00]) = .ok (.vcopyWAll 2 0, []) ∧
    decode (wordBytes [0b000_000010_101000_000001_011100111_00]) = .ok (.vfillB 1 40, []) ∧
    decode (wordBytes [0b000_000011_000010_000001_011101000_00]) = .ok (.vgath 1 2 3, []) ∧
    decode (wordBytes [0b000_101000_000010_000001_011101001_00]) = .ok (.vq4 1 2 40, []) ∧
    decode (wordBytes [0b001_000011_000010_000001_011110011_00]) = .ok (.vishr 1 2 3 1, []) ∧
    decode (wordBytes [0b000_101000_000010_000001_011110110_00]) = .ok (.vunpk 1 2 40, []) ∧
    decode (wordBytes [0b000_000000_000010_000001_011111000_00]) = .ok (.vrsqrt 1 2 0, []) := by
  refine ⟨?_, ?_, ?_, ?_, ?_, ?_, ?_, ?_, ?_, ?_, ?_, ?_⟩ <;> rfl

/-- R74: words of row 8. -/
theorem decode_handles_and_activation :
    decode (wordBytes [0b000000000_000100_000010_100000000_01, 0x9ABCDEF0, 0x12345678]) = .ok (.waitfLit 2 4 0x123456789ABCDEF0, []) ∧
    decode (wordBytes [0b000000001_000000_000010_100000011_00]) = .ok (.advc 2 0 1, []) ∧
    decode (wordBytes [0b000010101_000100_000010_100000100_00]) = .ok (.hset 2 4 21, []) ∧
    decode (wordBytes [0b000010100_000010_000100_100000101_00]) = .ok (.hget 4 2 20, []) ∧
    decode (wordBytes [0b000000_00000_00111_00011_100000110_00]) = .ok (.hmov 3 7, []) ∧
    decode (wordBytes [0b000000000_000100_000010_100001000_01, 0x9ABCDEF0, 0x12345678]) = .ok (.hstLit 2 4 0x123456789ABCDEF0, []) ∧
    decode (wordBytes [0b011_000011_000010_000001_100001001_00]) = .ok (.sendNz 1 2 3, []) ∧
    decode (wordBytes [0b001_000011_000010_000001_100001010_00]) = .ok (.sendwSp 1 2 3, []) ∧
    decode (wordBytes [0b000_000000_000000_001111_100001011_00]) = .ok (.relw 15, []) ∧
    decode (wordBytes [0b000_000000_000010_101000_100001100_00]) = .ok (.wcnt 40 2, []) ∧
    decode (wordBytes [0b000000000000000_000000_100001101_00]) = .ok (.ckpt, []) ∧
    decode (wordBytes [0b000000000000000_000000_100001110_00]) = .ok (.yield, []) ∧
    decode (wordBytes [0b000_000011_000010_000001_100010000_00]) = .ok (.spawn 1 2 3, []) ∧
    decode (wordBytes [0b000000000000000_000000_100010001_00]) = .ok (.abort, []) := by
  refine ⟨?_, ?_, ?_, ?_, ?_, ?_, ?_, ?_, ?_, ?_, ?_, ?_, ?_, ?_⟩ <;> rfl

/-- R75: words of row 9. -/
theorem decode_function_registers :
    decode (wordBytes [0b001_101000_000010_001111_100100000_00]) = .ok (.fnfit 15 2 40 1, []) ∧
    decode (wordBytes [0b000000000_000100_000011_100100010_01, 0x9ABCDEF0, 0x12345678]) = .ok (.fnstLit 3 4 0x123456789ABCDEF0, []) ∧
    decode (wordBytes [0b000_000010_000001_000011_100100101_00]) = .ok (.fnmul 3 1 2 0, []) ∧
    decode (wordBytes [0b001_000000_000001_000011_100101001_00]) = .ok (.fnder 3 1 1, []) ∧
    decode (wordBytes [0b000_101001_000001_101000_100101010_00]) = .ok (.fnroot 40 1 41, []) ∧
    decode (wordBytes [0b001_011111_000001_000010_100101011_00]) = .ok (.fneval 2 1 31 1, []) ∧
    decode (wordBytes [0b000_101001_101000_000011_100101110_00]) = .ok (.fndom 3 40 41, []) ∧
    decode (wordBytes [0b000_000000_000000_000011_100101111_00]) = .ok (.fnfree 3, []) ∧
    decode (wordBytes [0b000_000000_000001_101000_100110000_00]) = .ok (.fnlen 40 1, []) ∧
    decode (wordBytes [0b001_000000_000001_000011_100110001_00]) = .ok (.fnmov 3 1 1, []) := by
  refine ⟨?_, ?_, ?_, ?_, ?_, ?_, ?_, ?_, ?_, ?_⟩ <;> rfl

/-- R76: words of row 10. -/
theorem decode_encoder_and_matrix :
    decode (wordBytes [0b000_000000_011111_000000_101000000_00]) = .ok (.pdict 31, []) ∧
    decode (wordBytes [0b000_101001_101000_000000_101000010_00]) = .ok (.pthr 40 41, []) ∧
    decode (wordBytes [0b000_101000_000010_000001_101000011_00]) = .ok (.penc 1 2 40, []) ∧
    decode (wordBytes [0b000_000000_001111_000001_101000101_00]) = .ok (.pesc 1 15, []) ∧
    decode (wordBytes [0b000_001111_000010_000001_101000111_00]) = .ok (.pgrad 1 2 15, []) ∧
    decode (wordBytes [0b000000_00101_00100_00000_101001001_00]) = .ok (.mxq 4 5, []) ∧
    decode (wordBytes [0b000_000000_000000_101000_101001010_00]) = .ok (.mxseq 40, []) ∧
    decode (wordBytes [0b000_000000_101000_000000_101001011_00]) = .ok (.mxwait 40, []) ∧
    decode (wordBytes [0b000_101001_000011_101000_101001100_00]) = .ok (.accmv 40 3 41, []) ∧
    decode (wordBytes [0b000_101001_000011_101000_101001101_00]) = .ok (.accpk 40 3 41, []) := by
  refine ⟨?_, ?_, ?_, ?_, ?_, ?_, ?_, ?_, ?_, ?_⟩ <;> rfl

/-- R77: words of row 11. -/
theorem decode_regions_and_cluster :
    decode (wordBytes [0b000000000000010_000000_101100000_00]) = .ok (.admode 2, []) ∧
    decode (wordBytes [0b000001000_000100_000101_101100001_00]) = .ok (.adld 5 4 8, []) ∧
    decode (wordBytes [0b000000000_000100_000101_101100010_01, 0x9ABCDEF0, 0x12345678]) = .ok (.adstLit 5 4 0x123456789ABCDEF0, []) ∧
    decode (wordBytes [0b000_000000_000000_000101_101100100_00]) = .ok (.tmark 5, []) ∧
    decode (wordBytes [0b000_000000_000101_000000_101100101_00]) = .ok (.trew 5, []) ∧
    decode (wordBytes [0b000_000000_101000_000111_101101001_00]) = .ok (.qbind 7 40, []) ∧
    decode (wordBytes [0b001_000000_101001_101000_101101100_00]) = .ok (.nxst 40 41 1, []) ∧
    decode (wordBytes [0b001_000011_000010_000001_101101111_00]) = .ok (.barr 1 2 3 1, []) ∧
    decode (wordBytes [0b011_000011_000010_000001_101110000_00]) = .ok (.barrMCs 1 2 3 1, []) ∧
    decode (wordBytes [0b010_000011_000010_000001_101110001_00]) = .ok (.bwaitGv 1 2 3, []) ∧
    decode (wordBytes [0b001_000011_000010_000001_101110010_00]) = .ok (.btestCs 1 2 3, []) := by
  refine ⟨?_, ?_, ?_, ?_, ?_, ?_, ?_, ?_, ?_, ?_, ?_⟩ <;> rfl

/-- R78: words of row 12. -/
theorem decode_die_and_engines :
    decode (wordBytes [0b000_000011_000010_000000_110000000_00]) = .ok (.capxfer 2 3, []) ∧
    decode (wordBytes [0b000_000000_000010_000001_110000001_00]) = .ok (.capq 1 2, []) ∧
    decode (wordBytes [0b000_000011_000010_000001_110000100_00]) = .ok (.sopen 1 2 3, []) ∧
    decode (wordBytes [0b101_000000_000010_000001_110000111_00]) = .ok (.cpt 1 2 5, []) ∧
    decode (wordBytes [0b111_000011_000010_000001_110001000_00]) = .ok (.gath 1 2 3 7, []) ∧
    decode (wordBytes [0b110_000000_000000_101000_110001001_00]) = .ok (.cpwp 40 6, []) ∧
    decode (wordBytes [0b110_000000_000000_000000_110001010_00]) = .ok (.cpwait 6, []) ∧
    decode (wordBytes [0b001_000000_000010_000001_110001100_00]) = .ok (.halo 1 2 1, []) ∧
    decode (wordBytes [0b000_000000_000000_101000_110001101_00]) = .ok (.lclock 40, []) := by
  refine ⟨?_, ?_, ?_, ?_, ?_, ?_, ?_, ?_, ?_⟩ <;> rfl

/-- R78: words of row 13. -/
theorem decode_package_and_fabric :
    decode (wordBytes [0b000001000_000100_000101_110100000_00]) = .ok (.pst 5 4 8, []) ∧
    decode (wordBytes [0b000000000_000100_000101_110100001_01, 0x9ABCDEF0, 0x12345678]) = .ok (.pstbLit 5 4 0x123456789ABCDEF0, []) ∧
    decode (wordBytes [0b000001000_000100_000101_110100010_00]) = .ok (.redst 5 4 8, []) ∧
    decode (wordBytes [0b000_000000_000100_000101_110100011_00]) = .ok (.redq 5 4, []) ∧
    decode (wordBytes [0b000_000000_000100_000000_110100100_00]) = .ok (.wake 4, []) ∧
    decode (wordBytes [0b000_000000_000100_000000_110100101_00]) = .ok (.sigx 4, []) ∧
    decode (wordBytes [0b111111111111111_000101_110100110_00]) = .ok (.mark 5 0x7FFF, []) := by
  refine ⟨?_, ?_, ?_, ?_, ?_, ?_, ?_⟩ <;> rfl

/-- R59, R60, R61 and the table of decodes of spec/03: words that decode refuses, each by the first row that applies. -/
theorem decode_refuses :
    decode (wordBytes [0x000000D8]) = .error (.illop) ∧
    decode (wordBytes [0x038C2801, 0, 0]) = .error (.illop) ∧
    decode (wordBytes [0xFFFFFFFF, 0, 0, 0, 0]) = .error (.illop) ∧
    decode (wordBytes [0xA30A2104]) = .error (.illop) ∧
    decode (wordBytes [0x01060AF4]) = .error (.illop) ∧
    decode (wordBytes [0x038C2801, 0]) = .error (.truncated) ∧
    decode (wordBytes [0b000000001_000110_000101_000100000_01, 0x9ABCDEF0, 0x12345678]) = .error (.illop) ∧
    decode (wordBytes [0b000_000000_000100_000101_010010100_10, 0, 0]) = .error (.illop) ∧
    decode (wordBytes [0b000_000000_000000_000101_010000110_10, 0b000000000000001000000_00_011_000100, 0]) = .error (.illop) ∧
    decode (wordBytes [0b000_000000_000000_000101_010000110_10, 0b000000000000001000000_01_011_000100, 1]) = .error (.illop) ∧
    decode (wordBytes [0b000_000011_000010_100000_011000000_00]) = .error (.illopd 11) ∧
    decode (wordBytes [0b000_001000_000010_000001_011000010_00]) = .error (.illopd 23) ∧
    decode (wordBytes [0b000000000_000100_000101_010000111_00]) = .error (.illopd 11) ∧
    decode (wordBytes [0b001000000_000110_000101_000100100_00]) = .error (.illopd 23) ∧
    decode (wordBytes [0b000000000000111_000101_001101110_00]) = .error (.illop) := by
  refine ⟨?_, ?_, ?_, ?_, ?_, ?_, ?_, ?_, ?_, ?_, ?_, ?_, ?_, ?_, ?_⟩ <;> rfl

/-! ### Ill-formed terms: one for each check of WellFormed.lean -/

theorem illFormed_roundOk : Instr.verdict (.faddF64 4 5 6 5) = some none := rfl

theorem illFormed_scopeOk : Instr.verdict (.amoAdd64 7 8 9 5) = some none := rfl

theorem illFormed_maskOk : Instr.verdict (.xfence 2 0b000001) = some none := rfl

theorem illFormed_signOk : Instr.verdict (.fsgnF32 4 5 6 3) = some none := rfl

theorem illFormed_cvtOk : Instr.verdict (.fcvtF64 4 5 4 0b100101) = some none := rfl

theorem illFormed_csrOk : Instr.verdict (.csrr 5 7) = some none := rfl

theorem illFormed_modeOk : Instr.verdict (.admode 3) = some none := rfl

theorem illFormed_swzOk : Instr.verdict (.ld64Ext 5 4 0 3 0x40) = some none := rfl

theorem illFormed_below_handles : Instr.verdict (.vaddVv 32 2 3 7) = some (some 11) := rfl

theorem illFormed_below_windows : Instr.verdict (.relw 16) = some (some 11) := rfl

theorem illFormed_below_streams : Instr.verdict (.vaddVq 1 2 8 7) = some (some 23) := rfl

theorem illFormed_below_functions : Instr.verdict (.fnadd 1 16 2 0) = some (some 17) := rfl

theorem illFormed_below_accumulators : Instr.verdict (.accmv 40 4 41) = some (some 17) := rfl

theorem illFormed_even : Instr.verdict (.ld128 5 4 0) = some (some 11) := rfl

theorem illFormed_even_b : Instr.verdict (.amoCas128 6 8 9 1) = some (some 23) := rfl

theorem illFormed_shiftOk : Instr.verdict (.shli 5 6 64) = some (some 23) := rfl

theorem illFormed_shiftLitOk : Instr.verdict (.shliLit 5 6 64) = some (some 23) := rfl

theorem illFormed_selectorOk : Instr.verdict (.hget 4 2 22) = some (some 23) := rfl

theorem wellFormed_add : Instr.verdict (.add 5 6 7) = none := rfl

/-! ### Single steps: the value of one register or byte after one instruction, worked out by hand from the rule named -/

/-- What `f` reads after an instruction. -/
def after {α : Type} (i : Instr) (s : State) (f : State → α) : Option α :=
  match exec i s with
  | .next t => some (f t)
  | _ => none

/-- R127: a sum wraps. -/
theorem test_add_wraps : after (.add 5 6 7) (regs base [(6, 0xFFFFFFFFFFFFFFFF), (7, 2)]) (·.rd 5) = some 1 := by
  decide +kernel

/-- R128: a signed division by zero gives -1, and its remainder the dividend. -/
theorem test_div_zero : after (.divS 5 6 7) (regs base [(6, 9)]) (·.rd 5) = some 0xFFFFFFFFFFFFFFFF ∧
    after (.remS 5 6 7) (regs base [(6, 9)]) (·.rd 5) = some 9 := by
  decide +kernel

/-- R128: the most negative number by -1. -/
theorem test_div_overflow : after (.divS 5 6 7) (regs base [(6, 0x8000000000000000), (7, 0xFFFFFFFFFFFFFFFF)]) (·.rd 5) =
    some 0x8000000000000000 := by
  decide +kernel

/-- R127: the high half of (-1) times 2, signed. -/
theorem test_mulh : after (.mulhS 5 6 7) (regs base [(6, 0xFFFFFFFFFFFFFFFF), (7, 2)]) (·.rd 5) =
    some 0xFFFFFFFFFFFFFFFF := by
  decide +kernel

/-- R129: the field of bits 7 to 4, sign-extended from bit 7. -/
theorem test_ext : after (.extS 5 6 7) (regs base [(6, 0x90), (7, 0x304)]) (·.rd 5) = some 0xFFFFFFFFFFFFFFF9 := by
  decide +kernel

/-- R10: a write to s0 is discarded. -/
theorem test_s0 : after (.addi 0 6 1) base (·.rd 0) = some 0 := by
  decide +kernel

/-- R131: the immediate of an unsigned compare is sign-extended, then read unsigned. -/
theorem test_cmpi : after (.cmpiLtZ 3 4 0x1FF) (regs base [(4, 5)]) (·.rd 3) = some 1 := by
  decide +kernel

/-- R132, R47: the address of the spec's worked swizzle. -/
theorem test_leasw : after (.leasw 5 6 3) (regs base [(6, 0x12340)]) (·.rd 5) = some 0x12300 := by
  decide +kernel

/-- R134, R62: 1 + 2^-24 is a tie: to even it stays 1, upwards it is the next number. -/
theorem test_fadd : after (.faddF32 4 5 6 0) (regs base [(5, 0x3F800000), (6, 0x33800000)]) (·.rd 4) = some 0x3F800000 ∧
    after (.faddF32 4 5 6 3) (regs base [(5, 0x3F800000), (6, 0x33800000)]) (·.rd 4) = some 0x3F800001 := by
  decide +kernel

/-- R134, R16: 1 / 0 is infinite and raises DZ, bit 1 of FFLAGS (R21). -/
theorem test_fdiv : after (.fdivF32 4 5 6 0) (regs base [(5, 0x3F800000)]) (fun t => (t.rd 4, t.run.ctx.fflags.getLsbD 1)) =
    some (0x7F800000, true) := by
  decide +kernel

/-- R139, R15: a saturating conversion of 1000 to E4M3 gives its largest number, 448. -/
theorem test_fcvt : after (.fcvtF32 4 5 0 0b100110) (regs base [(5, 0x447A0000)]) (·.rd 4) = some 0x7E := by
  decide +kernel

/-- R141: a branch back by three words. -/
theorem test_branch : after (.bcNe 9 0x7FFD) (regs base [(9, 1)]) (·.run.ctx.pc) = some 0xFFF4 ∧
    after (.bcNe 9 0x7FFD) base (·.run.ctx.pc) = some 0x10004 := by
  decide +kernel

/-- R143: the last pass of a loop counts to 0 and falls through. -/
theorem test_loop : after (.loop 3 0x7FFE) (regs base [(3, 1)]) (fun t => (t.rd 3, t.run.ctx.pc)) = some (0, 0x10004) ∧
    after (.loop 3 0x7FFE) (regs base [(3, 2)]) (fun t => (t.rd 3, t.run.ctx.pc)) = some (1, 0xFFF8) := by
  decide +kernel

/-- R123, R125, R144: a trap goes to TVEC in supervisor mode, leaves its number in TVAL and returns past itself. -/
theorem test_trap : after (.trap 7) base (fun t => (t.run.ctx.pc, t.run.ctx.priv, t.run.ctx.tval, t.run.ctx.epc)) =
    some (0x18000, true, 7, 0x10004) := by
  decide +kernel

/-- R150: a signed byte is extended; bytes lie lowest first. -/
theorem test_load : after (.ldS8 5 4 1) (bytesAt (regs base [(4, 0x20000)]) [(0x20000, [0x34, 0x92])]) (·.rd 5) =
      some 0xFFFFFFFFFFFFFF92 ∧
    after (.ldZ16 5 4 0) (bytesAt (regs base [(4, 0x20000)]) [(0x20000, [0x34, 0x92])]) (·.rd 5) = some 0x9234 := by
  decide +kernel

/-- R150: a store of 2 bytes writes 2 bytes, the lowest first. -/
theorem test_store : after (.sts16 5 4 0) (regs base [(4, 0x40), (5, 0x123456)])
    (fun t => (t.die.mem.get (spHomeOf 0 0x40), t.die.mem.get (spHomeOf 0 0x41), t.die.mem.get (spHomeOf 0 0x42))) = some (0x56, 0x34, 0) := by
  decide +kernel

/-- R371, R376: the old value comes back and the sum is stored. -/
theorem test_amo : after (.amoAdd32 7 8 9 4) (bytesAt (regs base [(8, 0x30000), (9, 3)]) [(0x30000, [5])])
    (fun t => (t.rd 7, t.die.mem.get 0x30000)) = some (5, 8) := by
  decide +kernel

/-- R169: one slot consumed, the counter over 14 bits. -/
theorem test_advc : after (.advc 2 0 1) (hands base [(2, ring 0x1000 1 4 4 2 0x3FFF)])
    (fun t => (t.rdH 2).extractLsb' 242 14) = some 0 := by
  decide +kernel

/-- R58, R166: DIM1 of the spec's worked handle image, selector 7 of R165. -/
theorem test_hget : after (.hget 5 2 7) (hands base [(2, handle 0x4000 1 0 2 [(16, 64), (64, 1)])]) (·.rd 5) = some 64 := by
  decide +kernel

/-- R173: 1 + 2 and 2 + 2 in BF16, from FP32 sources. -/
theorem test_vadd : after (.vaddVv 1 2 3 0) (bytesAt (hands base [(1, vec 0x1000 2 2), (2, vec 0x1100 1 2), (3, vec 0x1200 1 2)])
      [(spHomeOf 0 0x1100, bytesOf 8 0x400000003F800000), (spHomeOf 0 0x1200, bytesOf 8 0x4000000040000000)])
    (fun t => (t.die.mem.nat (spHomeOf 0 0x1000) 4)) = some 0x40804040 := by
  decide +kernel

/-- R190, R197: in the reset state a function register holds no slot, so a product of unallocated ones traps. -/
theorem test_fnmul : after (.fnmul 3 1 2 0) base (·.run.ctx.tcause) = some 0x02 := by
  decide +kernel

/-- R10, R59: the zero word is `add s0, s0, s0` and only moves on. -/
theorem test_zero_word : after (.add 0 0 0) base (fun t => (t.run.ctx.pc, t.core.retired)) = some (0x10004, 1) := by
  decide +kernel

/-! ### Hypotheses that states meet: each theorem applies a statement at a concrete state. -/

theorem meets_IntegerResults_1 : Obligations.IntegerResults → Runs (.add 5 6 7) base := fun h =>
  runs (h.1 (.add 5 6 7) _ _ rfl base)

theorem meets_IntegerResults_2 : Obligations.IntegerResults → Runs (.divS 5 6 7) (regs base [(6, 0x8000000000000000), (7, -1)]) := fun h =>
  runs (h.2.1 (.divS 5 6 7) _ _ rfl (regs base [(6, 0x8000000000000000), (7, -1)]))

theorem meets_ImmediateAndCompareResults_1 : Obligations.ImmediateAndCompareResults → Runs (.addi 5 6 0x1FF) base := fun h =>
  runs (h.1.1 (.addi 5 6 0x1FF) _ _ _ rfl base)

theorem meets_ImmediateAndCompareResults_2 : Obligations.ImmediateAndCompareResults → Runs (.shai 5 6 63) (regs base [(6, -1)]) := fun h =>
  runs (h.1.2.1 (.shai 5 6 63) _ _ _ _ rfl (by decide) (regs base [(6, -1)]))

theorem meets_ImmediateAndCompareResults_3 : Obligations.ImmediateAndCompareResults → Runs (.cmpiLtS 5 6 0x1FF) base := fun h =>
  runs (h.2 (.cmpiLtS 5 6 0x1FF) _ _ _ rfl base)

theorem meets_FloatArithmeticResults : Obligations.FloatArithmeticResults → Runs (.fdivF32 5 6 7 0) (regs base [(6, 0x3F800000), (7, 0x40400000)]) := fun h =>
  runs (h (.fdivF32 5 6 7 0) _ _ rfl (regs base [(6, 0x3F800000), (7, 0x40400000)]))

theorem meets_FloatChoiceAndClassResults_1 : Obligations.FloatChoiceAndClassResults → Runs (.fminF32 5 6 7) (regs base [(6, 0x80000000)]) := fun h =>
  runs (h.1 (.fminF32 5 6 7) _ _ rfl (regs base [(6, 0x80000000)]))

theorem meets_FloatChoiceAndClassResults_2 : Obligations.FloatChoiceAndClassResults → Runs (.fclassF64 5 6) (regs base [(6, 1)]) := fun h =>
  runs (h.2.1 (.fclassF64 5 6) _ _ rfl (regs base [(6, 1)]))

theorem meets_FloatChoiceAndClassResults_3 : Obligations.FloatChoiceAndClassResults → Runs (.fsgnF32 5 6 7 1) (regs base [(6, 0x7FA00000)]) := fun h =>
  runs (h.2.2 (.fsgnF32 5 6 7 1) _ _ rfl (regs base [(6, 0x7FA00000)]))

theorem meets_ControlTransferResults_1 : Obligations.ControlTransferResults → Runs (.bcLt 5 0x7FFD) (regs base [(5, -1)]) := fun h =>
  runs (h.1 (.bcLt 5 0x7FFD) _ _ _ rfl (regs base [(5, -1)]))

theorem meets_ControlTransferResults_2 : Obligations.ControlTransferResults → Runs (.jmp 5 4) base := fun h =>
  runs ((h.2.1 (.jmp 5 4) _ rfl base).1 (by decide))

theorem meets_ControlTransferResults_3 : Obligations.ControlTransferResults → Runs (.jmp 5 3) base := fun h =>
  runs ((h.2.1 (.jmp 5 3) _ rfl base).2 (by decide) ⟨rfl, by decide⟩)

theorem meets_ControlTransferResults_4 : Obligations.ControlTransferResults → Runs (.loop 5 0x7FFD) (regs base [(5, 1)]) := fun h =>
  runs (h.2.2 (.loop 5 0x7FFD) _ _ _ _ rfl (regs base [(5, 1)]))

theorem meets_TrapEntryAndReturn_1 : Obligations.TrapEntryAndReturn → Runs (.trap 0x7FFF) base := fun h =>
  runs (((h.1 0x7FFF base).1 ⟨rfl, by decide⟩).1)

theorem meets_TrapEntryAndReturn_2 : Obligations.TrapEntryAndReturn → Runs (.bkpt 0x7F00) base := fun h =>
  runs (((h.1 0x7F00 base).1 ⟨rfl, by decide⟩).2 (.inl rfl))

/-- A core of a partition in debug hold, whose BREAK records are kept. -/
def held : State := { base with dbg := { base.dbg with hold := true, enables := 0x3FF, traceCap := 4 } }

theorem meets_TrapEntryAndReturn_5 : Obligations.TrapEntryAndReturn → Runs (.bkpt 0x7F00) held := fun h =>
  runs ((h.1 0x7F00 held).2 rfl (by decide))

theorem meets_TrapEntryAndReturn_3 : Obligations.TrapEntryAndReturn → Runs .eret (super base) := fun h =>
  runs ((h.2 (super base)).1 rfl)

theorem meets_TrapEntryAndReturn_4 : Obligations.TrapEntryAndReturn → Runs .eret base := fun h =>
  runs ((h.2 base).2 ⟨rfl, by decide⟩)

theorem meets_CsrReads_1 : Obligations.CsrReads → Runs (.csrr 5 0x001) base := fun h =>
  runs ((h 5 0x001 base).1 rfl rfl)

theorem meets_CsrReads_2 : Obligations.CsrReads → Runs (.csrr 5 0x020) base := fun h =>
  runs ((h 5 0x020 base).2.1 _ rfl rfl rfl)

theorem meets_CsrReads_3 : Obligations.CsrReads → Runs (.csrr 5 0x100) base := fun h =>
  runs ((h 5 0x100 base).2.2 rfl ⟨rfl, by decide⟩)

theorem meets_CsrWrites_1 : Obligations.CsrWrites → Runs (.csrs 5 0x003) (regs base [(5, 0x100000000)]) := fun h =>
  runs ((h (.csrs 5 0x003) _ _ rfl (regs base [(5, 0x100000000)])).1 rfl)

theorem meets_CsrWrites_2 : Obligations.CsrWrites → Runs (.csrw 5 0x200) base := fun h =>
  runs ((h (.csrw 5 0x200) _ _ rfl base).2 rfl ⟨rfl, by decide⟩)

theorem meets_LoadResults_1 : Obligations.LoadResults → Runs (.ld128 5 4 0) (regs base [(4, 0x2FFF0)]) := fun h =>
  runs (h (.ld128 5 4 0) _ rfl (regs base [(4, 0x2FFF0)]) _ (fun _ => rfl) rfl rfl)

theorem meets_LoadResults_2 : Obligations.LoadResults → Runs (.ldsS8 5 4 0x1FF) (regs base [(4, 0x40000)]) := fun h =>
  runs (h (.ldsS8 5 4 0x1FF) _ rfl (regs base [(4, 0x40000)]) _ (fun _ => rfl) rfl rfl)

theorem meets_StoreResults_1 : Obligations.StoreResults → Runs (.st128 5 4 0) (regs base [(4, 0x2FFF0), (5, 0x1122334455667788)]) := fun h =>
  runs (h (.st128 5 4 0) _ rfl (regs base [(4, 0x2FFF0), (5, 0x1122334455667788)]) _ _ (fun _ => rfl) rfl (by decide) rfl rfl (noRoom (by decide +kernel)))

theorem meets_StoreResults_2 : Obligations.StoreResults → Runs (.sts16 5 4 0x1FE) (regs base [(4, 0x40000), (5, 0xABCD)]) := fun h =>
  runs (h (.sts16 5 4 0x1FE) _ rfl (regs base [(4, 0x40000), (5, 0xABCD)]) _ _ (fun _ => rfl) rfl (by decide) rfl rfl (noRoom (by decide +kernel)))

theorem meets_MisalignedAccessTraps : Obligations.MisalignedAccessTraps → Runs (.st64 5 4 4) base := fun h =>
  runs (h (.st64 5 4 4) _ (.inr ⟨rfl, by decide⟩) base rfl (by decide) ⟨rfl, by decide⟩)

theorem meets_DecodingLoadResults : Obligations.DecodingLoadResults → Runs (.ldf 5 4 0) (regs base [(4, 0x40004)]) := fun h =>
  runs (h 5 4 0 (regs base [(4, 0x40004)]) _ _ (fun _ => rfl) rfl rfl rfl)

theorem meets_AtomicResults : Obligations.AtomicResults → Runs (.amoCas128 6 4 8 2) (regs base [(4, 0x30010), (8, 5)]) := fun h =>
  runs (h (.amoCas128 6 4 8 2) _ rfl (regs base [(4, 0x30010), (8, 5)]) _ _ rfl rfl ⟨fun _ => rfl, by decide, by decide, by decide⟩ rfl)

theorem meets_StrongAccessResults_1 : Obligations.StrongAccessResults → Runs (.ldacq64 5 4 0) (regs base [(4, 0x30008)]) := fun h =>
  runs (h.1 (.ldacq64 5 4 0) _ _ _ rfl (regs base [(4, 0x30008)]) _ ⟨fun _ => rfl, by decide, by decide, by decide⟩ rfl)

theorem meets_StrongAccessResults_2 : Obligations.StrongAccessResults → Runs (.stx32 5 4 0) (regs base [(4, 0x3FFFC), (5, 0x1122334455667788)]) := fun h =>
  runs (h.2 (.stx32 5 4 0) _ _ _ rfl (regs base [(4, 0x3FFFC), (5, 0x1122334455667788)]) _ _ rfl rfl ⟨fun _ => rfl, by decide, by decide, by decide⟩ rfl)

theorem meets_FenceResults_1 : Obligations.FenceResults → Runs (.fence 2) base := fun h =>
  runs ((h base).2.1 2 (by decide) rfl rfl rfl rfl rfl)

/-- A state in which an old value is owed to s5. -/
def owing : State := { base with run := { base.run with owed := some (5, 9) } }

theorem meets_FenceResults_2 : Obligations.FenceResults → Runs .atomicReply owing := fun h =>
  runs ((h owing).2.2.2.2 5 9 (by simp [owing, base, State.reset]) rfl)

/-- A state with a line in the write log. -/
def logging : State := { base with run := { base.run with log := [(0x20000, 1)] } }

theorem meets_FenceResults_3 : Obligations.FenceResults → Runs (.fence 3) logging := fun h =>
  runs ((h logging).2.2.1 3 (by decide) rfl (by decide) rfl)

theorem meets_FenceResults_4 : Obligations.FenceResults → Runs (.xfence 0 63) base := fun h =>
  runs ((h base).2.2.2.1 0 63)

theorem meets_RingResults_1 : Obligations.RingResults → Runs (.waitf 2 4 1) (hands base [(2, ring 0x1000 1 16 4 0 0)]) := fun h =>
  runs ((h (.waitf 2 4 1) _ rfl (hands base [(2, ring 0x1000 1 16 4 0 0)]) ⟨by decide, by decide, by decide, by decide⟩).1 rfl (by decide) (by decide) rfl ⟨rfl, by decide⟩)

theorem meets_RingResults_2 : Obligations.RingResults → Runs (.waite 2 4 4) (hands base [(2, ring 0x1000 1 16 4 3 3)]) := fun h =>
  runs (((h (.waite 2 4 4) _ rfl (hands base [(2, ring 0x1000 1 16 4 3 3)]) ⟨by decide, by decide, by decide, by decide⟩).2 (by decide)).1 rfl)

theorem meets_RingResults_3 : Obligations.RingResults → Runs (.advp 2 4 4) (hands base [(2, ring 0x1000 1 16 4 16383 16383)]) := fun h =>
  runs (((h (.advp 2 4 4) _ rfl (hands base [(2, ring 0x1000 1 16 4 16383 16383)]) ⟨by decide, by decide, by decide, by decide⟩).2 (by decide)).2 rfl (.inl rfl))

theorem meets_RingResults_4 : Obligations.RingResults → Runs (.advcLit 2 4 3) (hands base [(2, ring 0x1000 1 16 4 1 16382)]) := fun h =>
  runs (((h (.advcLit 2 4 3) _ rfl (hands base [(2, ring 0x1000 1 16 4 1 16382)]) ⟨by decide, by decide, by decide, by decide⟩).2 (by decide)).2 rfl (.inl rfl))

theorem meets_RingResults_5 : Obligations.RingResults → Runs (.advc 2 0 0) (hands base [(2, ring 0x1000 1 16 4 1 1)]) := fun h =>
  runs (((h (.advc 2 0 0) _ rfl (hands base [(2, ring 0x1000 1 16 4 1 1)]) ⟨by decide, by decide, by decide, by decide⟩).2 (by decide)).2 rfl (.inr rfl))

theorem meets_HandleFieldResults_1 : Obligations.HandleFieldResults → Runs (.hget 5 2 21) (hands base [(2, ring 0x1000 1 16 4 1 16382)]) := fun h =>
  runs (h.1 5 2 21 (hands base [(2, ring 0x1000 1 16 4 1 16382)]) (by decide))

theorem meets_HandleFieldResults_2 : Obligations.HandleFieldResults → Runs (.hset 2 5 17) (hands (regs base [(5, 0x3FFF)]) [(2, -1)]) := fun h =>
  runs (h.2.1 2 5 17 (hands (regs base [(5, 0x3FFF)]) [(2, -1)]) (by decide) (by decide) rfl rfl)

theorem meets_HandleFieldResults_3 : Obligations.HandleFieldResults → Runs (.hmov 3 31) (hands base [(31, vec 0 1 4)]) := fun h =>
  runs (h.2.2 3 31 (hands base [(31, vec 0 1 4)]) rfl rfl)

theorem meets_HandleAccessResults_1 : Obligations.HandleAccessResults → Runs (.hld 3 4 0) (regs base [(4, 0x2FFE0)]) := fun h =>
  runs (h.1 (.hld 3 4 0) _ _ _ rfl (regs base [(4, 0x2FFE0)]) _ (fun _ => rfl) rfl rfl rfl rfl)

theorem meets_HandleAccessResults_2 : Obligations.HandleAccessResults → Runs (.hstLit 3 4 0x20) (hands (regs base [(4, 0x20000)]) [(3, vec 0x1234 1 4)]) := fun h =>
  runs (h.2 (.hstLit 3 4 0x20) _ _ _ rfl (hands (regs base [(4, 0x20000)]) [(3, vec 0x1234 1 4)]) _ _ (fun _ => rfl) (by decide) (by decide) rfl rfl rfl (noRoom (by decide +kernel)))

/-- Vectors of two FP32 elements in H[1], H[2] and H[3], on different lines of the scratchpad. -/
def three : State :=
  bytesAt (hands (regs base [(5, 0x3F800000)]) [(1, vec 0x1000 1 2), (2, vec 0x1040 1 2), (3, vec 0x1080 1 2)])
    [(spHomeOf 0 0x1040, [0, 0, 0x80, 0x3F, 0, 0, 0, 0x40]), (spHomeOf 0 0x1080, [0, 0, 0x40, 0x40, 0, 0, 0x20, 0xC0])]

theorem three_memOk : three.MemOk := by unfold State.MemOk; decide +kernel

theorem meets_VectorElementResults_1 : Obligations.VectorElementResults → Runs (.vaddVv 1 2 3 0) three := fun h =>
  let ⟨t, e, _, f⟩ := h.1 (.vaddVv 1 2 3 0) _ _ rfl rfl three _ _ three
    ⟨⟨rfl, rfl⟩, _, fun _ => rfl, _, fun _ => noDest (by decide +kernel) (by decide +kernel) (noRoom (by decide +kernel)), rfl⟩ trivial
    (fun q => absurd q (by decide)) rfl three_memOk (by decide)
  have _ := f (apartEach (by decide +kernel))
  ⟨t, e⟩

theorem meets_VectorElementResults_2 : Obligations.VectorElementResults → Runs (.vq4 1 2 5) (hands (regs three [(5, 0x3F80)]) [(1, vec 0x1000 6 8), (2, vec 0x1040 1 8)]) := fun h =>
  let ⟨t, e, _, f⟩ := h.2 (.vq4 1 2 5) _ rfl (hands (regs three [(5, 0x3F80)]) [(1, vec 0x1000 6 8), (2, vec 0x1040 1 8)]) _ _ _
    ⟨⟨rfl, rfl⟩, _, fun _ => rfl, _, fun _ => noDest (by decide +kernel) (by decide +kernel) (noRoom (by decide +kernel)), rfl⟩
    ⟨by decide, by decide, by decide⟩ (fun q => absurd q (by decide)) rfl (by unfold State.MemOk; decide +kernel) (by decide) _ (fun _ => rfl)
  have _ := f (oneBlock (by decide) rfl)
  ⟨t, e⟩

theorem meets_VectorCompletion_1 : Obligations.VectorCompletion → Runs (.vq4 1 2 5) (hands (regs three [(5, 0x3F80)]) [(1, vec 0x1000 6 8), (2, vec 0x1040 1 8)]) := fun h =>
  runs (h.1 (.vq4 1 2 5) _ rfl (hands (regs three [(5, 0x3F80)]) [(1, vec 0x1000 6 8), (2, vec 0x1040 1 8)]) _ _ _ _
    ⟨⟨rfl, rfl⟩, _, fun _ => rfl, _, fun _ => noDest (by decide +kernel) (by decide +kernel) (noRoom (by decide +kernel)), rfl⟩
    ⟨by decide, by decide, by decide⟩ (fun q => absurd q (by decide)))

theorem meets_VectorCompletion_2 : Obligations.VectorCompletion → Runs (.vunpk 1 2 5) (hands (regs three [(5, 1)]) [(2, vec 0x1040 1 4)]) := fun h =>
  runs (h.1 (.vunpk 1 2 5) _ rfl (hands (regs three [(5, 1)]) [(2, vec 0x1040 1 4)]) _ _ _ _
    ⟨⟨rfl, rfl⟩, _, fun _ => rfl, _, fun _ => noDest (by decide +kernel) (by decide +kernel) (noRoom (by decide +kernel)), rfl⟩
    (.inr rfl) (fun q => absurd q (by decide)))

theorem meets_VectorCompletion_3 : Obligations.VectorCompletion → Runs (.vaddVv 1 2 3 0) (hands three [(3, vec 0x1080 1 3)]) := fun h =>
  runs (h.2 (.vaddVv 1 2 3 0) _ rfl (hands three [(3, vec 0x1080 1 3)]) _ _ _ trivial (by decide) rfl ⟨rfl, by decide⟩)

theorem meets_ReductionResults_1 : Obligations.ReductionResults → Runs (.vdot 5 2 3 0) three := fun h =>
  runs (h.1 (.vdot 5 2 3 0) _ rfl three _ ⟨rfl, rfl⟩ (fun _ => rfl) _ _ _ rfl rfl rfl)

theorem meets_ReductionResults_2 : Obligations.ReductionResults → Runs (.vmaxabs 5 2) three := fun h =>
  runs (h.2 5 2 three _ ⟨rfl, rfl⟩ (fun _ => rfl))

/-- The state `three` with 64 bytes in the in-link from the previous core, bound to Q[0]. -/
def streaming : State :=
  { three with
    net := { three.net with inPrev := [⟨List.replicate 64 0x40, 1, true, false⟩] }
    run := { three.run with ctx := { three.run.ctx with q := three.run.ctx.q.set 0 ⟨.inPrev, 0, 0⟩ } } }

theorem meets_StreamAndWindowCompletes_1 : Obligations.StreamAndWindowCompletes → Runs (.vaddVq 1 2 0 0) streaming := fun h =>
  runs (h.1.1 (.vaddVq 1 2 0 0) _ _ _ _ _ rfl streaming _ _ _ _ _ _ ⟨rfl, rfl⟩ rfl (fun _ => rfl) ⟨by decide +kernel, rfl, by decide +kernel, by decide +kernel⟩
    ⟨_, fun _ => noDest (by decide +kernel) (by decide +kernel) (noRoom (by decide +kernel)), rfl⟩)

theorem meets_StreamAndWindowCompletes_2 : Obligations.StreamAndWindowCompletes → Runs (.vdotQ 5 2 0 0) streaming := fun h =>
  runs (h.1.2 5 2 0 0 streaming _ _ ⟨rfl, rfl⟩ rfl (fun _ => rfl) ⟨by decide +kernel, rfl, by decide +kernel, by decide +kernel⟩)

/-- A packet of four words that slot 3 holds and window 0 is bound to. -/
def letter : Packet := ⟨1, 0, 0x11, 4, 0, 0, 0, [0x3F800000, 2, 3, 4], false⟩

/-- The state `three` with that window. -/
def windowed : State :=
  { three with
    net := { three.net with slots := three.net.slots.set 3 ⟨.held, letter, none, 1, none, 0, 0, 0⟩ }
    run := { three.run with ctx := { three.run.ctx with w := three.run.ctx.w.set 0 (some 3) } } }

theorem meets_StreamAndWindowCompletes_3 : Obligations.StreamAndWindowCompletes → Runs (.vcopyW 1 0) (hands windowed [(1, vec 0x1000 1 4)]) := fun h =>
  runs ((h.2 1 0 (hands windowed [(1, vec 0x1000 1 4)]) _ _ _ _ _ ⟨rfl, rfl⟩ rfl (fun _ => rfl)
    ⟨_, fun _ => noDest (by decide +kernel) (by decide +kernel) (noRoom (by decide +kernel)), rfl⟩ (.inl (by decide +kernel))).1
    (by decide +kernel))

theorem meets_StreamAndWindowCompletes_4 : Obligations.StreamAndWindowCompletes → Runs (.vcopyWAll 1 0) (hands windowed [(1, vec 0x1000 1 8)]) := fun h =>
  runs ((h.2 1 0 (hands windowed [(1, vec 0x1000 1 8)]) _ _ _ _ _ ⟨rfl, rfl⟩ rfl (fun _ => rfl)
    ⟨_, fun _ => noDest (by decide +kernel) (by decide +kernel) (noRoom (by decide +kernel)), rfl⟩ (.inl (by decide +kernel))).2
    (by decide +kernel))

/-- F[1] and F[2] hold x + 2 and x on [−1, 1] at offsets 0 and 2 of the store. -/
def functions : State :=
  { regs three [(5, 0xBF800000), (6, 0x3F800000), (7, 0x3F800000BF800000), (8, 1)] with run := { (regs three [(5, 0xBF800000), (6, 0x3F800000), (7, 0x3F800000BF800000), (8, 1)]).run with
    store := Memory.put [] 0 [0, 0, 0, 0x40, 0, 0, 0x80, 0x3F, 0, 0, 0, 0, 0, 0, 0x80, 0x3F]
    ctx := { (regs three [(5, 0xBF800000), (6, 0x3F800000), (7, 0x3F800000BF800000), (8, 1)]).run.ctx with
      f := (Ctx.reset.f.set 1 ⟨true, 0, 2, 0x3F800000, 0xBF800000⟩).set 2 ⟨true, 2, 2, 0x3F800000, 0xBF800000⟩ } } }

theorem meets_FunctionResults_1 : Obligations.FunctionResults → Runs (.fnmul 3 1 2 0) functions := fun h =>
  runs (h (.fnmul 3 1 2 0) _ rfl functions 4 ⟨rfl, rfl, rfl, rfl⟩ (by unfold roomAt; decide +kernel) (by decide +kernel))

theorem meets_FunctionResults_2 : Obligations.FunctionResults → Runs (.fncomp 3 2 2 0) functions := fun h =>
  runs (h (.fncomp 3 2 2 0) _ rfl functions 4 ⟨rfl, rfl, rfl⟩ (by unfold roomAt; decide +kernel) (by decide +kernel))

theorem meets_FunctionResults_3 : Obligations.FunctionResults → Runs (.fndom 3 5 6) functions := fun h =>
  runs (h (.fndom 3 5 6) _ rfl functions 4 rfl (by unfold roomAt; decide +kernel) (by decide +kernel))

theorem meets_FunctionResults_4 : Obligations.FunctionResults → Runs (.fntrunc 1 1 8 1) functions := fun h =>
  runs (h (.fntrunc 1 1 8 1) _ rfl functions 4 ⟨rfl, by decide, by decide⟩ (by unfold roomAt; decide +kernel) (by decide +kernel))

theorem meets_FunctionResults_5 : Obligations.FunctionResults → Runs (.fnmov 3 1 0) functions := fun h =>
  runs (h (.fnmov 3 1 0) _ rfl functions 4 ⟨rfl, by decide⟩ (by unfold roomAt; decide +kernel) (by decide +kernel))

/-- The state `functions` with no free word in the store. -/
def crowded : State := { functions with run := { functions.run with pins := [(4, 1020)] } }

theorem crowded_full : longestRun crowded 0 := by
  have h : ∀ off < 1024, crowded.freeWord off = false := by decide +kernel
  refine ⟨⟨0, by omega, fun k hk => by omega⟩, fun off m hm hf => ?_⟩
  cases m with
  | zero => exact Nat.le_refl 0
  | succ m => exact absurd (hf 0 (by omega)) (by simp [h off (by omega)])

theorem meets_FunctionSpaceAndEvaluation_1 : Obligations.FunctionSpaceAndEvaluation → Runs (.fnint 3 1 0) crowded := fun h =>
  runs ((h.1.1 (.fnint 3 1 0) _ rfl crowded rfl (by decide +kernel)).1 (by decide))

theorem meets_FunctionSpaceAndEvaluation_2 : Obligations.FunctionSpaceAndEvaluation → Runs (.fnder 3 1 1) crowded := fun h =>
  runs ((h.1.1 (.fnder 3 1 1) _ rfl crowded rfl (by decide +kernel)).2 (by decide) ⟨rfl, by decide⟩ 0 crowded_full)

theorem meets_FunctionSpaceAndEvaluation_3 : Obligations.FunctionSpaceAndEvaluation → Runs (.fnmov 1 1 0) functions := fun h =>
  runs (h.1.2.1 1 0 functions rfl)

theorem meets_FunctionSpaceAndEvaluation_4 : Obligations.FunctionSpaceAndEvaluation → Runs (.fnevs 5 1 6 0) functions := fun h =>
  runs (h.2.1 5 1 6 0 functions (0x40400000, 0) rfl (by decide +kernel))

theorem meets_FunctionSpaceAndEvaluation_5 : Obligations.FunctionSpaceAndEvaluation → Runs (.fnevs 5 1 6 0) (regs functions [(6, 0x40000000)]) := fun h =>
  runs (h.2.2.1 5 1 6 (regs functions [(6, 0x40000000)]) rfl (by decide +kernel)).1

theorem meets_FunctionSpaceAndEvaluation_6 : Obligations.FunctionSpaceAndEvaluation → Runs (.fnevs 5 1 6 1) (regs functions [(6, 0x40000000)]) := fun h =>
  runs ((h.2.2.1 5 1 6 (regs functions [(6, 0x40000000)]) rfl (by decide +kernel)).2 ⟨rfl, by decide⟩)

theorem meets_FunctionSpaceAndEvaluation_7 : Obligations.FunctionSpaceAndEvaluation → Runs (.fnlen 5 2) functions := fun h =>
  runs (h.2.2.2 5 2 functions rfl)

theorem meets_FunctionAccessResults_1 : Obligations.FunctionAccessResults → Runs (.fnfit 3 2 7 0) functions := fun h =>
  runs (h.1.1 3 2 7 0 functions _ 4 (by decide) (by decide) (fun _ => rfl) (by decide +kernel) (by decide +kernel)
    (by unfold roomAt; decide +kernel))

/-- The state `functions` with the image of a constant function at 0x20000. -/
def imaged : State :=
  bytesAt (regs functions [(4, 0x20000)]) [(0x20000, [0, 0, 0x80, 0xBF, 0, 0, 0x80, 0x3F, 1, 0, 0, 0, 0, 0, 0, 0, 0, 0, 0x80, 0x3F])]

theorem meets_FunctionAccessResults_2 : Obligations.FunctionAccessResults → Runs (.fnld 3 4 0) imaged := fun h =>
  runs (h.1.2 (.fnld 3 4 0) _ _ _ rfl imaged _ _ 4 (by decide +kernel) (fun _ => rfl) rfl (by decide +kernel) (by decide +kernel)
    (fun _ => rfl) rfl (by decide +kernel) (by unfold roomAt; decide +kernel))

theorem meets_FunctionAccessResults_3 : Obligations.FunctionAccessResults → Runs (.fnst 1 4 0) imaged := fun h =>
  runs (h.2.1 (.fnst 1 4 0) _ _ _ rfl imaged _ _ rfl (fun _ => rfl) (noRoom (by decide +kernel)))

theorem meets_FunctionAccessResults_4 : Obligations.FunctionAccessResults → Runs (.fnroot 5 2 6) (regs functions [(6, 0x2000)]) := fun h =>
  runs (h.2.2.1 5 2 6 (regs functions [(6, 0x2000)]) _ rfl (by decide) (by decide) (noRoom (by decide +kernel)))

theorem meets_FunctionAccessResults_5 : Obligations.FunctionAccessResults → Runs (.fneval 1 1 2 1) (bytesAt functions [(spHomeOf 0 0x1040, [0, 0, 0x80, 0x3F, 0, 0, 0, 0])]) := fun h =>
  runs (h.2.2.2 1 1 2 1 (bytesAt functions [(spHomeOf 0 0x1040, [0, 0, 0x80, 0x3F, 0, 0, 0, 0])]) _ _ _ _ _ rfl ⟨rfl, rfl⟩ (fun _ => rfl) (fun _ => rfl)
    ⟨_, fun _ => noDest (by decide +kernel) (by decide +kernel) (noRoom (by decide +kernel)), rfl⟩)

theorem meets_ControlEvents_1 : Obligations.ControlEvents → Runs (.fntolWrite 0x180000000) base := fun h =>
  ⟨_, (h.1 (.fntolWrite 0x180000000) _ _ rfl base).1 rfl⟩

theorem meets_ControlEvents_6 : Obligations.ControlEvents → Runs (.csrWrite 0x101 4) base := fun h =>
  ⟨_, (h.1 (.csrWrite 0x101 4) _ _ rfl base).2 rfl⟩

theorem meets_ControlEvents_2 : Obligations.ControlEvents → Runs (.synci 4) (regs base [(4, 0x20000)]) := fun h =>
  runs (h.2.1 4 (regs base [(4, 0x20000)]) rfl rfl)

theorem meets_ControlEvents_3 : Obligations.ControlEvents → Runs (.idle 4) { regs base [(4, 0xFFFFFFFF)] with run := { (regs base [(4, 0xFFFFFFFF)]).run with idleDone := true } } := fun h =>
  runs (h.2.2.1 4 { regs base [(4, 0xFFFFFFFF)] with run := { (regs base [(4, 0xFFFFFFFF)]).run with idleDone := true } } (by decide) (.inr rfl))

theorem meets_ControlEvents_4 : Obligations.ControlEvents → Runs .idleExpiry { base with run := { base.run with stall := some .idle } } := fun h =>
  runs (h.2.2.2.1 { base with run := { base.run with stall := some .idle } } rfl rfl)

theorem meets_ControlEvents_5 : Obligations.ControlEvents → Runs (.nonInstruction 0x80 (some 17)) base := fun h =>
  runs ((h.2.2.2.2 0x80 base ⟨rfl, by decide⟩).2 17)

/-- A core with a dictionary of one atom, the first element 1.0, with Q 1.0, and an image table of two elements a row. -/
def coding : State :=
  { hands windowed [(1, vec 0x4000 1 2), (4, vec 0x4100 1 64),
      (6, BitVec.ofNat 256 ((handle 0x8000 1 4 12 [(64, 1)]).toNat + 2 * 2 ^ 216))] with
    core := { windowed.core with enc := { Enc.reset with
      dict := Memory.put (Memory.put [] 0 [0x80, 0x3F]) 128 [0, 0, 0x80, 0x3F], n := 1
      img := some (handle 0x3000 1 3 2 [(2, 1), (65, 2), (1, 130)]) } } }

/-- That core with a code packet of one word in its window: 1.0 times atom 0 of segment 0. -/
def codePacket : State :=
  { coding with net := { coding.net with
      slots := coding.net.slots.set 3 ⟨.held, ⟨1, 0, 0x11, 1, 1, 0, 0, [0x3F800000], false⟩, none, 1, none, 0, 0, 0⟩ } }

/-- That core with an escape packet in its window. -/
def escapePacket : State :=
  { coding with net := { coding.net with
      slots := coding.net.slots.set 3
        ⟨.held, ⟨1, 0, 0x11, 17, 2, 0, 0, 32 :: List.replicate 16 0x40003F80, false⟩, none, 1, none, 0, 0, 0⟩ } }

theorem meets_EncoderResults_1 : Obligations.EncoderResults → Runs (.pthr 5 6) (regs base [(5, 0x7F80000080000000), (6, 16)]) := fun h =>
  runs (h.1.2.1 5 6 (regs base [(5, 0x7F80000080000000), (6, 16)]) _ rfl (by decide) (by decide) (by decide) (by decide))

theorem meets_EncoderResults_2 : Obligations.EncoderResults → Runs (.pimg 2) (hands base [(2, handle 0x3000 1 3 6 [(64, 1), (320, 64), (1, 64)])]) := fun h =>
  runs (h.1.2.2.1 2 (hands base [(2, handle 0x3000 1 3 6 [(64, 1), (320, 64), (1, 64)])]) _ rfl (by decide) (by decide) (by decide) (by decide) (by decide)
    (by decide) (by decide) (by decide) (by decide) (by decide))

/-- A dictionary of one atom at 0x2000 of the scratchpad, named by H[2]. -/
def dictionary : State :=
  bytesAt (hands base [(2, handle 0x2000 1 2 2 [(64, 1), (1, 64)])]) [(spHomeOf 0 0x2000, [0x80, 0x3F]), (spHomeOf 0 0x2080, [0, 0, 0x80, 0x3F])]

theorem meets_EncoderResults_3 : Obligations.EncoderResults → Runs (.pdict 2) dictionary := fun h =>
  runs (h.1.2.2.2 2 dictionary _ _ rfl (by decide) (by decide) (by decide) (by decide) (by decide) (by decide) (by decide) (by decide)
    (by decide) (fun _ => rfl) (fun _ _ => clean rfl rfl _) (by decide +kernel))

theorem meets_EncoderResults_4 : Obligations.EncoderResults → Runs (.penc 6 2 5) (regs coding [(5, 255)]) := fun h =>
  runs (h.2.1 6 2 5 (regs coding [(5, 255)]) _ _ _ _ ⟨rfl, rfl⟩ rfl (by decide) (by decide) (by decide) (by decide) (by decide) (fun _ => rfl) (fun _ => rfl) rfl
    (fun _ => noDest (by decide +kernel) (by decide +kernel) (noRoom (by decide +kernel))))

theorem meets_EncoderResults_5 : Obligations.EncoderResults → Runs (.pgrad 6 2 0) codePacket := fun h =>
  runs (h.2.2 6 2 0 codePacket _ _ _ _ _ _ _ rfl (fun _ => rfl) rfl (by decide) (by decide) (fun _ => rfl) (by decide) (fun _ => rfl) (fun _ => rfl) rfl
    (fun _ => noDest (by decide +kernel) (by decide +kernel) (noRoom (by decide +kernel))))

theorem meets_AccumulatorResults_1 : Obligations.AccumulatorResults → Runs (.pacc 1 0) codePacket := fun h =>
  runs (h.1 (.pacc 1 0) _ _ _ _ rfl codePacket _ _ _ _ _ _ _ rfl (fun _ => rfl) rfl (fun _ => rfl) (by decide) (by decide) (fun _ => rfl) (fun _ => rfl) rfl
    (fun _ => ckDest rfl (by decide +kernel) (by decide +kernel) rfl))

theorem meets_AccumulatorResults_2 : Obligations.AccumulatorResults → Runs (.pesc 1 0) escapePacket := fun h =>
  runs (h.1 (.pesc 1 0) _ _ _ _ rfl escapePacket _ _ _ _ _ _ _ rfl (fun _ => rfl) rfl (fun _ => rfl) (by decide) (by decide) (fun _ => rfl) (fun _ => rfl) rfl
    (fun _ => ckDest rfl (by decide +kernel) (by decide +kernel) rfl))

theorem meets_AccumulatorResults_3 : Obligations.AccumulatorResults → Runs (.pdec 4 0) codePacket := fun h =>
  runs ((h.2 4 0 codePacket _ _ _ _ _ rfl (fun _ => rfl) (fun _ => rfl) (by decide) (by decide)).1 rfl (fun _ => rfl)
    (fun _ => noDest (by decide +kernel) (by decide +kernel) (noRoom (by decide +kernel))))

theorem meets_AccumulatorResults_4 : Obligations.AccumulatorResults → Runs (.pdec 4 0) escapePacket := fun h =>
  runs ((h.2 4 0 escapePacket _ _ _ _ _ rfl (fun _ => rfl) (fun _ => rfl) (by decide) (by decide)).2 rfl (fun _ => rfl)
    (fun _ => noDest (by decide +kernel) (by decide +kernel) (noRoom (by decide +kernel))))

/-- A command of the matrix unit. -/
def cmd (op acc : Nat) (opnd : BitVec 256) (fmt : BitVec 4) (homes : List (Nat × Nat)) : MxCmd :=
  ⟨1, opnd, BitVec.ofNat 256 (op + 16 * acc + (if op = 1 ∨ op = 2 then 2 * 256 else 0)), fmt, homes⟩

/-- The state `three` with one command queued. -/
def queued (c : MxCmd) : State := three.withMx { Mx.reset with queue := [c], iss := 1 }

theorem meets_MatrixQueueResults_1 : Obligations.MatrixQueueResults → Runs (.mxq 1 2) (hands base [(2, 0x14)]) := fun h =>
  runs (h.1.1 1 2 (hands base [(2, 0x14)]) _ _ rfl (by decide) (fun _ => rfl) (by decide))

theorem meets_MatrixQueueResults_2 : Obligations.MatrixQueueResults → Runs (.mxseq 5) base := fun h =>
  runs (h.1.2.1 5 base rfl)

theorem meets_MatrixQueueResults_3 : Obligations.MatrixQueueResults → Runs (.mxwait 5) base := fun h =>
  runs (h.1.2.2.1 5 base (by decide) (by decide) rfl)

theorem meets_MatrixQueueResults_4 : Obligations.MatrixQueueResults → Runs (.accmv 5 3 6) (regs base [(6, 255)]) := fun h =>
  runs (h.1.2.2.2.1 5 3 6 (regs base [(6, 255)]) (by decide) (fun _ q => nomatch q) rfl)

theorem meets_MatrixQueueResults_5 : Obligations.MatrixQueueResults → Runs (.accpk 6 3 5) base := fun h =>
  runs (h.1.2.2.2.2 6 3 5 base (by decide) rfl rfl rfl)

/-- 256 BF16 elements of the scratchpad from 0x1040 on, captured for LDW. -/
def loadCmd : MxCmd := cmd 0 0 (vec 0x1040 2 256) 2 ((List.range 256).map (fun j => (spHomeOf 0 (0x1040 + 2 * j), 0)))

theorem meets_MatrixQueueResults_6 : Obligations.MatrixQueueResults → Runs .mxLdw (queued loadCmd) := fun h =>
  runs (h.2.1 (queued loadCmd) _ ⟨rfl, rfl, rfl, rfl⟩ rfl (.inl rfl) (by decide +kernel) (by decide +kernel) (by decide +kernel))

theorem meets_MatrixQueueResults_7 : Obligations.MatrixQueueResults → Runs .mxZero (queued (cmd 4 3 0 0 [])) := fun h =>
  runs (h.2.2.1 (queued (cmd 4 3 0 0 [])) _ ⟨rfl, rfl, rfl, rfl⟩)

theorem meets_MatrixQueueResults_8 : Obligations.MatrixQueueResults → Runs .mxChk (queued (cmd 5 0 (vec 0x3FFF8 1 1) 0 [])) := fun h =>
  runs (h.2.2.2.1 (queued (cmd 5 0 (vec 0x3FFF8 1 1) 0 [])) _ ⟨rfl, rfl, rfl, rfl⟩ (by decide) (by decide) three_memOk)

theorem meets_MatrixQueueResults_9 : Obligations.MatrixQueueResults → Runs .mxStacc (queued (cmd 3 1 (vec 0x1000 1 256) 1 [])) := fun h =>
  runs (h.2.2.2.2 (queued (cmd 3 1 (vec 0x1000 1 256) 1 [])) _ ⟨rfl, rfl, rfl, rfl⟩ three_memOk (by decide +kernel) (by decide +kernel))

theorem meets_MatrixProductResults_1 : Obligations.MatrixProductResults → Runs (.mxMma [0]) (queued (cmd 1 2 (vec 0x1000 2 256) 2 [])) := fun h =>
  runs ((h (.mxMma [0]) _ _ rfl (queued (cmd 1 2 (vec 0x1000 2 256) 2 [])) _ ⟨rfl, rfl, rfl, rfl⟩ (by decide +kernel) rfl).1 (by decide +kernel))

theorem meets_MatrixProductResults_2 : Obligations.MatrixProductResults → Runs (.mxMmat [0, 0]) (queued (cmd 2 2 (vec 0x1000 2 256) 2 [])) := fun h =>
  runs ((h (.mxMmat [0, 0]) _ _ rfl (queued (cmd 2 2 (vec 0x1000 2 256) 2 [])) _ ⟨rfl, rfl, rfl, rfl⟩ (by decide +kernel) rfl).2 ⟨0, by decide +kernel, by decide +kernel⟩)

theorem meets_AdjointCellResults_1 : Obligations.AdjointCellResults → Runs (.adld 5 4 4) (regs base [(4, 0x4FFF8)]) := fun h =>
  runs (h.1 (.adld 5 4 4) _ _ _ rfl (regs base [(4, 0x4FFF8)]) _ ⟨fun _ => rfl, rfl, rfl⟩ rfl)

theorem meets_AdjointCellResults_2 : Obligations.AdjointCellResults → Runs (.adst 5 4 4) (regs base [(4, 0x40000), (5, 0x1234567887654321)]) := fun h =>
  runs (h.2.1 (.adst 5 4 4) _ _ _ rfl (regs base [(4, 0x40000), (5, 0x1234567887654321)]) _ _ ⟨fun _ => rfl, rfl, rfl⟩ (noRoom (by decide +kernel)))

theorem meets_AdjointCellResults_3 : Obligations.AdjointCellResults → Runs (.adclrLit 5 4 8) (regs base [(4, 0x40000)]) := fun h =>
  runs (h.2.2 (.adclrLit 5 4 8) _ _ _ rfl (regs base [(4, 0x40000)]) _ _ ⟨fun _ => rfl, rfl, rfl⟩ rfl (noRoom (by decide +kernel)))

/-- A core whose tape has room for 100 entries. -/
def taped : State := { base with core := { base.core with tape := { Tape.reset with lc := 100, lmax := 100 } } }

/-- A core with a mark at index 0 of its tape. -/
def marked : State := { taped with
  core := { taped.core with tape := { taped.core.tape with buf := [TapeEntry.markEntry] } }
  run := { taped.run with ctx := { taped.run.ctx with top := 1 } } }

theorem meets_TapeControlResults_1 : Obligations.TapeControlResults → Runs (.admode 2) taped := fun h =>
  runs (h.1 2 taped _ _ (by decide) rfl rfl)

theorem meets_TapeControlResults_2 : Obligations.TapeControlResults → Runs (.admode 3) taped := fun h =>
  runs (h.2.1 taped ⟨rfl, by decide⟩)

theorem meets_TapeControlResults_3 : Obligations.TapeControlResults → Runs (.tmark 5) taped := fun h =>
  runs (h.2.2.1 5 taped _ _ _ rfl rfl rfl)

theorem meets_TapeControlResults_4 : Obligations.TapeControlResults → Runs (.trew 5) marked := fun h =>
  runs (h.2.2.2.1 5 marked _ _ _ _ _ rfl (by decide) rfl rfl rfl rfl)

/-- The state `taped` in a mode of differentiation, with one entry of the element at 0x40004 on the tape. -/
def moded (m : BitVec 2) (l : List (Reg × Word)) : State := regs { taped with
  core := { taped.core with tape := { taped.core.tape with buf := [⟨0x3F800000, false, 2, 0x40004⟩] } }
  run := { taped.run with ctx := { taped.run.ctx with top := 1, admode := m } } } l

theorem meets_DifferentiableAccessResults_1 : Obligations.DifferentiableAccessResults → Runs (.ldZ32 5 4 4) (moded 2 [(4, 0x40000), (5, 0x3F800000)]) := fun h =>
  runs (h.1 (.ldZ32 5 4 4) _ rfl (moded 2 [(4, 0x40000), (5, 0x3F800000)]) _ _ (fun _ => rfl) rfl rfl rfl (noRoom (by decide +kernel)))

theorem meets_DifferentiableAccessResults_2 : Obligations.DifferentiableAccessResults → Runs (.ldf 5 4 4) (moded 2 [(4, 0x40000), (5, 0x3F800000)]) := fun h =>
  runs (h.2.1 5 4 4 (moded 2 [(4, 0x40000), (5, 0x3F800000)]) _ _ (fun _ => rfl) rfl rfl (noRoom (by decide +kernel)))

theorem meets_DifferentiableAccessResults_3 : Obligations.DifferentiableAccessResults → Runs (.st32 5 4 4) (moded 1 [(4, 0x40000), (5, 0x40000000)]) := fun h =>
  runs (h.2.2.1 (.st32 5 4 4) _ rfl (moded 1 [(4, 0x40000), (5, 0x40000000)]) _ _ _ _ (fun _ => rfl) rfl (by decide) (by decide) rfl rfl (by decide) rfl
    (clean rfl rfl _) (noRoom (by decide +kernel)) rfl rfl rfl)

theorem meets_DifferentiableAccessResults_4 : Obligations.DifferentiableAccessResults → Runs (.st32 5 4 4) (moded 2 [(4, 0x40000), (5, 0x40000000)]) := fun h =>
  runs (h.2.2.2.1 (.st32 5 4 4) _ rfl (moded 2 [(4, 0x40000), (5, 0x40000000)]) _ _ _ _ (fun _ => rfl) rfl (by decide) (by decide) rfl rfl (by decide) (by decide)
    rfl (by decide) rfl rfl (noRoom (by decide +kernel)) rfl rfl)

theorem meets_DifferentiableAccessResults_5 : Obligations.DifferentiableAccessResults → Runs (.ld64 5 4 0) (moded 2 [(4, 0x40000)]) := fun h =>
  runs ((h.2.2.2.2.1 (.ld64 5 4 0) _).1 rfl (moded 2 [(4, 0x40000)]) _ (fun _ => rfl) rfl rfl (by decide) ⟨rfl, by decide⟩)

theorem meets_DifferentiableAccessResults_6 : Obligations.DifferentiableAccessResults → Runs (.st16 5 4 0) (moded 1 [(4, 0x40000)]) := fun h =>
  runs ((h.2.2.2.2.1 (.st16 5 4 0) _).2 rfl (moded 1 [(4, 0x40000)]) _ (fun _ => rfl) rfl (by decide) (by decide) (.inl rfl) (by decide) ⟨rfl, by decide⟩)

theorem meets_DifferentiableAccessResults_7 : Obligations.DifferentiableAccessResults → Runs (.st128 6 4 0) (regs base [(4, 0x60004), (6, 0x7F12345678)]) := fun h =>
  runs (h.2.2.2.2.2 (.st128 6 4 0) _ rfl rfl rfl (regs base [(4, 0x60004), (6, 0x7F12345678)]) _ _ _ (fun _ => rfl) rfl rfl rfl (by decide) (by decide +kernel)
    (noRoom (by decide +kernel)) rfl rfl)

theorem meets_LinkAndNeighbourResults_1 : Obligations.LinkAndNeighbourResults → Runs (.lkset 5) (regs base [(5, 5)]) := fun h =>
  runs (h.1.1 5 (regs base [(5, 5)]) _ rfl (by decide +kernel))

/-- A core whose links both issue. -/
def linked : State := { regs three [(5, 0x40000), (6, 0x50000)] with core := { three.core with linkdir := 5 } }

theorem meets_LinkAndNeighbourResults_2 : Obligations.LinkAndNeighbourResults → Runs (.qbind 7 6) linked := fun h =>
  runs (h.1.2.2.1 7 6 linked _ _ rfl rfl (by decide +kernel))

/-- That core with Q[7] bound to the out-link toward the next core. -/
def pushing : State := { regs linked [(5, 0x1040)] with
  run := { (regs linked [(5, 0x1040)]).run with ctx := { (regs linked [(5, 0x1040)]).run.ctx with q := Ctx.reset.q.set 7 ⟨.outNext, 0, 0⟩ } } }

theorem meets_LinkAndNeighbourResults_3 : Obligations.LinkAndNeighbourResults → Runs (.qpush 7 5) pushing := fun h =>
  runs (h.1.2.2.2.1 7 5 pushing true rfl (by decide) (by decide) (by decide +kernel) (cleanLine rfl rfl _ _))

theorem meets_LinkAndNeighbourResults_4 : Obligations.LinkAndNeighbourResults → Runs (.linkPassThrough true (some (List.replicate 64 7))) base := fun h =>
  runs (h.1.2.2.2.2.1 true base (List.replicate 64 7) (by decide) (by decide))

/-- A core that passes on, with an entry in the in-link from the previous core. -/
def passing : State :=
  { base with core := { base.core with linkdir := 2 }, net := { base.net with inPrev := [⟨List.replicate 64 7, 1, true, false⟩] } }

theorem meets_LinkAndNeighbourResults_5 : Obligations.LinkAndNeighbourResults → Runs (.linkPassThrough true none) passing := fun h =>
  runs (h.1.2.2.2.2.2.1 true passing _ _ rfl (by decide) (by decide +kernel) (by decide))

/-- A core with a committed entry in its out-link toward the next core. -/
def giving : State := { base with net := { base.net with outNext := [⟨List.replicate 64 7, 1, true, false⟩] } }

theorem meets_LinkAndNeighbourResults_6 : Obligations.LinkAndNeighbourResults → Runs (.linkPassThrough true none) giving := fun h =>
  runs (h.1.2.2.2.2.2.2 true giving _ _ rfl rfl (by decide) (by decide))

theorem meets_LinkAndNeighbourResults_7 : Obligations.LinkAndNeighbourResults → Runs (.nxld 5 6 1) (regs base [(6, 0x3FFF8)]) := fun h =>
  runs ((h.2 5 6 1 (regs base [(6, 0x3FFF8)]) (by decide) (by decide)).1 (cleanLine rfl rfl _ _))

theorem meets_LinkAndNeighbourResults_8 : Obligations.LinkAndNeighbourResults → Runs (.nxst 5 6 0) (regs base [(5, 0x1122334455667788), (6, 0)]) := fun h =>
  runs ((h.2 5 6 0 (regs base [(5, 0x1122334455667788), (6, 0)]) (by decide) (by decide)).2 (regs base [(5, 0x1122334455667788), (6, 0)])
    (if_pos (by decide +kernel)) rfl)

/-- A core whose cluster slot 3 holds an object that expects two arrivals and has one. -/
def meeting : State := { regs base [(4, 3), (5, 1), (6, 0x30000), (8, 0x200000000)] with
  die := { base.die with
    clusterSlots := base.die.clusterSlots.set 3 ⟨true, 0, 0, 0x10002, false, [1]⟩
    mem := Memory.put [] 0x30000 [2, 0, 1, 0] } }

theorem meeting_memOk : meeting.MemOk := by unfold State.MemOk; decide +kernel

theorem meets_BarrierArrivals_1 : Obligations.BarrierArrivals → Runs (.barr 7 4 5 1) meeting := fun h =>
  runs (h.1 (.barr 7 4 5 1) _ _ _ _ _ rfl meeting _ _ rfl (fun _ => rfl) (by decide) (by decide)
    ⟨fun _ e => (by cases e), by decide, by decide⟩ meeting_memOk (fun _ => by decide +kernel))

theorem meets_BarrierArrivals_2 : Obligations.BarrierArrivals → Runs (.barrM 7 6 5 0) meeting := fun h =>
  runs (h.1 (.barrM 7 6 5 0) _ _ _ _ _ rfl meeting _ _ rfl (fun _ => rfl) (by decide) (by decide)
    ⟨fun _ e _ => (by cases e; rfl), by decide, by decide⟩ meeting_memOk (fun e => nomatch e))

theorem meets_BarrierArrivals_3 : Obligations.BarrierArrivals → Runs (.syncPacket 1 false 3 1) meeting := fun h =>
  runs (h.2.2 1 false 3 1 meeting (by decide +kernel) (by decide +kernel) (by decide))

theorem meets_BarrierArrivals_4 : Obligations.BarrierArrivals → Runs (.barr 7 4 5 1) (regs meeting [(5, 2)]) := fun h =>
  runs (h.2.1 (.barr 7 4 5 1) _ _ _ _ rfl (regs meeting [(5, 2)]) _ _ rfl (fun _ => rfl) (by decide) (by decide)
    ⟨fun _ e => (by cases e), by decide, by decide⟩ meeting_memOk (by decide +kernel) ⟨rfl, by decide⟩)

theorem meets_BarrierWatchesAndSlots_1 : Obligations.BarrierWatchesAndSlots → Runs (.btest 7 4 5) meeting := fun h =>
  runs ((h.1.1 (.btest 7 4 5) _ _ _ _ _ rfl meeting _ (fun _ => rfl) (fun e => nomatch e) (by decide) (fun _ => by decide)
    ⟨fun _ e => (by cases e), by decide, by decide⟩ rfl (fun e => nomatch e)).1 (by decide +kernel))

theorem meets_BarrierWatchesAndSlots_2 : Obligations.BarrierWatchesAndSlots → Runs (.bwait 7 4 0) meeting := fun h =>
  runs ((h.1.1 (.bwait 7 4 0) _ _ _ _ _ rfl meeting _ (fun _ => rfl) (fun e => nomatch e) (by decide) (fun _ => by decide)
    ⟨fun _ e => (by cases e), by decide, by decide⟩ rfl (fun _ => rfl)).2.1 (by decide +kernel) (fun _ => by decide))

/-- That core one cycle into a wait. -/
def waiting : State := { meeting with run := { meeting.run with waited := 2, stall := some .bwait } }

theorem meets_BarrierWatchesAndSlots_3 : Obligations.BarrierWatchesAndSlots → Runs (.bwaitGv 7 6 8) waiting := fun h =>
  runs ((h.1.1 (.bwaitGv 7 6 8) _ _ _ _ _ rfl waiting _ (fun _ => rfl) (fun e => nomatch e) (by decide) (fun e => nomatch e)
    ⟨fun _ e _ => (by cases e; rfl), by decide, by decide⟩ rfl (fun _ => rfl)).2.2 (by decide +kernel) rfl (by decide))

theorem meets_BarrierWatchesAndSlots_4 : Obligations.BarrierWatchesAndSlots → Runs .barto waiting := fun h =>
  runs (h.1.2.2 waiting rfl rfl).2

theorem meets_BarrierWatchesAndSlots_8 : Obligations.BarrierWatchesAndSlots → Runs .barrierChangeNotice waiting := fun h =>
  runs (h.1.2.2 waiting rfl rfl).1

theorem meets_BarrierWatchesAndSlots_9 : Obligations.BarrierWatchesAndSlots →
    Runs (.bwait 7 4 8) { waiting with run := { waiting.run with freed := true, stall := none } } := fun h =>
  let ⟨_, _, _, q⟩ := h.1.2.1 (.bwait 7 4 8) _ _ _ _ rfl { waiting with run := { waiting.run with freed := true, stall := none } } rfl rfl
  ⟨_, q.1⟩

theorem meets_BarrierWatchesAndSlots_5 : Obligations.BarrierWatchesAndSlots → Runs (.balloc 5) (regs meeting [(5, 0x10001)]) := fun h =>
  runs ((h.2.1 5 (regs meeting [(5, 0x10001)]) _ rfl (by decide) (by decide) (by decide)).2 0 (by decide +kernel))

/-- A core whose cluster has no free slot. -/
def full : State := { regs base [(5, 0xFFFF)] with die := { base.die with clusterSlots := Vector.replicate 32 ⟨true, 0, 0, 2, false, []⟩ } }

theorem meets_BarrierWatchesAndSlots_6 : Obligations.BarrierWatchesAndSlots → Runs (.balloc 5) full := fun h =>
  runs ((h.2.1 5 full _ rfl (by decide) (by decide) (by decide)).1 (by decide +kernel))

theorem meets_BarrierWatchesAndSlots_7 : Obligations.BarrierWatchesAndSlots → Runs (.bfree 4) meeting := fun h =>
  runs (h.2.2 4 meeting _ false 3 rfl (by decide +kernel) (by decide +kernel) (by decide))

theorem meets_CapabilityResults_1 : Obligations.CapabilityResults → Runs (.capq 5 4) (regs base [(4, 0x20000)]) := fun h =>
  runs (h.1.1 5 4 (regs base [(4, 0x20000)]) _ (by decide) rfl rfl rfl rfl)

theorem meets_CapabilityResults_2 : Obligations.CapabilityResults → (base.capWord 0x20000).setWidth 34 = (0 : CoreNum) := fun h =>
  (h.1.2.1 base 0x20000 0 (by decide) (by decide +kernel)).1

/-- The states of a transfer of one granule. -/
def transfer (s : State) : Nat → State
  | 0 => s
  | _ + 1 => (s.xferGranule (.excl 15) 0x20000).toOption.getD s

theorem meets_CapabilityResults_3 : Obligations.CapabilityResults → Runs (.capxfer 4 5) (regs base [(4, 0x20000), (5, 15)]) := fun h =>
  runs (h.1.2.2.1 4 5 (regs base [(4, 0x20000), (5, 15)]) _ (.excl 15) rfl (by decide) (by decide) (by decide +kernel) (by decide) ⟨rfl, rfl⟩ (by decide +kernel)
    ⟨by decide +kernel, fun _ q => (nomatch q), by decide +kernel, by decide⟩ (transfer ((regs base [(4, 0x20000), (5, 15)]).checkpointNow 0x10000)) rfl
    (fun k hk => by
      have hk : k < 1 := hk
      have : k = 0 := by omega
      subst this
      rfl))

theorem meets_CapabilityResults_4 : Obligations.CapabilityResults → ∃ u, base.xferGranule .shared 0x20000 = .ok u ∧ (u.granule 0x20000).cap = .shared := fun h =>
  ⟨_, rfl, (h.1.2.2.2 base _ .shared 0x20000 _ rfl rfl).1⟩

theorem meets_CapabilityResults_5 : Obligations.CapabilityResults → Runs (.sliceAccess ⟨1, 0x20000, .store [1], none⟩) base := fun h =>
  ⟨_, h.2.1 ⟨1, 0x20000, .store [1], none⟩ base rfl (by unfold Served; decide +kernel)⟩

theorem meets_CapabilityResults_6 : Obligations.CapabilityResults → Runs (.sliceAccess ⟨1, 0x30000, .amo .cas 8 5 0, none⟩) base := fun h =>
  runs ((h.2.2.1 ⟨1, 0x30000, .amo .cas 8 5 0, none⟩ base rfl rfl (by unfold Served; decide +kernel)).2.2.1 _ _ _ _ rfl (by decide +kernel))

theorem meets_CapabilityResults_7 : Obligations.CapabilityResults → Runs (.sliceAccess ⟨0, 0x20000, .transfer .shared 1, none⟩) base := fun h =>
  runs ((h.2.2.1 ⟨0, 0x20000, .transfer .shared 1, none⟩ base rfl rfl (by unfold Served; decide +kernel)).2.2.2.2 _ _ rfl)

theorem meets_CapabilityResults_8 : Obligations.CapabilityResults → Runs (.sliceAccess ⟨1, 0x30000, .arrive 1, none⟩) meeting := fun h =>
  runs ((h.2.2.1 ⟨1, 0x30000, .arrive 1, none⟩ meeting rfl meeting_memOk (by unfold Served; decide +kernel)).2.2.2.1 _ rfl)

theorem meets_CapabilityResults_9 : Obligations.CapabilityResults → Runs (.sliceAccess ⟨0, 0x20000, .load 8, none⟩) base := fun h =>
  ⟨_, (h.2.2.1 ⟨0, 0x20000, .load 8, none⟩ base rfl rfl (by unfold Served; decide +kernel)).1 8 (.inl rfl)⟩

theorem meets_CapabilityResults_10 : Obligations.CapabilityResults → Runs (.sliceAccess ⟨0, 0x2003F, .store [1, 2], none⟩) base := fun h =>
  runs ((h.2.2.1 ⟨0, 0x2003F, .store [1, 2], none⟩ base rfl rfl (by unfold Served; decide +kernel)).2.1 _ (.inl rfl))

theorem meets_CapabilityResults_11 : Obligations.CapabilityResults →
    Runs (.sliceAccess ⟨1, 0, .balloc false 1 0 5, none⟩) meeting := fun h =>
  runs (h.2.2.2.1 1 0 meeting false 1 0 5 _ rfl)

theorem meets_CapabilityResults_12 : Obligations.CapabilityResults →
    Runs (.sliceAccess ⟨1, 0, .bfree true (meeting.barSlot true 63).part 63, none⟩)
      (meeting.allotSlot true 63 (meeting.barSlot true 63).part 0 5) := fun h =>
  runs (h.2.2.2.2 1 0 _ true _ 63 (by decide) rfl rfl)

/-- A core with a circuit to core 1 under tag 2. -/
def circuit (idle : BitVec 32) : State :=
  { regs base [(4, 0x800000001), (5, 0x81000), (6, 0x80000), (7, 0x800000400)] with
    net := { base.net with circs := [⟨⟨1, 2⟩, 4, false, idle, 0⟩] }, cycle := 0x1000 }

theorem meets_CircuitResults_1 : Obligations.CircuitResults → Runs (.circ 8 4 5) (circuit 0) := fun h =>
  runs ((h.1.1 (.circ 8 4 5) _ _ _ _ rfl (circuit 0) (by decide +kernel) (by decide +kernel) rfl rfl).1 ⟨_, .head _, rfl⟩)

/-- A core that has no circuit but serves a key of its own. -/
def idleNet : State := regs base [(4, 0x800000000), (5, 0x81000), (6, 0x80000)]

theorem meets_CircuitResults_2 : Obligations.CircuitResults → Runs (.sopen 8 4 6) idleNet := fun h =>
  runs ((h.1.1 (.sopen 8 4 6) _ _ _ _ rfl idleNet (by decide +kernel) (by decide +kernel) rfl rfl).2.2.2
    (fun ⟨_, q, _⟩ => nomatch q) (by decide +kernel) (by decide) (fun _ => by decide +kernel) (by decide +kernel))

/-- A partition with a core on another die. -/
def far : State := { regs base [(4, 0x800000001), (5, 0x81000)] with pkg := { base.pkg with cores := [0, 0x400] } }

theorem meets_CircuitResults_3 : Obligations.CircuitResults → Runs (.circ 8 4 5) far := fun h =>
  runs ((h.1.1 (.circ 8 4 5) _ _ _ _ rfl far (by decide +kernel) (by decide +kernel) rfl rfl).2.1
    (fun ⟨_, q, _⟩ => nomatch q) (by decide +kernel))

/-- A core with eight circuits. -/
def eight : State := { regs base [(4, 0x800000001), (5, 0x81000)] with
  net := { base.net with circs := List.replicate 8 ⟨⟨3, 2⟩, 4, false, 0, 0⟩ } }

theorem meets_CircuitResults_4 : Obligations.CircuitResults → Runs (.circ 8 4 5) eight := fun h =>
  runs ((h.1.1 (.circ 8 4 5) _ _ _ _ rfl eight (by decide +kernel) (by decide +kernel) rfl rfl).2.2.1
    (by decide +kernel) (by decide +kernel) (by decide))

theorem meets_CircuitResults_5 : Obligations.CircuitResults → Runs (.circrel 4) (circuit 0) := fun h =>
  runs (h.1.2 (.circrel 4) _ _ rfl (circuit 0) (by decide +kernel))

theorem meets_CircuitResults_6 : Obligations.CircuitResults → Runs (.circuitIdleTimeout ⟨1, 2⟩) (circuit 0x1000) := fun h =>
  runs (h.2.1 ⟨1, 2⟩ (circuit 0x1000) ⟨_, .head _, rfl, rfl, by decide, by decide⟩)

/-- A core that has granted core 1 a circuit under tag 2, with a slot reserved for it. -/
def receiving : State := { base with net := { base.net with
  rcircs := [⟨1, 2, 0, 4, false, false⟩], circIds := 1, slots := base.net.slots.set 5 { Slot.empty with st := .reserved, circ := some 0 } } }

theorem meets_CircuitResults_7 : Obligations.CircuitResults → Runs (.closingMarker ⟨1, 0, 2⟩) receiving := fun h =>
  runs (h.2.2.1 ⟨1, 0, 2⟩ receiving _ rfl rfl)

/-- A halted core. -/
def halted (k : Halt) : State := { base with core := { base.core with halt := some k } }

theorem meets_CircuitResults_8 : Obligations.CircuitResults → Runs (.setupFlit ⟨1, 2, 4, 4, false, false⟩) (halted .stop) := fun h =>
  runs (h.2.2.2.1 ⟨1, 2, 4, 4, false, false⟩ (halted .stop) rfl)

theorem meets_CircuitResults_9 : Obligations.CircuitResults → Runs (.setupFlit ⟨1, 2, 1, 1, false, true⟩) base := fun h =>
  runs (h.2.2.2.2.1 ⟨1, 2, 1, 1, false, true⟩ base 0 ((List.range 31).map (fun i => BitVec.ofNat 5 (i + 1))) rfl rfl (by decide +kernel) rfl
    (by decide +kernel))

theorem meets_CircuitResults_10 : Obligations.CircuitResults → Runs (.setupGrant 1) { base with net := { base.net with setups := [⟨1, 2, 4, 4, true, false⟩] } } := fun h =>
  runs (h.2.2.2.2.2 1 { base with net := { base.net with setups := [⟨1, 2, 4, 4, true, false⟩] } } _ rfl rfl (by decide +kernel) rfl
    (by decide +kernel))

/-- Where nothing is poisoned no operand meets poison. -/
theorem sourceClean {s : State} (h : s.die.poison = []) (h' : s.die.gpoison = []) (o : Opnd) : s.sourcePoison o = .ok () := by
  have : ∀ l : List Elem, checks (l.map (fun e => s.loadPoison (o.reads e))) = .ok () := fun l => by
    induction l with
    | nil => rfl
    | cons e l ih => simpa only [List.map_cons, checks, clean h h'] using ih
  exact this _

theorem meets_EngineIssueResults_1 : Obligations.EngineIssueResults → Runs (.cp 1 2 0) three := fun h =>
  runs (h.1 (.cp 1 2 0) _ rfl three _ rfl (by decide +kernel) (fun _ => rfl) (by decide +kernel) (by decide))

theorem meets_EngineIssueResults_2 : Obligations.EngineIssueResults → Runs (.cp 4 2 7) (hands three [(4, ring 0x1000 1 1 4 0 0)]) := fun h =>
  runs (h.1 (.cp 4 2 7) _ rfl (hands three [(4, ring 0x1000 1 1 4 0 0)]) _ rfl (by decide +kernel) (fun _ => rfl) (by decide +kernel) (by decide))

/-- Matrices of one by two and two by one in the scratchpad, and a list of two indices. -/
def matrices : State :=
  hands three [(4, handle 0x1100 1 0 1 [(2, 1), (1, 1)]), (5, handle 0x1140 1 0 1 [(1, 2), (2, 1)]), (6, handle 0x1180 1 0 1 [(2, 2), (2, 1)]),
    (7, vec 0x11C0 9 2)]

theorem meets_EngineIssueResults_3 : Obligations.EngineIssueResults → Runs (.cpt 4 5 1) matrices := fun h =>
  runs (h.1 (.cpt 4 5 1) _ rfl matrices _ rfl (by decide +kernel) (fun _ => rfl) (by decide +kernel) (by decide))

theorem meets_EngineIssueResults_4 : Obligations.EngineIssueResults → Runs (.halo 1 2 2) (hands three [(1, vec 0x3C1000 1 2)]) := fun h =>
  runs (h.1 (.halo 1 2 2) _ rfl (hands three [(1, vec 0x3C1000 1 2)]) _ rfl (by decide +kernel) (fun _ => rfl) (by decide +kernel) (by decide))

theorem meets_EngineIssueResults_5 : Obligations.EngineIssueResults → Runs (.gath 6 5 7 3) matrices := fun h =>
  runs (h.2 6 5 7 3 matrices _ _ rfl (by decide) (by decide) (by decide) (by decide) (by decide) (by decide) (by decide) (by decide) (by decide)
    (fun _ => rfl) (fun _ => rfl) (fun _ => rfl) rfl (by decide))

theorem meets_EngineProgress_1 : Obligations.EngineProgress → Runs (.cpwp 5 0) base := fun h =>
  runs (h.1.1 5 0 base rfl)

theorem meets_EngineProgress_2 : Obligations.EngineProgress → Runs (.cpwait 7) base := fun h =>
  runs (h.1.2.1 7 base (by decide +kernel) rfl)

theorem meets_EngineProgress_3 : Obligations.EngineProgress → Runs (.engseq 5 6) (regs base [(6, 23)]) := fun h =>
  runs ((h.1.2.2.1 5 6 (regs base [(6, 23)]) (by decide +kernel) rfl).2 (by decide) (by decide))

theorem meets_EngineProgress_4 : Obligations.EngineProgress → Runs (.engseq 5 6) (regs base [(6, 39)]) := fun h =>
  runs (h.1.2.2.2.1 5 6 (regs base [(6, 39)]) (by decide) (by decide) rfl)

/-- A copy of H[2] to H[1] at the head of channel 0, with or without a fault. -/
def copying (f : Option EngFault) (ha : BitVec 256) : State :=
  let c : Cmd := ⟨7, false, 0, .cp, 0, 1, vec 0x1000 1 2, ha, [], none, none, 0x10000, none⟩
  { three with
    core := { three.core with chans := three.core.chans.set 0 { Chan.reset with queue := [c], pend := f } }
    run := { three.run with ctx := { three.run.ctx with iss := three.run.ctx.iss.set 0 1 } } }

theorem meets_EngineProgress_5 : Obligations.EngineProgress → Runs (.cpwait 0) (copying (some ⟨0x17, 0x1001, 0, none⟩) (vec 0x1040 1 2)) := fun h =>
  runs (h.1.2.2.2.2 0 (copying (some ⟨0x17, 0x1001, 0, none⟩) (vec 0x1040 1 2)) ⟨0x17, 0x1001, 0, none⟩ (by decide +kernel) rfl (by decide) (by decide) ⟨rfl, by decide⟩)

theorem meets_EngineProgress_6 : Obligations.EngineProgress → Runs (.engineUnit 0) (copying none (vec 0x1040 1 2)) := fun h =>
  runs ((h.2 0 (copying none (vec 0x1040 1 2)) _ ⟨rfl, rfl, rfl, by decide +kernel, by decide +kernel⟩).1 _ rfl (by decide +kernel))

theorem meets_EngineProgress_7 : Obligations.EngineProgress → Runs (.engineUnit 0) (copying none (vec 0x3FFFC 1 2)) := fun h =>
  runs ((h.2 0 (copying none (vec 0x3FFFC 1 2)) _ ⟨rfl, rfl, rfl, by decide +kernel, by decide +kernel⟩).2 _ _ rfl rfl)

/-- The state `base` with the two granules of a pair. -/
def paired : State :=
  { hands (regs base [(4, 0x80000), (5, 0x3F80)]) [(2, vec 0x2000 2 64)] with die := { base.die with pairs := [(0x80000, 0x90000), (0x90000, 0x80000)] } }

theorem meets_PairStoreResults_1 : Obligations.PairStoreResults → Runs (.pst 5 4 2) paired := fun h =>
  runs (h.1 (.pst 5 4 2) _ _ _ rfl paired _ _ _ (fun _ => rfl) (noRoom (by decide +kernel)) rfl rfl rfl rfl)

theorem meets_PairStoreResults_2 : Obligations.PairStoreResults → Runs (.pstb 2 4 128) paired := fun h =>
  runs (h.2 (.pstb 2 4 128) _ _ _ rfl paired _ _ _ _ (fun _ => rfl) (by decide) rfl (fun _ => rfl) rfl (by decide +kernel) (noRoom (by decide +kernel))
    rfl rfl rfl rfl rfl)

/-- Descriptors to core 1 under tag 0x12, and a code buffer in H[6] with a record of one code word. -/
def sending : State :=
  bytesAt (hands (regs windowed [(4, 0x4800000001), (5, 0), (6, 0x10004800000001), (7, 0x3FFF0), (8, 0x8004800000001), (9, 6), (10, 2 ^ 48 - 1)])
    [(6, BitVec.ofNat 256 ((handle 0x8000 1 4 12 [(64, 1)]).toNat + 2 * 2 ^ 216 + 2 ^ 228))])
    [(spHomeOf 0 0x8000, [0, 1, 0, 0, 1, 0, 0, 0])]

theorem sendable0 {s : State} {x y : Word} (h : plainDescriptor s x ∧ y.toNat < 16 ∧ ∃ i, s.rdW (y.setWidth 6) = some i ∧
    ((s.slot i).pkt.kind.toNat ≤ 2 ∨ (s.slot i).pkt.kind = 5)) : sendable s 0 x y := h

theorem meets_SendResults_1 : Obligations.SendResults → Runs (.send 11 4 5) sending := fun h =>
  runs (h.1.1 (.send 11 4 5) _ rfl rfl sending _ rfl (sendable0 ⟨⟨by decide, by decide⟩, by decide, 3, rfl, .inl (by decide)⟩))

theorem meets_SendResults_2 : Obligations.SendResults → Runs (.sendSp 11 6 7) sending := fun h =>
  runs (h.1.1 (.sendSp 11 6 7) _ rfl rfl sending _ rfl (by
    unfold sendable; exact ⟨by decide, by decide, by decide, by decide, by decide, by decide, by decide, by decide, .inr (cleanLine rfl rfl _ _)⟩))

theorem meets_SendResults_8 : Obligations.SendResults → Runs (.sendCode 11 4 9) sending := fun h =>
  runs (h.1.1 (.sendCode 11 4 9) _ rfl rfl sending _ rfl (by
    unfold sendable; exact ⟨⟨by decide, by decide⟩, by decide, by decide +kernel, by decide +kernel, sourceClean rfl rfl _, .inl (by decide +kernel),
      by decide +kernel, by decide +kernel⟩))

theorem meets_SendResults_3 : Obligations.SendResults → Runs (.spawn 11 8 10) sending := fun h =>
  runs (h.1.2 11 8 10 sending _ 1 _ rfl rfl (by decide) (by decide) (by decide) (by decide) rfl rfl (by decide) (by decide) (by decide))

theorem meets_SendResults_4 : Obligations.SendResults → Runs (.sendw 11 4 5) sending := fun h =>
  runs (h.2.1 (.sendw 11 4 5) _ rfl rfl sending _ rfl rfl (fun _ q => nomatch q) rfl (sendable0 ⟨⟨by decide, by decide⟩, by decide, 3, rfl, .inl (by decide)⟩))

theorem meets_SendResults_5 : Obligations.SendResults → Runs (.sendwNz 11 4 5) sending := fun h =>
  runs (h.2.1 (.sendwNz 11 4 5) _ rfl rfl sending _ rfl rfl (fun _ q => nomatch q) rfl (by
    unfold sendable; exact ⟨⟨by decide, by decide⟩, by decide, by decide, by decide, by decide, .inr (cleanLine rfl rfl _ _)⟩))

/-- A `sendw` that has sent a packet to core 1, which is still on its way, or not. -/
def sent (l : List Packet) : State :=
  { sending with run := { sending.run with sent := some (1, 1), stall := some .placement }, net := { sending.net with flight := l } }

theorem meets_SendResults_6 : Obligations.SendResults → Runs (.sendw 11 4 5) (sent []) := fun h =>
  runs (h.2.2.1 (.sendw 11 4 5) _ rfl rfl (sent []) _ _ rfl (fun _ q => nomatch q) (.inr rfl))

theorem meets_SendResults_7 : Obligations.SendResults → Runs .placementAcknowledgement (sent [{ letter with dest := 1 }]) := fun h =>
  ⟨_, h.2.2.2 (sent [{ letter with dest := 1 }]) { letter with dest := 1 } [] [] _ _ rfl rfl (fun _ q => nomatch q) (by decide) rfl (fun _ q => nomatch q) rfl⟩

theorem meets_ActivationControl_1 : Obligations.ActivationControl → Runs .ckpt { base with run := { base.run with log := [⟨0x20000, 7⟩] } } := fun h =>
  runs (h.1.1 { base with run := { base.run with log := [⟨0x20000, 7⟩] } } (by decide +kernel))

theorem meets_ActivationControl_2 : Obligations.ActivationControl → Runs .yield base := fun h =>
  let ⟨t, _, _, e, _⟩ := h.1.2.1 base _ (by decide +kernel) rfl rfl
  ⟨t, e⟩

theorem meets_ActivationControl_3 : Obligations.ActivationControl → Runs (.relw 0) windowed := fun h =>
  runs (h.1.2.2.1 0 windowed _ rfl)

theorem meets_ActivationControl_4 : Obligations.ActivationControl → Runs (.wcnt 5 1) windowed := fun h =>
  runs (h.1.2.2.2.1 5 1 windowed (.inl (by decide +kernel)))

/-- The activation has another packet of its tag in the queue. -/
def claiming : State :=
  { windowed with net := { windowed.net with
      slots := windowed.net.slots.set 4 ⟨.queued, letter, none, 0, none, 0, 0, 0⟩
      queue := [⟨4, 0, 0, 0, none, .fresh⟩] } }

theorem meets_ActivationControl_5 : Obligations.ActivationControl → Runs (.wcnt 5 15) claiming := fun h =>
  let ⟨t, _, e, _⟩ := h.1.2.2.2.2.1 5 15 claiming ⟨4, 0, 0, 0, none, .fresh⟩ (by decide) rfl (by decide +kernel)
  ⟨t, e⟩

theorem meets_ActivationControl_6 : Obligations.ActivationControl → Runs (.tstamp 5) base := fun h =>
  runs (h.1.2.2.2.2.2 5 base _ rfl)

theorem meets_ActivationControl_7 : Obligations.ActivationControl → Runs .endAct windowed := fun h =>
  runs (h.2.1 windowed (by decide +kernel) rfl rfl (by decide +kernel) (by decide +kernel))

theorem meets_ActivationControl_8 : Obligations.ActivationControl → Runs .abort windowed := fun h =>
  runs (h.2.2 windowed rfl (by decide +kernel) rfl)

theorem meets_PlacementAndStart_1 : Obligations.PlacementAndStart → Runs (.packetPlacement { letter with kind := 4 }) base := fun h =>
  ⟨_, h.1 { letter with kind := 4 } base (.inr rfl)⟩

theorem meets_PlacementAndStart_2 : Obligations.PlacementAndStart → Runs (.packetPlacement letter) (halted .preempt) := fun h =>
  ⟨_, h.2.1 letter (halted .preempt) (by decide) (by decide) (by decide) (.inl rfl)⟩

/-- A core with no free slot. -/
def crammed : State := { base with net := { base.net with slots := Vector.replicate 32 { Slot.empty with st := .held, pkt := letter, bindings := 1 } } }

theorem meets_PlacementAndStart_8 : Obligations.PlacementAndStart → Runs (.packetPlacement letter) crammed := fun h =>
  runs (h.2.2.1 letter crammed (by decide) (by decide) (by decide) rfl (by decide +kernel) (fun _ q => nomatch q))

theorem meets_PlacementAndStart_3 : Obligations.PlacementAndStart → Runs (.packetPlacement letter) base := fun h =>
  runs (h.2.2.2.1 letter base 0 (by decide) (by decide) (by decide) rfl (fun _ q => nomatch q)
    ⟨rfl, rfl, by decide, by decide, rfl, fun _ q => nomatch q⟩ rfl)

/-- The entry of tag 0x11. -/
def bound : BindEntry := ⟨0x20000, true, 2, 0, 1, 0x11⟩

/-- A core that runs nothing, with a packet held unbound in slot 4, or bound and queued. -/
def arrived (e : Option BindEntry) : State :=
  { base with
    run := Run.reset
    net := { base.net with
      slots := base.net.slots.set 4 ⟨.queued, letter, e, 0, none, 0, 0, 0⟩
      queue := if e.isSome then [⟨4, 1, 0, 0, none, .fresh⟩] else [] } }

theorem meets_PlacementAndStart_4 : Obligations.PlacementAndStart → Runs (.unboundArrivalAnswer 4 (some bound)) (arrived none) := fun h =>
  runs (h.2.2.2.2.1 4 (arrived none) bound rfl rfl rfl rfl rfl (by decide +kernel) rfl)

theorem meets_PlacementAndStart_5 : Obligations.PlacementAndStart → Runs (.unboundArrivalAnswer 4 none) (arrived none) := fun h =>
  runs (h.2.2.2.2.2.1 4 (arrived none) rfl rfl rfl)

theorem meets_PlacementAndStart_6 : Obligations.PlacementAndStart → Runs .activationStart (arrived (some bound)) := fun h =>
  let ⟨t, _, e, _⟩ := h.2.2.2.2.2.2.1 (arrived (some bound)) ⟨4, 1, 0, 0, none, .fresh⟩ bound rfl rfl rfl rfl (by decide +kernel) rfl rfl
  ⟨t, e⟩

/-- A core with an activation that has given way. -/
def yielded : State :=
  { base with run := Run.reset, net := { base.net with
      slots := base.net.slots.set 0 ⟨.held, letter, some bound, 1, none, 0, 0, 0⟩
      queue := [⟨0, 0, 0, 0, none, .yielded (base.savedAct act)⟩] } }

theorem meets_PlacementAndStart_7 : Obligations.PlacementAndStart → Runs .activationStart yielded := fun h =>
  runs (h.2.2.2.2.2.2.2 yielded ⟨0, 0, 0, 0, none, .yielded (base.savedAct act)⟩ _ rfl rfl rfl rfl (by decide +kernel) (.inl rfl))

/-- A held add of core 1 to the cell at 0x50000. -/
def heldAdd : HeldReq := ⟨1, 0x50000, .add, none⟩

theorem meets_CommitEvents_1 : Obligations.CommitEvents → Runs (.heldRequest heldAdd) base := fun h =>
  runs (h.1 heldAdd base (by decide) (fun q => nomatch q))

/-- A held write of a line in another package, for which the core's package holds no lease. -/
def heldLine : HeldReq := ⟨0, 2 ^ 42, .line, none⟩

theorem meets_CommitEvents_2 : Obligations.CommitEvents → base.heldVerdict heldLine = (false, true) := fun h =>
  h.2.1 heldLine base rfl (by decide +kernel)

/-- A held set of core 1. -/
def heldSet : HeldReq := ⟨1, 0x50000, .set, none⟩

theorem meets_CommitEvents_3 : Obligations.CommitEvents → Runs (.applyNotice heldSet [] 5) { base with die := { base.die with held := [heldSet] } } := fun h =>
  runs (h.2.2.1 heldSet [] 5 { base with die := { base.die with held := [heldSet] } } (by decide) (.head _) rfl (fun q => nomatch q) rfl)

theorem meets_CommitEvents_4 : Obligations.CommitEvents → Runs (.applyNotice heldSet [] 5) base := fun h =>
  ⟨_, h.2.2.2.1 heldSet [] 5 base (fun q => nomatch q)⟩

/-- A commit of the core's own that has asked its home for an add, with the answer there. -/
def answered (ok : Bool) : State :=
  { base with
    run := { base.run with commit := some ⟨[⟨0, 0x50000, .add, none⟩], [], false, false⟩, adj := [(0x50000, .add 0x3F800000)], stall := some .hold }
    die := { base.die with answers := [(⟨0, 0x50000, .add, none⟩, ok, false)] } }

theorem meets_CommitEvents_5 : Obligations.CommitEvents → Runs .holdAnswer (answered true) := fun h =>
  let ⟨t, _, e, _⟩ := h.2.2.2.2.2.1 (answered true) _ _ _ _ rfl rfl rfl rfl rfl
  ⟨t, e⟩

theorem meets_CommitEvents_6 : Obligations.CommitEvents → Runs .holdAnswer (answered false) := fun h =>
  runs (h.2.2.2.2.2.2.1 (answered false) _ _ _ rfl rfl rfl rfl rfl rfl)

theorem meets_CommitEvents_7 : Obligations.CommitEvents → Runs (.dropNotice heldSet) base := fun h =>
  ⟨_, h.2.2.2.2.1 heldSet base (by decide)⟩

/-- The packet of the window has filled a slot of a circuit with transfers left. -/
def carriedIn : State := { windowed with net := { windowed.net with
    rcircs := [⟨1, 0x11, 0, 3, false, false⟩], slots := windowed.net.slots.set 3 ⟨.held, letter, none, 1, some 0, 0, 0, 0⟩ } }

theorem meets_ActivationControl_9 : Obligations.ActivationControl → (carriedIn.slot 3).circ = some 0 ∧ Runs (.relw 0) carriedIn := fun h =>
  ⟨rfl, runs (h.1.2.2.1 0 carriedIn _ rfl)⟩

theorem meets_ClockAndPreemption_1 : Obligations.ClockAndPreemption → Runs (.preempt true) (halted .stop) := fun h =>
  ⟨_, h.2.1 true (halted .stop) (.inl (by decide))⟩

theorem meets_ClockAndPreemption_2 : Obligations.ClockAndPreemption → Runs (.preempt false) waiting := fun h =>
  runs (h.2.2.1 false waiting rfl rfl (.inr (.inl (by decide))) (by decide) (by decide))

/-- A core whose speculative activation waits at a checkpoint. -/
def speculating : State := { base with run := { base.run with
  act := some { act with speculative := true, ts := 5 }, stall := some .speculation, log := [⟨0x20000, 7⟩] } }

theorem meets_ClockAndPreemption_3 : Obligations.ClockAndPreemption → Runs (.preempt false) speculating := fun h =>
  runs (h.2.2.2.2.1 false speculating rfl rfl (fun q => nomatch q) rfl)

theorem meets_ClockAndPreemption_12 : Obligations.ClockAndPreemption → Runs (.preempt false) { waiting with run := { waiting.run with stall := some .idle } } := fun h =>
  runs (h.2.2.2.1 false { waiting with run := { waiting.run with stall := some .idle } } rfl rfl rfl)

theorem meets_ClockAndPreemption_4 : Obligations.ClockAndPreemption → Runs (.preempt true) base := fun h =>
  runs (h.2.2.2.2.2.1 true base rfl rfl (fun q => nomatch q) rfl rfl rfl rfl rfl)

theorem meets_ClockAndPreemption_5 : Obligations.ClockAndPreemption → Runs .contextSave (halted .preempt) := fun h =>
  let ⟨t, _, e, _⟩ := h.2.2.2.2.2.2.1 (halted .preempt) _ rfl rfl rfl
  ⟨t, e⟩

theorem meets_ClockAndPreemption_6 : Obligations.ClockAndPreemption → Runs (.contextResume 0) (halted .preempt) := fun h =>
  runs (h.2.2.2.2.2.2.2.1 0 (halted .preempt) rfl rfl rfl)

/-- The kernel of KSEL 0 as an install leaves it. -/
def kernel (k : BitVec 4) : Kernel := ⟨k, 0, [], [], [], [], false, [], [], [], 0⟩

/-- A core with the context of an activation that the firmware has saved, doomed or not. -/
def savedCore (doomed : Bool) : State :=
  { base with run := Run.reset, net := { base.net with kernels := [kernel 0] }
              saved := [⟨base.run, 0x18000, Enc.reset, [], [], Tape.reset, CoreSt.reset.chans, [(5, 7)], doomed⟩] }

theorem meets_ClockAndPreemption_7 : Obligations.ClockAndPreemption → Runs (.contextResume 0) (savedCore false) := fun h =>
  runs (h.2.2.2.2.2.2.2.2.1 0 (savedCore false) _ _ rfl rfl rfl rfl rfl rfl)

theorem meets_ClockAndPreemption_8 : Obligations.ClockAndPreemption → Runs (.contextResume 0) (savedCore true) := fun h =>
  let ⟨t, e, _, _, _, _, _, q, _⟩ := h.2.2.2.2.2.2.2.2.1 0 (savedCore true) _ _ rfl rfl rfl rfl rfl rfl
  have _ := q rfl rfl
  ⟨t, e⟩

theorem meets_ClockAndPreemption_9 : Obligations.ClockAndPreemption → Runs (.clockChange 1200) base := fun h =>
  ⟨_, (h.2.2.2.2.2.2.2.2.2.1 1200 base (by decide) (by decide) (by decide)).1⟩

theorem meets_ClockAndPreemption_10 : Obligations.ClockAndPreemption → Runs (.thermalThrottle 1750) base := fun h =>
  runs ((h.2.2.2.2.2.2.2.2.2.1 1750 base (by decide) (by decide) (by decide)).2 (by decide))

theorem meets_ClockAndPreemption_11 : Obligations.ClockAndPreemption → Runs .thermalResume { halted .preempt with pkg := { base.pkg with thermalHold := true } } := fun h =>
  runs (h.2.2.2.2.2.2.2.2.2.2.2.1 { halted .preempt with pkg := { base.pkg with thermalHold := true } } rfl)

theorem meets_ClockAndPreemption_13 : Obligations.ClockAndPreemption → Runs .thermalPreemption (halted .brk) := fun h =>
  runs (h.2.2.2.2.2.2.2.2.2.2.1 (halted .brk) rfl)

/-- A core that heat has stopped, with the context of its activation saved. -/
def cooling : State :=
  { savedCore false with
    core := { base.core with halt := some .preempt }
    pkg := { base.pkg with thermalHold := true, thermalSaved := true } }

theorem meets_ClockAndPreemption_14 : Obligations.ClockAndPreemption → Runs .thermalResume cooling := fun h =>
  let ⟨t, e, _, _, q⟩ := h.2.2.2.2.2.2.2.2.2.2.2.1 cooling rfl
  have _ := q [] _ _ rfl rfl rfl rfl rfl
  ⟨t, e⟩

/-- The image of a kernel with no sections. -/
def image : KernelImage := ⟨[], [], [0x0000010000000012], [], []⟩

/-- A kernel with no sections, and one handler of tag 0x12 at offset 0x100 of its code. -/
def plan : KernelPlan where
  ksel := 1
  part := 0
  root1 := 0
  root2 := 0
  asid := 1
  writes := [(0x1000, 1)]
  access := []
  image := image
  code := 0x20000
  dataBase := 0x30000
  bases := []
  tables := []
  tape := none
  clusterShared := false
  places := [5]
  clusters := -1
  cores := -1
  prios := []
  named := KernelImage.digest image
  inputs := []
  launch := none

theorem plan_named : base.installRefusal plan = none := by
  have h : (KernelImage.digest plan.image != plan.named) = false := bne_self_eq_false _
  unfold State.installRefusal
  rw [h]
  rfl

theorem meets_KernelAndPartitionEvents_1 : Obligations.KernelAndPartitionEvents → Runs (.kernelInstall plan) base := fun h =>
  let ⟨t, _, e, _⟩ := h.1.1 plan base rfl rfl (by decide +kernel) plan_named
  ⟨t, e⟩

/-- SHAKE256 of no bytes begins with 0x46. -/
theorem test_shake_empty : (shake256 [] 1) = [0x46] := by decide +kernel

theorem plan_taken : Taken base (recordOf plan 0x0000010000000012) ∧ hasRoom base :=
  ⟨⟨rfl, by decide +kernel, by decide, rfl⟩, ⟨BindEntry.empty, by decide +kernel, rfl⟩⟩

/-- A core on which that kernel is installed already. -/
def installed : State := { base with net := { base.net with kernels := [kernel 1] } }

theorem meets_KernelAndPartitionEvents_2 : Obligations.KernelAndPartitionEvents → Runs (.kernelInstall { plan with part := 3 }) base := fun h =>
  ⟨_, h.1.2.1 { plan with part := 3 } base (.inr (.inl (by decide)))⟩

theorem meets_KernelAndPartitionEvents_3 : Obligations.KernelAndPartitionEvents → Runs (.kernelInstall plan) installed := fun h =>
  ⟨_, h.1.2.2.1 plan installed 3 rfl rfl (by decide +kernel) rfl⟩

theorem meets_KernelAndPartitionEvents_4 : Obligations.KernelAndPartitionEvents →
    State.installRefusal { base with net := { base.net with kernels := [{ kernel 2 with tape := true }] } }
      { plan with tape := some ⟨0x100000, 65536, []⟩ } = some 2 := fun h =>
  h.1.2.2.2.1 { plan with tape := some ⟨0x100000, 65536, []⟩ } { base with net := { base.net with kernels := [{ kernel 2 with tape := true }] } }
    (fun q => nomatch q) ⟨_, .head _, rfl⟩ (by decide +kernel)

theorem meets_KernelAndPartitionEvents_5 : Obligations.KernelAndPartitionEvents → Runs (.kernelRemoval 0) base := fun h =>
  ⟨_, h.1.2.2.2.2.2.1 0 base (by decide +kernel)⟩

theorem meets_KernelAndPartitionEvents_6 : Obligations.KernelAndPartitionEvents → Runs (.kernelRemoval 1) installed := fun h =>
  runs (h.1.2.2.2.2.2.2 1 installed (by decide +kernel))

/-- A core that runs nothing, in deterministic mode or not. -/
def quiet (det : Bool) : State := { base with run := Run.reset, pkg := { base.pkg with det := det } }

theorem meets_KernelAndPartitionEvents_7 : Obligations.KernelAndPartitionEvents → Runs (.partitionSwitch 2) (quiet false) := fun h =>
  runs (h.2.1 2 (quiet false) rfl rfl (by decide))

theorem meets_KernelAndPartitionEvents_8 : Obligations.KernelAndPartitionEvents → Runs (.partitionSwitch 2) base := fun h =>
  ⟨_, h.2.2.1 2 base (fun q => nomatch q) (fun q => nomatch q)⟩

theorem meets_KernelAndPartitionEvents_9 : Obligations.KernelAndPartitionEvents → Runs (.partitionSwitch 2) (halted .preempt) := fun h =>
  runs (h.2.2.2.1 2 (halted .preempt) _ rfl rfl rfl (by decide) rfl)

/-- A fault on a read of 0x70000. -/
def faultRec : FaultRec := ⟨0x10000, 0, 0x70000, 0, .read, 0, 3, false, 0x13⟩

/-- A core with a parked activation, that runs one with its own fault in place or none. -/
def parking (inPlace : Bool) : State :=
  if inPlace then { base with parked := [⟨base.savedAct act, faultRec, 0, 0⟩], inPlace := some faultRec }
  else { quiet false with parked := [⟨base.savedAct act, faultRec, 0, 0⟩] }

theorem meets_KernelAndPartitionEvents_10 : Obligations.KernelAndPartitionEvents → Runs (.parkedActivationReturn 0 false) (parking false) := fun h =>
  let ⟨t, _, e, _⟩ := h.2.2.2.2.1 0 (parking false) _ rfl rfl
  ⟨t, e⟩

theorem meets_KernelAndPartitionEvents_11 : Obligations.KernelAndPartitionEvents → Runs (.parkedActivationReturn 0 true) (parking false) := fun h =>
  runs (h.2.2.2.2.2.1 0 (parking false) _ rfl rfl)

theorem meets_KernelAndPartitionEvents_12 : Obligations.KernelAndPartitionEvents → Runs (.parkedActivationReturn 0 false) (parking true) := fun h =>
  let ⟨t, _, e, _⟩ := h.2.2.2.2.2.2.1 0 (parking true) _ _ _ rfl (by decide) rfl rfl
  ⟨t, e⟩

theorem meets_KernelAndPartitionEvents_13 : Obligations.KernelAndPartitionEvents → Runs (.parkedActivationReturn 8 true) (parking true) := fun h =>
  runs (h.2.2.2.2.2.2.2.1 8 (parking true) _ rfl rfl).2

/-- A record that binds tag 0x11 on every core. -/
def bindAll : SlotRecord := ⟨0x20000, -1, -1, true, 2, 0, 1, 0x11⟩

theorem meets_KernelAndPartitionEvents_14 : Obligations.KernelAndPartitionEvents → Runs (.slotRecordWrite 5 bindAll 0) base := fun h =>
  runs (h.2.2.2.2.2.2.2.2.1 5 bindAll base ⟨rfl, by decide +kernel, by decide, rfl⟩ (.inl (by decide +kernel)) ⟨BindEntry.empty, by decide +kernel, rfl⟩)

theorem meets_KernelAndPartitionEvents_15 : Obligations.KernelAndPartitionEvents → Runs (.slotRecordWrite 5 { bindAll with part := 9 } 0) base := fun h =>
  ⟨_, (h.2.2.2.2.2.2.2.2.2.1 5 { bindAll with part := 9 } 0 base rfl (by decide)).1 (by decide +kernel) (by decide)⟩

/-- A core on which tag 0x11 is bound by another record. -/
def boundCore : State := { base with net := { base.net with binds := base.net.binds.set 0 ⟨0x30000, true, 2, 0, 1, 0x11⟩ } }

theorem meets_KernelAndPartitionEvents_16 : Obligations.KernelAndPartitionEvents → Runs (.slotRecordWrite 5 bindAll 0) boundCore := fun h =>
  ⟨_, (h.2.2.2.2.2.2.2.2.2.1 5 bindAll 0 boundCore rfl (by decide)).2.1 ⟨rfl, by decide +kernel, by decide, rfl⟩
    (fun q => q.elim (fun q => absurd q (by decide +kernel)) (fun ⟨_, q, _⟩ => nomatch q))⟩

/-- A core with every bind entry taken by another tag. -/
def fullBinds : State := { base with net := { base.net with binds := Vector.replicate 64 ⟨0x30000, true, 2, 0, 1, 0x10⟩ } }

theorem meets_KernelAndPartitionEvents_17 : Obligations.KernelAndPartitionEvents → Runs (.slotRecordWrite 5 bindAll 0) fullBinds := fun h =>
  ⟨_, (h.2.2.2.2.2.2.2.2.2.1 5 bindAll 0 fullBinds rfl (by decide)).2.2.1 ⟨rfl, by decide +kernel, by decide, rfl⟩ (.inl (by decide +kernel))
    (fun ⟨v, hv, q⟩ => absurd (List.all_eq_true.mp (by decide +kernel : fullBinds.net.binds.toList.all (·.valid) = true) v hv) (by simp [q]))⟩

theorem meets_KernelAndPartitionEvents_18 : Obligations.KernelAndPartitionEvents → Runs (.slotRecordWrite 5 { bindAll with clusters := 0, cores := 0 } 1) base := fun h =>
  ⟨_, (h.2.2.2.2.2.2.2.2.2.1 5 { bindAll with clusters := 0, cores := 0 } 1 base rfl (by decide)).2.2.2 (.inl (by decide +kernel)) (by decide)⟩

theorem meets_KernelAndPartitionEvents_19 : Obligations.KernelAndPartitionEvents →
    Runs (.slotRecordWrite 5 { bindAll with valid := false } 0) { boundCore with die := { base.die with slotTable := [(5, bindAll)] } } := fun h =>
  runs (h.2.2.2.2.2.2.2.2.2.2 5 { bindAll with valid := false } 0 { boundCore with die := { base.die with slotTable := [(5, bindAll)] } } bindAll rfl
    (by decide +kernel))

theorem meets_QuantumEvents_1 : Obligations.QuantumEvents → Runs .quantumEnd { quiet true with die := { base.die with deferred := [(0x50000, 3, 0x3F800000)] } } := fun h =>
  runs (h.1 { quiet true with die := { base.die with deferred := [(0x50000, 3, 0x3F800000)] } } rfl (by decide +kernel) rfl rfl (by decide +kernel))

theorem meets_QuantumEvents_2 : Obligations.QuantumEvents → Runs .quantumEnd base := fun h =>
  ⟨_, h.2 base (.inl rfl)⟩

theorem meets_KernelAndPartitionEvents_20 : Obligations.KernelAndPartitionEvents →
    State.installRefusal base { plan with named := [] } = some 4 := fun h =>
  h.1.2.2.2.2.1 { plan with named := [] } base (by decide +kernel) (fun _ q => nomatch q) (by decide +kernel)

theorem meets_HomeEvents_1 : Obligations.HomeEvents → Runs (.hbmFill 2 0) base := fun h =>
  runs (h.1.2.1 2 0 base (by decide +kernel) rfl)

theorem meets_HomeEvents_2 : Obligations.HomeEvents → Runs (.tlbWalk 0x20000 .read) base := fun h =>
  runs (h.1.2.2.2.2.2.1 0x20000 .read base (by decide))

/-- A core that waits for a translation it has by now. -/
def walking : State := { base with run := { base.run with stall := some (.walk 0x20000 .read) } }

theorem meets_HomeEvents_3 : Obligations.HomeEvents → Runs (.tlbWalk 0x20000 .read) walking := fun h =>
  runs (h.1.2.2.2.2.2.2.1 0x20000 .read walking _ rfl rfl)

/-- Page tables at 0, whose one leaf maps granule 2, as a granule or in 2 MiB. -/
def tabled (large : Bool) : State :=
  bytesAt base ([(0, bytesOf 16 (1 + 2 ^ 40)), (0x10000, bytesOf 16 (1 + 2 * 2 ^ 40))] ++
    if large then [(0x20000, bytesOf 16 3)] else [(0x20000, bytesOf 16 (1 + 3 * 2 ^ 40)), (0x30000, bytesOf 16 (3 + 2 * 2 ^ 40))])

theorem found {m : Memory} {g level w : Nat} {ls : List (Nat × Nat × Nat × Bool)} {lo table : Nat} {ok : Bool} {x : Nat × Nat} (hw : 2 ^ w ≠ 0)
    (h1 : (Pte.of (m.nat (table + 16 * 0) 16)).v = true) (h2 : (Pte.of (m.nat (table + 16 * 0) 16)).leaf = false)
    (h3 : leafOf m g ls (Pte.of (m.nat (table + 16 * 0) 16)).out = some x) :
    leafOf m g ((level, lo, w, ok) :: ls) table = some x := by
  obtain ⟨n, hn⟩ := Nat.exists_eq_succ_of_ne_zero hw
  unfold leafOf
  rw [hn, List.range_succ_eq_map, List.findSome?_cons]
  simp only [h1, h2, h3, Bool.not_true, Bool.false_eq_true, if_false]

/-- A leaf is the first entry of its table. -/
theorem foundLeaf {m : Memory} {g level w : Nat} {ls : List (Nat × Nat × Nat × Bool)} {lo table : Nat} {ok : Bool} (hw : 2 ^ w ≠ 0)
    (h1 : (Pte.of (m.nat (table + 16 * 0) 16)).v = true) (h2 : (Pte.of (m.nat (table + 16 * 0) 16)).leaf = true)
    (h3 : (Pte.of (m.nat (table + 16 * 0) 16)).out / 65536 ≤ g)
    (h4 : g < (Pte.of (m.nat (table + 16 * 0) 16)).out / 65536 + 2 ^ lo / 65536) :
    leafOf m g ((level, lo, w, ok) :: ls) table = some (table + 16 * 0, level) := by
  obtain ⟨n, hn⟩ := Nat.exists_eq_succ_of_ne_zero hw
  unfold leafOf
  rw [hn, List.range_succ_eq_map, List.findSome?_cons]
  simp only [h1, h2, h3, h4, Bool.not_true, Bool.false_eq_true, if_false, if_true, decide_true, Bool.and_self]

theorem small_leaf : (tabled false).leafOf (tabled false).die.mem 2 = some (0x30000, 3) :=
  found (by decide) (by decide +kernel) (by decide +kernel) (found (by decide) (by decide +kernel) (by decide +kernel)
    (found (by decide) (by decide +kernel) (by decide +kernel) (foundLeaf (by decide) (by decide +kernel) (by decide +kernel)
      (by decide +kernel) (by decide +kernel))))

theorem large_leaf : (tabled true).leafOf (tabled true).die.mem 2 = some (0x20000, 2) :=
  found (by decide) (by decide +kernel) (by decide +kernel) (found (by decide) (by decide +kernel) (by decide +kernel)
    (foundLeaf (by decide) (by decide +kernel) (by decide +kernel) (by decide +kernel) (by decide +kernel)))

theorem meets_HomeEvents_4 : Obligations.HomeEvents → Runs (.migration 2 7 []) (tabled false) := fun h =>
  runs (h.1.2.2.2.2.2.2.2.1 2 7 [] (tabled false) (by decide) (by decide +kernel) (fun p hp => by
    obtain rfl : p = (2, 7) := by simpa using hp
    exact ⟨by decide, by decide +kernel, _, small_leaf⟩))

theorem meets_HomeEvents_5 : Obligations.HomeEvents → Runs (.migration 2 7 [9]) (tabled true) := fun h =>
  runs (h.1.2.2.2.2.2.2.2.2.1 2 7 9 (tabled true) _ (by decide) (by decide +kernel) (by decide) (by decide +kernel) large_leaf
    (by unfold State.MemOk; decide +kernel))

/-- A granule that is being copied to a new frame. -/
def moving : State := { base with die := { base.die with migrating := [(2, [(2, 7)])], grans := [(2, { Granule.default with mig := true })] } }

theorem meets_HomeEvents_6 : Obligations.HomeEvents → Runs (.migrationCopyComplete 2 .fault) moving := fun h =>
  runs (h.1.2.2.2.2.2.2.2.2.2.1 2 moving _ rfl).1

theorem meets_HomeEvents_7 : Obligations.HomeEvents → Runs (.migrationCopyComplete 2 .done) moving := fun h =>
  runs (h.1.2.2.2.2.2.2.2.2.2.2.1 2 moving 7 rfl (fun _ _ => rfl) rfl (by decide) rfl)

theorem meets_HomeEvents_8 : Obligations.HomeEvents → Runs (.leaseRecall 5) { base with die := { base.die with held := [⟨1, 0x50004, .add, none⟩] } } := fun h =>
  ⟨_, h.1.2.2.2.2.2.2.2.2.2.2.2.1 5 { base with die := { base.die with held := [⟨1, 0x50004, .add, none⟩] } } (by decide +kernel)⟩

theorem meets_HomeEvents_9 : Obligations.HomeEvents → Runs (.leaseRecall 5) base := fun h =>
  runs (h.1.2.2.2.2.2.2.2.2.2.2.2.2.1 5 base (by decide +kernel))

theorem meets_HomeEvents_10 : Obligations.HomeEvents → Runs (.hbmFill 2 0) { base with die := { base.die with cached := [2] } } := fun h =>
  ⟨_, h.1.1 2 0 { base with die := { base.die with cached := [2] } } (.inr (by decide))⟩

theorem meets_HomeEvents_11 : Obligations.HomeEvents → Runs (.uncorrectableError (.unit 1 4)) base := fun h =>
  runs (h.2.2.1 1 4 base (by decide) (by decide) rfl)

theorem meets_HomeEvents_12 : Obligations.HomeEvents → Runs (.uncorrectableError (.linkEntry false)) passing := fun h =>
  ⟨_, (h.2.2.2.2.2.2.1 passing _ _ rfl).1 rfl⟩

theorem meets_HomeEvents_13 : Obligations.HomeEvents → Runs (.uncorrectableError (.slot false 31)) base := fun h =>
  runs (h.2.2.2.2.2.2.2.1 false 31 base (by decide))

/-- A good boot, and one whose image is not. -/
def boot (ok : Bool) : BootResult := ⟨true, [1], ok, true, true, 3⟩

theorem meets_PackageEvents_1 : Obligations.PackageEvents → Runs (.boot (boot true)) State.reset := fun h =>
  runs (h.1 (boot true) State.reset rfl rfl rfl rfl rfl rfl)

theorem meets_PackageEvents_2 : Obligations.PackageEvents → Runs (.boot (boot false)) State.reset := fun h =>
  runs (h.2.1 (boot false) State.reset rfl rfl (.inr rfl))

theorem meets_PackageEvents_8 : Obligations.PackageEvents → Runs (.boot { boot true with trainOk := false }) State.reset := fun h =>
  runs (h.2.2.1 { boot true with trainOk := false } State.reset rfl rfl rfl rfl (.inl rfl))

theorem meets_PackageEvents_3 : Obligations.PackageEvents → Runs (.attestationRequest (List.replicate 32 9)) base := fun h =>
  let ⟨t, _, e, _⟩ := h.2.2.2.1 (List.replicate 32 9) base rfl rfl
  ⟨t, e⟩

/-- A state in which every master may read and write the first granules. -/
def opened : State := { base with die := { base.die with access := [⟨0, 2 ^ 35, 0, 0xFFFFF, true, true, false⟩] } }

theorem meets_PackageEvents_4 : Obligations.PackageEvents → Runs (.hostBarAccess ⟨2, true, 0x20000, 4, [1, 2, 3, 4], none⟩) base := fun h =>
  ⟨_, (h.2.2.2.2.1 ⟨2, true, 0x20000, 4, [1, 2, 3, 4], none⟩ base rfl (by decide)).1 (by decide +kernel)⟩

theorem meets_PackageEvents_5 : Obligations.PackageEvents → Runs (.hostBarAccess ⟨2, false, 0x2003E, 4, [], none⟩) opened := fun h =>
  ⟨_, (h.2.2.2.2.1 ⟨2, false, 0x2003E, 4, [], none⟩ opened rfl (by decide)).2 (by decide +kernel) rfl (fun _ _ => rfl)⟩

theorem meets_PackageEvents_6 : Obligations.PackageEvents → Runs (.hostDma ⟨8, false, 0, 4, [], none⟩) base := fun h =>
  ⟨_, h.2.2.2.2.2.1 ⟨8, false, 0, 4, [], none⟩ base (.inl (by decide))⟩

theorem meets_PackageEvents_7 : Obligations.PackageEvents → Runs (.hostDma ⟨7, true, 0x20000, 2, [1, 2], none⟩) opened := fun h =>
  runs ((h.2.2.2.2.2.2.1 ⟨7, true, 0x20000, 2, [1, 2], none⟩ opened (by decide) (by decide) rfl (by decide +kernel)).1 (by decide +kernel) rfl (by decide +kernel))

theorem meets_PackageEvents_9 : Obligations.PackageEvents →
    Runs (.hostDma ⟨7, true, 0x20000, 2, [1, 2], none⟩) { opened with die := { opened.die with grans := [(2, { Granule.default with mig := true })] } } := fun h =>
  ⟨_, (h.2.2.2.2.2.2.1 ⟨7, true, 0x20000, 2, [1, 2], none⟩ { opened with die := { opened.die with grans := [(2, { Granule.default with mig := true })] } } (by decide) (by decide) rfl (by decide +kernel)).2.2
    (.inl ⟨2, by decide +kernel, by decide +kernel⟩)⟩


theorem meets_PackageEvents_10 : Obligations.PackageEvents → Runs (.managementEthernetFrame (.firmwareUpdate [7])) base := fun h =>
  ⟨_, h.2.2.2.2.2.2.2.2.1 [7] base rfl⟩

theorem meets_PackageEvents_11 : Obligations.PackageEvents → Runs (.managementEthernetFrame (.recovery [7])) State.reset := fun h =>
  ⟨_, h.2.2.2.2.2.2.2.2.2.1 [7] State.reset rfl⟩

theorem meets_PackageEvents_12 : Obligations.PackageEvents → Runs (.managementEthernetFrame .telemetry) base := fun h =>
  ⟨_, h.2.2.2.2.2.2.2.2.2.2.1 base rfl⟩

theorem meets_PackageEvents_13 : Obligations.PackageEvents → Runs (.managementEthernetFrame .errorReport) base := fun h =>
  runs (h.2.2.2.2.2.2.2.2.2.2.2.1 base rfl)

theorem meets_PackageEvents_14 : Obligations.PackageEvents →
    Runs (.hostBarAccess ⟨0, false, 0, 4, [], none⟩) { State.reset with pkg := { State.reset.pkg with bootStep := 1 } } := fun h =>
  ⟨_, (h.2.2.2.2.2.2.2.2.2.2.2.2 { State.reset with pkg := { State.reset.pkg with bootStep := 1 } } rfl (.inl rfl)).2.1
    ⟨0, false, 0, 4, [], none⟩ (.inl rfl)⟩

/-- A request to mailbox 0 of BAR 0. -/
def mail (r : Option MailRequest) : HostAccess := ⟨0, true, 0, 4, [0, 0, 0, 0x40], r⟩

theorem meets_PackageEvents_15 : Obligations.PackageEvents → Runs (.hostBarAccess (mail (some (.hold true)))) base := fun h =>
  ⟨_, (h.2.2.2.2.2.2.2.1 (mail (some (.hold true))) base rfl (by decide) rfl rfl).1 true rfl⟩

theorem meets_PackageEvents_16 : Obligations.PackageEvents → Runs (.hostBarAccess (mail (some (.trace 3 8)))) base := fun h =>
  ⟨_, (h.2.2.2.2.2.2.2.1 (mail (some (.trace 3 8))) base rfl (by decide) rfl rfl).2.1 3 8 rfl⟩

theorem meets_PackageEvents_17 : Obligations.PackageEvents → Runs (.hostBarAccess (mail (some (.counters [[1], [2]] 5)))) base := fun h =>
  runs ((h.2.2.2.2.2.2.2.1 (mail (some (.counters [[1], [2]] 5))) base rfl (by decide) rfl rfl).2.2.1 5 [1] [2] rfl)

theorem meets_PackageEvents_18 : Obligations.PackageEvents → Runs (.hostBarAccess (mail none)) base := fun h =>
  ⟨_, (h.2.2.2.2.2.2.2.1 (mail none) base rfl (by decide) rfl rfl).2.2.2 rfl⟩

theorem meets_PackageEvents_19 : Obligations.PackageEvents → Runs (.hostDma ⟨7, true, 0x20000, 2, [1, 2], none⟩) { opened with die := { opened.die with gpoison := [2] } } := fun h =>
  ⟨_, (h.2.2.2.2.2.2.1 ⟨7, true, 0x20000, 2, [1, 2], none⟩ { opened with die := { opened.die with gpoison := [2] } } (by decide) (by decide) rfl (by decide +kernel)).2.1
    2 (by decide +kernel) rfl (by decide +kernel)⟩

theorem meets_HomeEvents_14 : Obligations.HomeEvents → Runs (.correctableError .dieLinks 3) base := fun h =>
  runs (h.2.2.2.2.2.2.2.2 .dieLinks 3 base)

theorem meets_HomeEvents_15 : Obligations.HomeEvents → Runs (.uncorrectableError (.capTable 2)) base := fun h =>
  runs (h.2.2.2.2.1 2 base (.inr rfl))

theorem meets_FabricResults_1 : Obligations.FabricResults → Runs (.redst 5 4 4) (regs base [(4, 0xA0000), (5, 0x3F800000)]) := fun h =>
  runs ((h.1.1 (.redst 5 4 4) _ _ _ rfl (regs base [(4, 0xA0000), (5, 0x3F800000)]) _ _ rfl (fun _ => rfl) rfl (by decide) (by decide +kernel) rfl
    (by decide +kernel) (by decide +kernel) rfl (by decide)).1 (.inr rfl))

/-- A core in deterministic mode whose operands address the unordered window, one that takes the ordered window, and one whose `redst`
a LINKF has named. -/
def reducing (det ordered : Bool) (lost : List Unanswered) : State :=
  let s := regs base [(4, 0xA0000), (5, 0x3F800000)]
  { s with
    run := { s.run with lost := lost }
    pkg := { s.pkg with det := det }
    core := { s.core with dtlb := [{ page 10 0xA0000 1 with grant := .reduce ordered }] }
    die := { s.die with grans := [(10, { Granule.default with cap := .reduce ordered })], windows := [⟨10, 1, 0, 2⟩] } }

theorem meets_FabricResults_20 : Obligations.FabricResults → Runs (.redst 5 4 4) (reducing true false []) := fun h =>
  runs ((h.1.1 (.redst 5 4 4) _ _ _ rfl (reducing true false []) _ _ rfl (fun _ => rfl) rfl (by decide) (by decide +kernel) rfl
    (by decide +kernel) (by decide +kernel) rfl (by decide)).2 (by decide +kernel) rfl)

theorem meets_FabricResults_21 : Obligations.FabricResults → Runs (.redst 5 4 4) (reducing false true []) := fun h =>
  runs ((h.1.1 (.redst 5 4 4) _ _ _ rfl (reducing false true []) _ _ rfl (fun _ => rfl) rfl (by decide) (by decide +kernel) rfl
    (by decide +kernel) (by decide +kernel) rfl (by decide)).1 (.inl (by decide +kernel)))

theorem meets_FabricResults_22 : Obligations.FabricResults → Runs (.redst 5 4 4) (reducing false false [⟨0x10000, 2, 0, [], none⟩]) := fun h =>
  runs (h.1.2.1 (.redst 5 4 4) _ _ _ rfl (reducing false false [⟨0x10000, 2, 0, [], none⟩]) _ rfl ⟨_, List.mem_cons_self .., rfl, rfl⟩)

theorem meets_FabricResults_2 : Obligations.FabricResults → Runs (.redq 0 4) (regs base [(4, 0xA0000)]) := fun h =>
  let ⟨t, _, e, _⟩ := h.1.2.2.1 0 4 (regs base [(4, 0xA0000)]) _ rfl (fun _ => rfl)
  ⟨t, e⟩

/-- A core that has nothing to wait for takes its checkpoint at once. -/
theorem acked {s : State} (h : s.speculative = false) (h1 : s.commitPoison.isSome = false) (h2 : s.logMigrating = false)
    (h3 : s.logRoundFull = false) (h4 : s.run.commit = none) (h5 : s.heldRequests = [])
    (h6 : ((s.checkpointNow s.run.ctx.pc).run.acks != 0) = false) (h7 : (s.checkpointNow s.run.ctx.pc).deferredOf
      (s.checkpointNow s.run.ctx.pc).lcore = false) : s.checkpointAck = .ok (s.checkpointNow s.run.ctx.pc) := by
  simp [State.checkpointAck, State.checkpoint, h, h1, h2, h3, h4, h5, h6, h7]

/-- The place of a query does not depend on the word of its trap. -/
theorem placed {s : State} {a : Word} {h : Nat} (q : (match s.redqPlace 0 a with | .ok x => x == h | .error _ => false) = true) (w : BitVec 32) :
    s.redqPlace w a = .ok h := by
  unfold State.redqPlace at *
  cases e : canonical a
  · simp [e, need] at q
  · simp only [e, need, if_true] at *
    split at q <;> simp_all

theorem meets_FabricResults_15 : Obligations.FabricResults → Runs (.redq 5 4) (regs base [(4, 0xA0000), (5, 5)]) := fun h =>
  let s := regs base [(4, 0xA0000), (5, 5)]
  have p : s.checkpointAck = .ok (s.checkpointNow s.run.ctx.pc) := acked (by decide +kernel) (by decide +kernel) (by decide +kernel)
    (by decide +kernel) rfl (by decide +kernel) (by decide +kernel) (by decide +kernel)
  have q : ∀ w, (s.checkpointNow s.run.ctx.pc).redqPlace w (s.rd 4) = .ok 0xA0000 := placed (by decide +kernel)
  let ⟨t, _, e, _⟩ := h.1.2.2.2.1 5 4 s _ 0xA0000 (by decide) p q
  ⟨t, e⟩

/-- A wake record at 0x1000 of the scratchpad: TAG 0x12, no payload. -/
def waker : State := bytesAt (regs base [(5, 0x1000)]) [(spHomeOf 0 0x1000, bytesOf 16 (0x12 * 2 ^ 34 + 3 * 2 ^ 56))]

theorem meets_FabricResults_3 : Obligations.FabricResults → Runs (.wake 5) waker := fun h =>
  runs (h.1.2.2.2.2.1 5 waker _ _ (by decide) (by decide) (cleanLine rfl rfl _ _) rfl (fun _ _ => cleanLine rfl rfl _ _) rfl (by decide))

theorem meets_FabricResults_4 : Obligations.FabricResults → Runs (.sigx 5) (regs base [(5, 0x3FFC0)]) := fun h =>
  runs (h.1.2.2.2.2.2 5 (regs base [(5, 0x3FFC0)]) _ rfl (by decide) (by decide) (by decide) (cleanLine rfl rfl _ _))

theorem meets_FabricResults_5 : Obligations.FabricResults → Runs (.wakePlacement letter 7 0 none) { base with net := { base.net with seenWakes := [(1, 7)] } } := fun h =>
  ⟨_, h.2.1 letter 7 none { base with net := { base.net with seenWakes := [(1, 7)] } } (by decide +kernel)⟩

theorem meets_FabricResults_6 : Obligations.FabricResults → Runs (.wakePlacement letter 7 0 (some 1)) installed := fun h =>
  runs (h.2.2.1 letter 7 (some 1) installed (by decide +kernel))

/-- That core may take the wake: its kernel is installed and slot 0 is free. -/
theorem wake_ready : ¬early installed (some 1) ∧ lowestFree installed 0 :=
  ⟨fun q => absurd rfl (q (kernel 1) (.head _)), rfl, by decide +kernel⟩

theorem meets_FabricResults_16 : Obligations.FabricResults → Runs (.wakePlacement letter 7 9 none) base := fun h =>
  runs (h.2.2.2.1 letter 7 none 9 base (by decide))

theorem meets_FabricResults_7 : Obligations.FabricResults → Runs (.reduceContribution 1 0xA0000 0x3F800000) base := fun h =>
  runs ((h.2.2.2.2.1 1 0xA0000 0x3F800000 base (by decide +kernel) (by decide +kernel) (by decide +kernel) (by decide +kernel) (by decide +kernel)).1 (.inr rfl))

/-- A reducing window of two participants, ordered, with the contribution of core 0 held. -/
def rounds : State := { base with die := { base.die with
  grans := [(10, { Granule.default with cap := .reduce true })]
  windows := [⟨10, 1, 0, 2⟩]
  contribs := [{ addr := 0xA0000, core := 0, val := 0x3F800000, round := 0, count := 1 }] } }

theorem meets_FabricResults_18 : Obligations.FabricResults → ∃ t, exec (.reduceContribution 1 0xA0000 0x40000000) rounds = .next t ∧
    rounds.orderedWindow 0xA0000 = true ∧ heldFor rounds 0xA0000 = rounds.die.contribs ∧ (rounds.window 0xA0000).n = 2 := fun h =>
  let ⟨t, e, _⟩ := (h.2.2.2.2.1 1 0xA0000 0x40000000 rounds (by decide +kernel) (by decide +kernel) (by decide +kernel) (by decide +kernel) (by decide +kernel)).1 (.inl (by decide +kernel))
  ⟨t, e, by decide +kernel, by decide +kernel, by decide +kernel⟩

theorem meets_FabricResults_8 : Obligations.FabricResults → Runs (.reduceContribution 1 0x20000 0x3F800000) base := fun h =>
  ⟨_, h.2.2.2.2.2.2.2.1 1 0x20000 0x3F800000 base (.inl (by decide +kernel))⟩

theorem meets_FabricResults_9 : Obligations.FabricResults → Runs (.fabricRequest 1 3 ⟨1, 0x30000, .strongStore [1], none⟩) base := fun h =>
  runs (h.2.2.2.2.2.2.2.2.2.1 1 3 ⟨1, 0x30000, .strongStore [1], none⟩ base (by decide +kernel) (by decide +kernel))

theorem meets_FabricResults_10 : Obligations.FabricResults → Runs (.fabricRequest 1 3 ⟨1, 0x30000, .strongStore [1], none⟩) { base with pkg := { base.pkg with filter := [(1, 3, [])] } } := fun h =>
  ⟨_, h.2.2.2.2.2.2.2.2.1 1 3 ⟨1, 0x30000, .strongStore [1], none⟩ { base with pkg := { base.pkg with filter := [(1, 3, [])] } } (by decide +kernel)⟩

theorem meets_FabricResults_17 : Obligations.FabricResults →
    (base.serve ⟨0, 0x20000, .load 4, none⟩).2 = base.die.mem.bytes 0x20000 4 := fun h => by
  rw [(h.2.2.2.2.2.2.2.2.2.2.1 ⟨0, 0x20000, .load 4, none⟩ base (by decide +kernel) (by decide +kernel) (by decide +kernel) rfl).1 4 rfl]

theorem meets_FabricResults_23 : Obligations.FabricResults →
    Runs (.reduceContribution 1 0xA0000 0x3F800000) { base with pkg := { base.pkg with det := true } } := fun h =>
  ⟨_, (h.2.2.2.2.1 1 0xA0000 0x3F800000 { base with pkg := { base.pkg with det := true } } (by decide +kernel) (by decide +kernel)
    (by decide +kernel) (by decide +kernel) (by decide +kernel)).2 (by decide +kernel) rfl⟩

theorem meets_FabricResults_24 : Obligations.FabricResults → Runs (.dropNotice ⟨1, 0x50004, .add, none⟩ (some 3)) base := fun h =>
  runs (h.2.2.2.2.2.2.1 ⟨1, 0x50004, .add, none⟩ 3 base (by decide +kernel))

theorem meets_FabricResults_25 : Obligations.FabricResults → Runs (.reduceContribution 1 0xA0000 0x3F800000 (some 3))
    { base with pkg := { base.pkg with filter := [(base.requester 1, 3, [])] } } := fun h =>
  ⟨_, (h.2.2.2.2.2.1 1 3 { base with pkg := { base.pkg with filter := [(base.requester 1, 3, [])] } } (by decide +kernel)).2.2.1 0xA0000 0x3F800000⟩

theorem meets_FabricResults_11 : Obligations.FabricResults → Runs (.fabricResendTimeout 5 2) base := fun h =>
  runs (h.2.2.2.2.2.2.2.2.2.2.2.2.1 5 2 base rfl)

theorem meets_FabricResults_12 : Obligations.FabricResults → Runs (.fabricResendTimeout 5 2) { base with pkg := { base.pkg with resends := [(5, 2, 0, 7)] } } := fun h =>
  runs (h.2.2.2.2.2.2.2.2.2.2.2.2.2.1 5 2 { base with pkg := { base.pkg with resends := [(5, 2, 0, 7)] } } rfl (by decide) rfl rfl rfl (by decide +kernel) rfl ⟨rfl, by decide⟩)

theorem meets_FabricResults_13 : Obligations.FabricResults → Runs (.onDieLinkCrcFailure 4 false) { base with pkg := { base.pkg with linkErrors := [(4, 7)] } } := fun h =>
  runs (h.2.2.2.2.2.2.2.2.2.2.2.2.2.2.1 4 false { base with pkg := { base.pkg with linkErrors := [(4, 7)] } } rfl)

theorem meets_FabricResults_14 : Obligations.FabricResults → Runs (.onDieLinkCrcFailure 4 false) base := fun h =>
  runs (h.2.2.2.2.2.2.2.2.2.2.2.2.2.2.2 4 false base rfl)

/-- A core in a debug mode. -/
def debugging : State := { base with dbg := { base.dbg with gperiod := 100, enables := -1, traceCap := 4 } }

theorem meets_DebugResults_1 : Obligations.DebugResults → Runs (.geyserTick []) { debugging with cycle := 99 } := fun h =>
  ⟨_, h.2.1 [] { debugging with cycle := 99 } (by decide) (by decide)⟩

theorem meets_DebugResults_12 : Obligations.DebugResults → Runs (.geyserTick []) { debugging with cycle := 100 } := fun h =>
  ⟨_, h.2.2.1 [] { debugging with cycle := 100 } (by decide)⟩

/-- A core whose fourth tick is due. -/
def due : State := { debugging with cycle := 300, dbg := { debugging.dbg with gdone := 3 } }

theorem meets_DebugResults_2 : Obligations.DebugResults → Runs (.geyserTick []) due := fun h =>
  runs (h.2.2.2.1 [] due (by decide) (by decide))

/-- A core whose event sets rotate. -/
def counted (left : Nat) : State := { base with core := { base.core with pmOn := true, pmctl := 10, pmLeft := left } }

theorem meets_DebugResults_13 : Obligations.DebugResults → Runs .counterRotate (counted 7) := fun h =>
  ⟨_, h.2.2.2.2.1 (counted 7) (.inr (.inr (by decide)))⟩

theorem meets_DebugResults_14 : Obligations.DebugResults → Runs .counterRotate (counted 0) := fun h =>
  runs (h.2.2.2.2.2.1 (counted 0) rfl (by decide) rfl)

theorem meets_DebugResults_3 : Obligations.DebugResults → Runs (.debugStop false) base := fun h =>
  ⟨_, h.2.2.2.2.2.2.1 base (by decide) (.inr (by decide))⟩

theorem meets_DebugResults_4 : Obligations.DebugResults → Runs (.debugStop false) (quiet false) := fun h =>
  runs (h.2.2.2.2.2.2.2.1 (quiet false) rfl rfl)

theorem meets_DebugResults_5 : Obligations.DebugResults → Runs (.debugStop true) { base with core := { base.core with stopping := true } } := fun h =>
  runs ((h.2.2.2.2.2.2.2.2.1 { base with core := { base.core with stopping := true } } (by decide) rfl rfl (by decide)).1 rfl rfl rfl (by decide +kernel))

/-- An activation that retires while matrix commands stand, past the bound of a stop. -/
def retiringStop : State := { base with core := { base.core with stopping := true }, run := { base.run with retiring := true } }

theorem meets_DebugResults_15 : Obligations.DebugResults → Runs (.debugStop true) retiringStop := fun h =>
  runs ((h.2.2.2.2.2.2.2.2.1 retiringStop (by decide) rfl rfl (by decide)).2 rfl (by decide) (by decide))

theorem meets_DebugResults_6 : Obligations.DebugResults → Runs .debugResume (halted .stop) := fun h =>
  runs (h.2.2.2.2.2.2.2.2.2.1 (halted .stop) rfl)

theorem meets_DebugResults_7 : Obligations.DebugResults → Runs .breakResume (halted .brk) := fun h =>
  runs (h.2.2.2.2.2.2.2.2.2.2.1 (halted .brk) rfl)

/-- The page tables of `tabled` for both stages: granule 0 maps to itself, with read and execute rights. -/
def walkable : State :=
  bytesAt { base with core := { base.core with root1 := 0, root2 := 0 } }
    [(0, bytesOf 16 (1 + 0x1000 / 65536 * 2 ^ 40)), (0, bytesOf 16 (1 + 2 ^ 40)), (0x10000, bytesOf 16 (1 + 2 * 2 ^ 40)),
      (0x20000, bytesOf 16 (1 + 3 * 2 ^ 40)), (0x30000, bytesOf 16 (0x3F)), (0x30010, bytesOf 16 (0x3F + 2 ^ 40)),
      (0x30020, bytesOf 16 (0x3F + 2 * 2 ^ 40)), (0x30030, bytesOf 16 (0x3F + 3 * 2 ^ 40))]

theorem meets_DebugResults_8 : Obligations.DebugResults → Runs (.patch 0x203C [0x7F])  walkable := fun h =>
  runs (h.2.2.2.2.2.2.2.2.2.2.2.1 0x203C [0x7F] walkable _ (by decide) (by decide) (by decide) rfl)

/-- A patch whose line the core has let go. -/
def patching : State := { base with dbg := { base.dbg with patches := [0x400] } }

theorem meets_DebugResults_16 : Obligations.DebugResults → patching.movePatches = patching ∨
    patching.movePatches = State.report { patching with dbg := { patching.dbg with patches := [] } } (.patchDone 0x400) := fun h =>
  h.2.2.2.2.2.2.2.2.2.2.2.2.1 patching 0x400 [] rfl

theorem meets_DebugResults_9 : Obligations.DebugResults → Runs (.mark 7 9) debugging := fun h =>
  let ⟨t, e, _, _, _, _, q⟩ := h.1 7 9 debugging
  have _ := q (by decide) (by decide) (by decide)
  ⟨t, e⟩

/-- A core in replay mode whose log holds one entry for LIC 0. -/
def replaying (k : ReplaySource) : State :=
  { base with dbg := { base.dbg with replayMode := true, replay := [replayEntry k base.run.ctx.lic 77] } }

theorem meets_DebugResults_10 : Obligations.DebugResults → Runs (.csrr 5 0x020) (replaying .cycle) := fun h =>
  runs (h.2.2.2.2.2.2.2.2.2.2.2.2.2.2.1 5 (replaying .cycle) _ _ rfl rfl ⟨by decide +kernel, by decide +kernel⟩)

theorem meets_DebugResults_11 : Obligations.DebugResults → ∃ t, (replaying .abort).otherTurn = some (.next t) := fun h =>
  let ⟨t, e, _⟩ := h.2.2.2.2.2.2.2.2.2.2.2.2.2.2.2 (replaying .abort) _ _ _ rfl rfl ⟨by decide +kernel, by decide +kernel⟩ (by decide +kernel) rfl rfl rfl
  ⟨t, e⟩

/-- A value that the replay log feeds back is used up (R467). -/
theorem test_replay_feeds : (replaying .cycle).replayed .cycle 5 = 77 ∧ ((replaying .cycle).record .cycle 77).dbg.replay = [] := by
  decide +kernel

theorem meets_DoubleTrap_1 : Obligations.DoubleTrap → Runs (.trap 5) (super base) := fun h =>
  runs (h.1 (.trap 5) _ _ (super base) rfl (.inl rfl) rfl)

theorem meets_DoubleTrap_2 : Obligations.DoubleTrap → Runs (.trap 5) { base with core := { base.core with tvec := 0 } } := fun h =>
  runs (h.1 (.trap 5) _ _ { base with core := { base.core with tvec := 0 } } rfl (.inr rfl) rfl)

/-- The core without a handler. -/
def unhandled : State := { regs base [(4, 0x20002)] with core := { base.core with tvec := 0 } }

theorem meets_DoubleTrap_3 : Obligations.DoubleTrap → Runs (.jmp 4 0) unhandled := fun h =>
  runs (h.1 (.jmp 4 0) _ _ unhandled rfl (.inr rfl) rfl)

theorem meets_DoubleTrap_4 : Obligations.DoubleTrap → Runs (.csrr 5 0x100) unhandled := fun h =>
  runs (h.1 (.csrr 5 0x100) _ _ unhandled rfl (.inr rfl) rfl)

theorem meets_DoubleTrap_5 : Obligations.DoubleTrap → Runs .eret unhandled := fun h =>
  runs (h.1 .eret _ _ unhandled rfl (.inr rfl) rfl)

theorem meets_DoubleTrap_6 : Obligations.DoubleTrap → Runs (.bkpt 9) (super base) := fun h =>
  runs (h.1 (.bkpt 9) _ _ (super base) rfl (.inl rfl) rfl)

theorem meets_DoubleTrap_7 : Obligations.DoubleTrap →
    ∃ t, runBody 4 unhandled (fun s => .exc s (.trap cALIGN 0x20002)) = .next t ∧ t.run.act = none := fun h =>
  let ⟨t, e, q, _⟩ := h.2 cALIGN 0x20002 4 (fun s => .exc s (.trap cALIGN 0x20002)) unhandled unhandled rfl (.inr rfl) rfl
  ⟨t, e, q rfl⟩

theorem meets_StepsNeverStop : Obligations.StepsNeverStop → ∃ t, step State.reset = .next t := fun h =>
  h.1 State.reset rfl

theorem meets_StepsNeverStop_2 : Obligations.StepsNeverStop → step { State.reset with pkg := { Pkg.reset with powered := false } } = .fault .powerOff := fun h =>
  h.2 { State.reset with pkg := { Pkg.reset with powered := false } } rfl

theorem meets_StepRunsDecoded_2 : Obligations.StepRunsDecoded → step { base with inputs := [some .counterRotate] } = exec .counterRotate base := fun h =>
  h.2 { base with inputs := [some .counterRotate] } _ _ rfl rfl

/-- The machine with the words of `add s5, s6, s7` where the next step fetches. -/
def ready : State := State.reset.withFetchWord 32 0x038C2800

theorem meets_StepRunsDecoded_1 : Obligations.StepRunsDecoded →
    step ready = exec (.add 5 6 7) (ready.turn.cacheWords ready.turn.run.ctx.pc [0x038C2800]) := fun h =>
  ((h.1 ready _ rfl rfl rfl rfl rfl).1 [0x038C2800] _ rfl rfl).1 rfl

/-- That machine with a pre-emption that came within the instruction. -/
def stopped : State := { ready with core := { ready.core with stopAt := some 0 } }

theorem meets_StepRunsDecoded_4 : Obligations.StepRunsDecoded → ∃ t, step stopped = .next t := fun h =>
  ⟨_, (((h.1 stopped _ rfl rfl rfl rfl rfl).1 [0x038C2800] _ rfl rfl).2 0 _ rfl rfl).1⟩

theorem meets_StepRunsDecoded_3 : Obligations.StepRunsDecoded →
    ∃ e, step base = .next (base.turn.raiseExc (base.turn.run.ctx.pc + 4) e) := fun h =>
  ⟨_, (h.1 base _ rfl rfl rfl rfl rfl).2 _ rfl rfl⟩

theorem meets_DecodeOfEncode_1 : Obligations.DecodeOfEncode →
    decode (wordBytes (encode (.ld64ExtLit 5 4 1 3 0x40)) ++ [7]) = .ok (.ld64ExtLit 5 4 1 3 0x40, [7]) := fun h =>
  h.1 (.ld64ExtLit 5 4 1 3 0x40) [7] (by decide) (by decide)

theorem meets_DecodeOfEncode_2 : Obligations.DecodeOfEncode → encode (.liLit 3 0x00123456789ABCDE) = [0x0000189D, 0x789ABCDE, 0x00123456] := fun h =>
  h.2 0x0000189D [0x789ABCDE, 0x00123456] (.liLit 3 0x00123456789ABCDE) rfl (by decide)

theorem reset_memOk : State.reset.MemOk := rfl

theorem meets_StepKeepsMemory : Obligations.StepKeepsMemory → State.reset.turn.MemOk := fun h =>
  h State.reset _ reset_memOk rfl

end Sys2Proof.Tests
end

section
/-!
PROOF. The core's scalar instructions (spec/05): what writes one scalar register, the values of R127 to R138 as the statements
spell them out, and the trap, the breakpoint and the return from a handler.
-/

open Sys2Proof.Claims

namespace Sys2Proof.Machine

/-! ### Writing one scalar register and retiring (R117, R127, R133) -/

@[simp] theorem State.raise_zero (s : State) : s.raise 0 = s := by
  simp [State.raise, State.withCtx]

@[simp] theorem State.raise_seen (s : State) (f : Flags) (a : Nat) : (s.raise f).seen a = s.seen a :=
  State.seen_congr rfl rfl rfl rfl rfl rfl a

@[simp] theorem State.wr_seen (s : State) (d : Reg) (v : Word) (a : Nat) : (s.wr d v).seen a = s.seen a :=
  State.seen_congr (by simp) (by simp) (by simp) (by simp) (by simp) (by simp) a

theorem State.wr_raise_kept (s : State) (d : Reg) (v : Word) (fl : Flags) : s.Kept ((s.wr d v).raise fl) := by
  unfold State.wr
  split <;> rfl

theorem State.wr_raise_onlyScalars (s : State) (d : Reg) (v : Word) (fl : Flags) :
    Ctx.OnlyScalars s.run.ctx ((s.wr d v).raise fl).run.ctx fl := by
  unfold State.wr
  split <;> rfl

/-- An instruction that writes S[d], raises flags and retires does what `WritesScalar` says, its frame included. -/
theorem WritesScalar.of_retireTo {i : Instr} {s : State} {d : Reg} {v : Word} {fl : Flags} {len : Nat}
    (he : exec i s = .next (((s.wr d v).raise fl).retireTo (s.run.ctx.pc + word len))) :
    WritesScalar i s d v fl len := by
  refine ⟨_, he, ?retired, ?registers, ?context, ?kept, ?bytes⟩
  case retired =>
    have h := State.retireTo_retired ((s.wr d v).raise fl) (s.run.ctx.pc + word len)
    simpa [State.RetiredAt, word] using h
  case registers =>
    intro r
    rw [State.retireTo_rd, State.raise_rd, State.rd_wr]
  case context =>
    have h := s.wr_raise_onlyScalars d v fl
    rw [State.retireTo_ctx]
    unfold Ctx.OnlyScalars at h ⊢
    rw [h]
  case kept =>
    have h := s.wr_raise_kept d v fl
    rw [State.retireTo_eq]
    unfold State.Kept at h ⊢
    rw [h]
  case bytes =>
    intro a
    rw [State.retireTo_seen, State.raise_seen, State.wr_seen]

theorem WritesScalar.of_writeInt {i : Instr} {s : State} {d : Reg} {t : State → Word} {v : Word} {len : Nat}
    (he : exec i s = writeInt len d t s) (hv : t s = v) : WritesScalar i s d v 0 len := by
  subst hv
  exact .of_retireTo (by rw [he, State.raise_zero]; rfl)

theorem WritesScalar.of_writeFloat {i : Instr} {s : State} {d : Reg} {r : State → Nat × Flags} {v : Word} {fl : Flags}
    (he : exec i s = writeFloat d r s) (hv : word (r s).1 = v) (hf : (r s).2 = fl) : WritesScalar i s d v fl 4 := by
  subst hv hf
  exact .of_retireTo he

/-! ### Products and divisions (R127, R128) -/

theorem mulHighS_eq (a b : Word) :
    mulHighS a b = ((a.signExtend 128 * b.signExtend 128) >>> 64).setWidth 64 := by
  have hp : a.signExtend 128 * b.signExtend 128 = BitVec.ofInt 128 (a.toInt * b.toInt) := by
    rw [BitVec.ofInt_mul]; rfl
  apply BitVec.eq_of_toNat_eq
  unfold mulHighS wordOfInt
  rw [hp, BitVec.toNat_setWidth, BitVec.toNat_ushiftRight, BitVec.toNat_ofInt, BitVec.toNat_ofInt,
    Nat.shiftRight_eq_div_pow]
  generalize a.toInt * b.toInt = p
  omega

theorem mulHighZ_eq (a b : Word) :
    mulHighZ a b = ((a.setWidth 128 * b.setWidth 128) >>> 64).setWidth 64 := by
  have hp : a.toNat * b.toNat < 2 ^ 64 * 2 ^ 64 := Nat.mul_lt_mul'' a.isLt b.isLt
  apply BitVec.eq_of_toNat_eq
  unfold mulHighZ word
  rw [BitVec.toNat_setWidth, BitVec.toNat_ushiftRight, BitVec.toNat_mul, BitVec.toNat_setWidth, BitVec.toNat_setWidth,
    Nat.shiftRight_eq_div_pow, BitVec.toNat_ofNat, Nat.mod_eq_of_lt (a := a.toNat) (by omega),
    Nat.mod_eq_of_lt (a := b.toNat) (by omega)]
  generalize a.toNat * b.toNat = p at hp
  omega

theorem quotS_eq (a b : Word) : quotS a b = if b = 0 then BitVec.allOnes 64 else a.sdiv b := by
  unfold quotS wordOfInt
  split
  · rfl
  · apply BitVec.eq_of_toInt_eq
    rw [BitVec.toInt_ofInt, BitVec.toInt_sdiv]

theorem quotZ_eq (a b : Word) : quotZ a b = if b = 0 then BitVec.allOnes 64 else a.udiv b := by
  unfold quotZ word
  split
  · rfl
  · rw [BitVec.udiv_eq, ← BitVec.toNat_udiv, BitVec.ofNat_toNat, BitVec.setWidth_eq]

theorem remainS_eq (a b : Word) : remainS a b = if b = 0 then a else a.srem b := by
  unfold remainS wordOfInt
  split
  · rfl
  · rw [← BitVec.toInt_srem, BitVec.ofInt_toInt]

theorem remainZ_eq (a b : Word) : remainZ a b = if b = 0 then a else a.umod b := by
  unfold remainZ word
  split
  · rfl
  · rw [BitVec.umod_eq, ← BitVec.toNat_umod, BitVec.ofNat_toNat, BitVec.setWidth_eq]

/-! ### Shifts and orders (R127) -/

theorem shiftLeft_amount (a b : Word) : a <<< amount b = a <<< b.setWidth 6 := by
  rw [BitVec.shiftLeft_eq', BitVec.toNat_setWidth]; rfl

theorem shiftRight_amount (a b : Word) : a >>> amount b = a >>> b.setWidth 6 := by
  rw [BitVec.ushiftRight_eq', BitVec.toNat_setWidth]; rfl

theorem sshiftRight_amount (a b : Word) : a.sshiftRight (amount b) = a.sshiftRight' (b.setWidth 6) := by
  rw [BitVec.sshiftRight', BitVec.toNat_setWidth]; rfl

theorem rotateLeft_amount (a b : Word) : a.rotateLeft (amount b) = a.rotateLeft (b.setWidth 6).toNat := by
  rw [BitVec.toNat_setWidth]; rfl

theorem not_ltS (a b : Word) : (!ltS b a) = a.sle b := by
  simp [ltS, BitVec.sle, ← decide_not]

theorem not_ltZ (a b : Word) : (!ltZ b a) = a.ule b := by
  simp [ltZ, BitVec.ule, ← decide_not]

/-- The model asks whether the second operand is strictly better, the statement whether the first is at least as good. -/
theorem ite_eq_pick {lt le : Bool} (h : (!lt) = le) (x y : Word) : (if lt then x else y) = pick le y x := by
  subst h
  cases lt <;> rfl

/-! ### Counting bits and reversing bytes (R127) -/

theorem leadingZeros_eq (a : Word) : ∀ n, a.toNat < 2 ^ n →
    leadingZeros a n = if a = 0 then n else n - 1 - Nat.log2 a.toNat
  | 0, h => by
    have h0 : a = 0 := BitVec.eq_of_toNat_eq (by simpa using h)
    rw [if_pos h0]; rfl
  | n + 1, h => by
    unfold leadingZeros
    by_cases hn : a.toNat < 2 ^ n
    · have hb : a.getLsbD n = false := Nat.testBit_lt_two_pow hn
      rw [hb, leadingZeros_eq a n hn]
      by_cases h0 : a = 0
      · rw [if_pos h0, if_pos h0]; rfl
      · have hl : Nat.log2 a.toNat < n := (Nat.log2_lt (fun e => h0 (BitVec.eq_of_toNat_eq e))).2 hn
        rw [if_neg h0, if_neg h0, if_neg Bool.false_ne_true]
        omega
    · have hb : a.getLsbD n = true := Nat.testBit_of_two_pow_le_and_two_pow_add_one_gt (by omega) h
      have h0 : a ≠ 0 := fun e => hn (by rw [e]; exact Nat.two_pow_pos n)
      have hl : Nat.log2 a.toNat = n :=
        (Nat.log2_eq_iff (fun e => h0 (BitVec.eq_of_toNat_eq e))).2 ⟨by omega, h⟩
      rw [if_pos hb, if_neg h0, hl]
      omega

theorem leadingZeros_word (a : Word) : leadingZeros a 64 = leading a := leadingZeros_eq a 64 a.isLt

theorem onesBelow_eq (a : Word) : ∀ n, onesBelow a n = ((List.range n).filter a.getLsbD).length
  | 0 => rfl
  | n + 1 => by
    rw [onesBelow, onesBelow_eq a n, List.range_succ, List.filter_append, List.length_append, Nat.add_comm]
    cases h : a.getLsbD n <;> simp [h]

theorem onesBelow_word (a : Word) : onesBelow a 64 = ones a := onesBelow_eq a 64

/-- A number whose lowest byte is `b` is, as a word, the rest followed by `b`. -/
theorem ofNat_byte_add (w : Nat) (b : Byte) (n : Nat) :
    BitVec.ofNat (w + 8) (b.toNat + 256 * n) = BitVec.ofNat w n ++ b := by
  have hb : b.toNat < 2 ^ 8 := b.isLt
  have hd : (b.toNat + 256 * n) / 2 ^ 8 = n := by omega
  apply BitVec.eq_of_toNat_eq
  rw [BitVec.toNat_append, BitVec.toNat_ofNat, BitVec.toNat_ofNat, ← Nat.shiftLeft_add_eq_or_of_lt hb, Nat.shiftLeft_eq,
    Nat.add_comm w, Nat.pow_add, Nat.mod_mul, hd]
  omega

theorem ofNat_byte_at (a : Word) (k : Nat) : BitVec.ofNat 8 (a.toNat / 2 ^ k) = a.extractLsb' k 8 := by
  rw [← Nat.shiftRight_eq_div_pow]; rfl

theorem byteSwap_eq (a : Word) : byteSwap a = swapped a := by
  simp only [byteSwap, word, bytesOf, List.reverse, List.reverseAux, natOfBytes, Nat.div_div_eq_div_mul]
  rw [ofNat_byte_add, ofNat_byte_add, ofNat_byte_add, ofNat_byte_add, ofNat_byte_add, ofNat_byte_add, ofNat_byte_add]
  simp only [swapped, ← ofNat_byte_at, Nat.reduceMul, Nat.reducePow, Nat.div_one, Nat.mul_zero, Nat.add_zero,
    BitVec.ofNat_toNat, BitVec.setWidth_eq]

/-! ### Fields (R129) -/

theorem fieldLo_eq (b : Word) : fieldLo b = lowBit b := by
  simp [fieldLo, fieldOf, lowBit, BitVec.extractLsb'_toNat]

theorem highBit_add_one (b : Word) : highBit b + 1 = lowBit b + fieldWidth b := by
  have hl : lowBit b < 64 := (b.extractLsb' 0 6).isLt
  have hf : fieldOf b 8 6 = (b.extractLsb' 8 6).toNat := by
    simp [fieldOf, BitVec.extractLsb'_toNat, Nat.shiftRight_eq_div_pow]
  unfold highBit fieldWidth
  rw [fieldLo_eq, hf]
  omega

theorem lowBit_le_highBit (b : Word) : lowBit b ≤ highBit b := by
  have hl : lowBit b < 64 := (b.extractLsb' 0 6).isLt
  unfold highBit
  omega

theorem fieldWidth_pos (b : Word) : 0 < fieldWidth b := by
  have h := highBit_add_one b
  have hl := lowBit_le_highBit b
  omega

theorem testBit_field (a b : Word) (k : Nat) :
    (fieldOf a (fieldLo b) (fieldWidth b)).testBit k = extZBit a b k := by
  have h := highBit_add_one b
  have hk : decide (k < fieldWidth b) = decide (lowBit b + k ≤ highBit b) := decide_eq_decide.2 (by omega)
  unfold fieldOf extZBit
  rw [Nat.testBit_mod_two_pow, Nat.testBit_div_two_pow, fieldLo_eq, hk, Nat.add_comm]
  rfl

theorem extractZ_getLsbD (a b : Word) {k : Nat} (hk : k < 64) : (extractZ a b).getLsbD k = extZBit a b k := by
  rw [extractZ, word, BitVec.getLsbD_ofNat, testBit_field, decide_eq_true hk, Bool.true_and]

/-- `ext.s` is the sign extension of the field, taken as a bit vector of its own width. -/
theorem extractS_eq (a b : Word) :
    extractS a b = (BitVec.ofNat (fieldWidth b) (fieldOf a (fieldLo b) (fieldWidth b))).signExtend 64 := by
  have hv : fieldOf a (fieldLo b) (fieldWidth b) < 2 ^ fieldWidth b := Nat.mod_lt _ (Nat.two_pow_pos _)
  have hp : 2 ^ fieldWidth b = 2 * 2 ^ (fieldWidth b - 1) := by
    rw [← Nat.pow_succ', Nat.succ_eq_add_one, Nat.sub_add_cancel (fieldWidth_pos b)]
  unfold extractS BitVec.signExtend
  generalize fieldOf a (fieldLo b) (fieldWidth b) = v at hv
  rw [BitVec.toInt_eq_toNat_cond, BitVec.toNat_ofNat, Nat.mod_eq_of_lt hv]
  dsimp only
  by_cases h : 2 * v < 2 ^ fieldWidth b
  · have hd : v / 2 ^ (fieldWidth b - 1) = 0 := Nat.div_eq_of_lt (by omega)
    rw [if_pos h, hd]; rfl
  · have hd : v / 2 ^ (fieldWidth b - 1) = 1 := Nat.div_eq_of_lt_le (by omega) (by omega)
    rw [if_neg h, hd]
    simp [wordOfInt]

theorem extractS_getLsbD (a b : Word) {k : Nat} (hk : k < 64) : (extractS a b).getLsbD k = extSBit a b k := by
  have hh := highBit_add_one b
  have hl := lowBit_le_highBit b
  rw [extractS_eq, BitVec.getLsbD_signExtend, BitVec.msb_eq_getLsbD_last, BitVec.getLsbD_ofNat, BitVec.getLsbD_ofNat,
    testBit_field, testBit_field, decide_eq_true hk, Bool.true_and]
  unfold extZBit extSBit
  by_cases h : k < fieldWidth b
  · have hi : lowBit b + k ≤ highBit b := by omega
    rw [if_pos h, Nat.min_eq_left hi, decide_eq_true h, decide_eq_true hi, Bool.true_and, Bool.true_and]
  · have hw : fieldWidth b - 1 < fieldWidth b := by omega
    have hi : lowBit b + (fieldWidth b - 1) ≤ highBit b := by omega
    have hm : min (lowBit b + k) (highBit b) = lowBit b + (fieldWidth b - 1) := by omega
    rw [if_neg h, hm, decide_eq_true hw, decide_eq_true hi, Bool.true_and, Bool.true_and]

theorem testBit_fieldMask (b : Word) (k : Nat) :
    ((2 ^ fieldWidth b - 1) * 2 ^ fieldLo b).testBit k = decide (lowBit b ≤ k ∧ k ≤ highBit b) := by
  have h := highBit_add_one b
  rw [Nat.testBit_mul_two_pow, Nat.testBit_two_pow_sub_one, fieldLo_eq, ← Bool.decide_and]
  exact decide_eq_decide.2 (by omega)

theorem insertField_getLsbD (old a b : Word) {k : Nat} (hk : k < 64) :
    (insertField old a b).getLsbD k = insBit old a b k := by
  unfold insertField insBit word
  simp only [BitVec.getLsbD_or, BitVec.getLsbD_and, BitVec.getLsbD_not, BitVec.getLsbD_ofNat, testBit_fieldMask,
    BitVec.getLsbD_shiftLeft, decide_eq_true hk, Bool.true_and]
  rw [fieldLo_eq]
  by_cases h : lowBit b ≤ k ∧ k ≤ highBit b
  · have hlo : ¬ k < lowBit b := by omega
    simp [h, hlo]
  · simp [h]

/-! ### Register-register integer instructions (R127 to R129) -/

theorem registerForm_exec {i : Instr} {d : Reg} {v : State → Word} (h : registerForm i = some (d, v)) (s : State) :
    exec i s = writeInt 4 d v s := by
  cases i with
  | add | sub | mul | and | or | xor | andn => cases h; rfl
  | mulhS => cases h; dsimp only [exec, execMulhS]; simp only [mulHighS_eq]
  | mulhZ => cases h; dsimp only [exec, execMulhZ]; simp only [mulHighZ_eq]
  | shl => cases h; dsimp only [exec, execShl]; simp only [shiftLeft_amount]
  | shr => cases h; dsimp only [exec, execShr]; simp only [shiftRight_amount]
  | sha => cases h; dsimp only [exec, execSha]; simp only [sshiftRight_amount]
  | minS => cases h; dsimp only [exec, execMinS]; simp only [ite_eq_pick (not_ltS _ _)]
  | minZ => cases h; dsimp only [exec, execMinZ]; simp only [ite_eq_pick (not_ltZ _ _)]
  | maxS => cases h; dsimp only [exec, execMaxS]; simp only [ite_eq_pick (not_ltS _ _)]
  | maxZ => cases h; dsimp only [exec, execMaxZ]; simp only [ite_eq_pick (not_ltZ _ _)]
  | sel => cases h; dsimp only [exec, execSel]; simp only [ite_not]
  | clz => cases h; dsimp only [exec, execClz]; simp only [leadingZeros_word]; rfl
  | popc => cases h; dsimp only [exec, execPopc]; simp only [onesBelow_word]; rfl
  | lea => cases h; dsimp only [exec, execLea]; simp only [BitVec.shiftLeft_eq']
  | rot => cases h; dsimp only [exec, execRot]; simp only [rotateLeft_amount]
  | bswap => cases h; dsimp only [exec, execBswap]; simp only [byteSwap_eq]
  | _ => cases h

theorem divisionForm_exec {i : Instr} {d : Reg} {v : State → Word} (h : divisionForm i = some (d, v)) (s : State) :
    exec i s = writeInt 4 d v s := by
  cases i with
  | divS => cases h; dsimp only [exec, execDivS]; simp only [quotS_eq]
  | divZ => cases h; dsimp only [exec, execDivZ]; simp only [quotZ_eq]
  | remS => cases h; dsimp only [exec, execRemS]; simp only [remainS_eq]
  | remZ => cases h; dsimp only [exec, execRemZ]; simp only [remainZ_eq]
  | _ => cases h

theorem exec_extZ (d a b : Reg) (s : State) :
    exec (.extZ d a b) s = writeInt 4 d (fun s => extractZ (s.rd a) (s.rd b)) s := rfl

theorem exec_extS (d a b : Reg) (s : State) :
    exec (.extS d a b) s = writeInt 4 d (fun s => extractS (s.rd a) (s.rd b)) s := rfl

theorem exec_ins (d a b : Reg) (s : State) :
    exec (.ins d a b) s = writeInt 4 d (fun s => insertField (s.rd d) (s.rd a) (s.rd b)) s := rfl

/-- Settles O1: each instruction writes the value of its table, and the three field instructions are read off bit by bit. -/
theorem integerResults : Obligations.IntegerResults :=
  ⟨fun _ _ _ h s => .of_writeInt (registerForm_exec h s) rfl,
   fun _ _ _ h s => .of_writeInt (divisionForm_exec h s) rfl,
   fun d a b s =>
    ⟨⟨_, fun _ hk => extractZ_getLsbD _ _ hk, .of_writeInt (exec_extZ d a b s) rfl⟩,
     ⟨_, fun _ hk => extractS_getLsbD _ _ hk, .of_writeInt (exec_extS d a b s) rfl⟩,
     ⟨_, fun _ hk => insertField_getLsbD _ _ _ hk, .of_writeInt (exec_ins d a b s) rfl⟩⟩⟩

/-! ### Immediates, `leasw` and compares (R130 to R132) -/

theorem word_swizzle (m : BitVec 3) (x : Word) : word (swizzle m.toNat x.toNat) = banked m x := by
  unfold swizzle banked word
  by_cases h : m = 0
  · rw [if_pos h, if_pos (by rw [h]; rfl), BitVec.ofNat_toNat, BitVec.setWidth_eq]
  · have hm : m.toNat ≠ 0 := fun e => h (BitVec.eq_of_toNat_eq e)
    have hs : x.toNat >>> (7 + m.toNat) &&& (31 : Word).toNat = x.toNat / 2 ^ (7 + m.toNat) % 32 := by
      rw [Nat.shiftRight_eq_div_pow]; exact Nat.and_two_pow_sub_one_eq_mod _ 5
    have h5 : x.toNat / 2 ^ (7 + m.toNat) % 32 < 32 := Nat.mod_lt _ (by decide)
    have hx : x.toNat ^^^ x.toNat / 2 ^ (7 + m.toNat) % 32 * 8 < 2 ^ 64 := Nat.xor_lt_two_pow x.isLt (by omega)
    rw [if_neg h, if_neg hm]
    apply BitVec.eq_of_toNat_eq
    rw [BitVec.toNat_ofNat, Nat.mod_eq_of_lt hx, BitVec.toNat_xor, BitVec.toNat_shiftLeft, BitVec.toNat_and,
      BitVec.toNat_ushiftRight, hs, Nat.shiftLeft_eq, Nat.mod_eq_of_lt (b := 2 ^ 64) (by omega)]

theorem immediateForm_exec {i : Instr} {d : Reg} {v : State → Word} {n : Nat} (h : immediateForm i = some (d, v, n))
    (s : State) : exec i s = writeInt n d v s := by
  cases i with
  | addi | addiLit | andi | andiLit | ori | oriLit | xori | xoriLit | li | liLit => cases h; rfl
  | nop => cases h; dsimp only [exec, execNop, writeInt]; simp only [State.wr_zero]
  | _ => cases h

theorem shiftForm_exec {i : Instr} {d : Reg} {k : Word} {v : State → Word} {n : Nat}
    (h : shiftForm i = some (d, k, v, n)) (s : State) : exec i s = writeInt n d v s := by
  cases i with
  | shli | shliLit | shri | shriLit | shai | shaiLit => cases h; rfl
  | _ => cases h

theorem compareForm_exec {i : Instr} {d : Reg} {p : State → Bool} {n : Nat} (h : compareForm i = some (d, p, n))
    (s : State) : exec i s = writeInt n d (fun s => truth (p s)) s := by
  cases i with
  | cmpEq | cmpiEq | cmpiEqLit | cmpNe | cmpiNe | cmpiNeLit => cases h; rfl
  | cmpLtS | cmpiLtS | cmpiLtSLit | cmpLtZ | cmpiLtZ | cmpiLtZLit => cases h; rfl
  | cmpLeS => cases h; dsimp only [exec, execCmpLeS]; simp only [not_ltS]; rfl
  | cmpiLeS => cases h; dsimp only [exec, execCmpiLeS]; simp only [not_ltS]; rfl
  | cmpiLeSLit => cases h; dsimp only [exec, execCmpiLeSLit]; simp only [not_ltS]; rfl
  | cmpLeZ => cases h; dsimp only [exec, execCmpLeZ]; simp only [not_ltZ]; rfl
  | cmpiLeZ => cases h; dsimp only [exec, execCmpiLeZ]; simp only [not_ltZ]; rfl
  | cmpiLeZLit => cases h; dsimp only [exec, execCmpiLeZLit]; simp only [not_ltZ]; rfl
  | _ => cases h

theorem exec_leasw (d a : Reg) (m : BitVec 3) (s : State) :
    exec (.leasw d a m) s = writeInt 4 d (fun s => word (swizzle m.toNat (s.rd a).toNat)) s := rfl

/-- Settles O2: each instruction writes the value of its table, `nop` to S[0], which takes none. -/
theorem immediateAndCompareResults : Obligations.ImmediateAndCompareResults :=
  ⟨⟨fun _ _ _ _ h s => .of_writeInt (immediateForm_exec h s) rfl,
    fun _ _ _ _ _ h _ s => .of_writeInt (shiftForm_exec h s) rfl,
    fun d a m s => .of_writeInt (exec_leasw d a m s) (word_swizzle m (s.rd a))⟩,
   fun _ _ _ _ h s => .of_writeInt (compareForm_exec h s) rfl⟩

/-! ### `fmin`, `fmax` and `fcmp` (R135, R136) -/

theorem minV_maxV_of_not_nan {x y : FVal} (hx : x.isNan = false) (hy : y.isNan = false) :
    minV x y = (if ltV x y then x else if ltV y x then y else if x.neg? then x else y) ∧
    maxV x y = (if ltV x y then y else if ltV y x then x else if x.neg? then y else x) := by
  cases x <;> cases y <;> simp_all [minV, maxV, FVal.isNan]

theorem ltV_asymm : ∀ {x y : FVal}, ltV x y = true → ltV y x = false
  | .nan _, y, h => by cases y <;> cases h
  | .inf _, .nan _, h => by cases h
  | .fin _ _ _, .nan _, h => by cases h
  | .inf x, .inf y, h => by revert h; cases x <;> cases y <;> decide
  | .inf _, .fin _ _ _, h => congrArg not h
  | .fin _ _ _, .inf y, h => by
    cases y with
    | true => cases h
    | false => rfl
  | .fin x m e, .fin y n k, h => by
    unfold ltV at h ⊢
    have hlt := of_decide_eq_true h
    rw [Int.min_comm] at hlt
    exact decide_eq_false (Int.lt_asymm hlt)

theorem minV_eq_smaller {x y : FVal} (hx : x.isNan = false) (hy : y.isNan = false) : minV x y = smaller x y := by
  rw [(minV_maxV_of_not_nan hx hy).1]
  unfold smaller eqV
  cases hxy : ltV x y <;> cases hyx : ltV y x <;> simp [hx, hy]

/-- The statement asks for y < x first, the model for x < y: both never hold. -/
theorem maxV_eq_larger {x y : FVal} (hx : x.isNan = false) (hy : y.isNan = false) : maxV x y = larger x y := by
  rw [(minV_maxV_of_not_nan hx hy).2]
  unfold larger eqV
  cases hxy : ltV x y
  · cases hyx : ltV y x
    · cases x.neg? <;> simp [hx, hy]
    · simp [hx, hy]
  · simp [hx, hy, ltV_asymm hxy]

/-- Where both operands are NaNs the chosen values may differ, and their encodings do not: each is the canonical NaN. -/
theorem roundF_minV (f : Fmt) (m : RMode) (sat : Bool) (x y : FVal) :
    (roundF f m sat (minV x y)).1 = (roundF f m sat (smaller x y)).1 := by
  cases hx : x.isNan
  · cases hy : y.isNan
    · rw [minV_eq_smaller hx hy]
    · cases x <;> cases y <;> simp_all [minV, smaller, FVal.isNan]
  · cases x <;> cases y <;> simp_all [minV, smaller, FVal.isNan, roundF]

theorem roundF_maxV (f : Fmt) (m : RMode) (sat : Bool) (x y : FVal) :
    (roundF f m sat (maxV x y)).1 = (roundF f m sat (larger x y)).1 := by
  cases hx : x.isNan
  · cases hy : y.isNan
    · rw [maxV_eq_larger hx hy]
    · cases x <;> cases y <;> simp_all [maxV, larger, FVal.isNan]
  · cases x <;> cases y <;> simp_all [maxV, larger, FVal.isNan, roundF]

theorem WritesScalar.of_minmaxF {i : Instr} {s : State} {d a b : Reg} (f : Fmt) (pick g : FVal → FVal → FVal)
    (hg : ∀ x y, (roundF f .rne false (pick x y)).1 = (roundF f .rne false (g x y)).1)
    (he : exec i s = writeFloat d (fun s => minmaxF f pick (s.rdFloat f a) (s.rdFloat f b)) s) :
    WritesScalar i s d (BitVec.ofNat 64 (roundF f .rne false (g (src s f a) (src s f b))).1)
      (signalling (src s f a) (src s f b)) 4 :=
  .of_writeFloat he (congrArg word (hg _ _)) rfl

/-- The result and the flags of `fcmp` with predicate `p` (R136), as the table of the statement gives them. -/
def comparison (p : BitVec 2) (x y : FVal) : Word × Flags :=
  let nan := x.isNan || y.isNan
  if p = 0 then (truth (!nan && eqV x y), signalling x y)
  else if p = 1 then (truth (!nan && ltV x y), unordered x y)
  else if p = 2 then (truth (!nan && leV x y), unordered x y)
  else (truth nan, signalling x y)

/-- No relation holds of a NaN, so to ask for none beforehand changes nothing. -/
theorem not_nan_and_relation (x y : FVal) :
    (!(x.isNan || y.isNan) && eqV x y) = eqV x y ∧ (!(x.isNan || y.isNan) && ltV x y) = ltV x y ∧
      (!(x.isNan || y.isNan) && leV x y) = leV x y := by
  cases x <;> cases y <;> simp [eqV, ltV, leV, FVal.isNan]

theorem word_ite_eq_truth (b : Bool) : word (if b then 1 else 0) = truth b := by
  cases b <;> rfl

theorem compareF_eq (f : Fmt) (p : BitVec 2) (a b : Nat) :
    (truth (compareF f p a b).1, (compareF f p a b).2) = comparison p (decodeF f a) (decodeF f b) := by
  obtain ⟨he, hl, hle⟩ := not_nan_and_relation (decodeF f a) (decodeF f b)
  unfold compareF comparison
  dsimp only
  rw [he, hl, hle]
  by_cases h0 : p = 0
  · rw [if_pos h0, if_pos h0]; rfl
  · rw [if_neg h0, if_neg h0]
    by_cases h1 : p = 1
    · rw [if_pos h1, if_pos h1]; rfl
    · rw [if_neg h1, if_neg h1]
      by_cases h2 : p = 2
      · rw [if_pos h2, if_pos h2]; rfl
      · rw [if_neg h2, if_neg h2]; rfl

theorem WritesScalar.of_compareF {i : Instr} {s : State} {d a b : Reg} (f : Fmt) (p : BitVec 2)
    (he : exec i s = writeFloat d (fun s => let r := compareF f p (s.rdFloat f a) (s.rdFloat f b)
      (if r.1 then 1 else 0, r.2)) s) :
    WritesScalar i s d (comparison p (src s f a) (src s f b)).1 (comparison p (src s f a) (src s f b)).2 4 := by
  have h := compareF_eq f p (s.rdFloat f a) (s.rdFloat f b)
  exact .of_writeFloat he ((word_ite_eq_truth _).trans (congrArg Prod.fst h)) (congrArg Prod.snd h)

theorem choiceForm_writes {i : Instr} {d : Reg} {r : State → Word × Flags} (h : choiceForm i = some (d, r)) (s : State) :
    WritesScalar i s d (r s).1 (r s).2 4 := by
  cases i with
  | fminF32 => cases h; exact .of_minmaxF fp32 minV _ (roundF_minV _ _ _) rfl
  | fminF64 => cases h; exact .of_minmaxF fp64 minV _ (roundF_minV _ _ _) rfl
  | fmaxF32 => cases h; exact .of_minmaxF fp32 maxV _ (roundF_maxV _ _ _) rfl
  | fmaxF64 => cases h; exact .of_minmaxF fp64 maxV _ (roundF_maxV _ _ _) rfl
  | fcmpF32 => cases h; exact .of_compareF fp32 _ rfl
  | fcmpF64 => cases h; exact .of_compareF fp64 _ rfl
  | _ => cases h

/-! ### `fclass` (R137) -/

theorem ltScaled_subnormal (f : Fmt) {m : Nat} (h : m < 2 ^ f.fb) : ltScaled m (f.emin - f.fb) 1 f.emin = true := by
  have hl : min (f.emin - (f.fb : Int)) f.emin = f.emin - f.fb := by omega
  have he : f.emin - (f.emin - (f.fb : Int)) = f.fb := by omega
  unfold ltScaled
  rw [hl]
  dsimp only
  rw [he, Int.sub_self, Int.toNat_natCast, Int.toNat_zero, Nat.pow_zero, Nat.mul_one, Nat.one_mul]
  exact decide_eq_true h

theorem ltScaled_normal (f : Fmt) (r : Nat) {ex : Nat} (h : ex ≠ 0) :
    ltScaled (2 ^ f.fb + r) ((ex : Int) - f.bias - f.fb) 1 f.emin = false := by
  have hp : 2 ^ (f.emin - min ((ex : Int) - f.bias - f.fb) f.emin).toNat ≤ 2 ^ f.fb :=
    Nat.pow_le_pow_right (by omega) (by unfold Fmt.emin; omega)
  have hq := Nat.le_mul_of_pos_right (2 ^ f.fb + r)
    (Nat.two_pow_pos ((ex : Int) - f.bias - f.fb - min ((ex : Int) - f.bias - f.fb) f.emin).toNat)
  unfold ltScaled
  exact decide_eq_false (by omega)

/-- The mask of the model, made from the decoded value, has the bit that the fields of the encoding name. -/
theorem classOf_decodeF (f : Fmt) (he : f.e4m3 = false) (x : Nat) :
    classOf f (decodeF f x) = 2 ^ classBit f.w f.fb x := by
  have hq : x % 2 ^ f.fb / 2 ^ (f.fb - 1) = 0 ↔ x % 2 ^ f.fb < 2 ^ (f.fb - 1) :=
    Nat.div_eq_zero_iff_lt (Nat.two_pow_pos _)
  have hm : x % 2 ^ f.fb < 2 ^ f.fb := Nat.mod_lt _ (Nat.two_pow_pos _)
  unfold decodeF classBit Fmt.eb
  generalize x / 2 ^ f.fb % 2 ^ (f.w - 1 - f.fb) = ex
  generalize x % 2 ^ f.fb = fr at hq hm
  generalize x / 2 ^ (f.w - 1) % 2 = sg
  simp only [he, Bool.false_and, Bool.not_false, Bool.true_and, Bool.false_eq_true, if_false, beq_iff_eq]
  by_cases htop : ex = 2 ^ (f.w - 1 - f.fb) - 1
  · rw [if_pos htop, if_pos htop]
    by_cases h0 : fr = 0
    · rw [if_pos h0, if_pos h0]
      by_cases hs : sg = 1 <;> simp [classOf, hs]
    · rw [if_neg h0, if_neg h0]
      by_cases hs : fr < 2 ^ (f.fb - 1) <;> simp [classOf, hq, hs]
  · rw [if_neg htop, if_neg htop]
    by_cases hz : ex = 0
    · rw [if_pos hz, if_pos hz]
      unfold classOf
      dsimp only
      rw [ltScaled_subnormal f hm]
      by_cases h0 : fr = 0 <;> by_cases hs : sg = 1 <;> simp [h0, hs]
    · have hne : 2 ^ f.fb + fr ≠ 0 := by have := Nat.two_pow_pos f.fb; omega
      rw [if_neg hz, if_neg hz]
      unfold classOf
      dsimp only
      rw [ltScaled_normal f fr hz, if_neg hne]
      by_cases hs : sg = 1 <;> simp [hs]

theorem State.rdFloat_fp64 (s : State) (r : Reg) : s.rdFloat fp64 r = (s.rd r).toNat := Nat.mod_eq_of_lt (s.rd r).isLt

theorem classForm_writes {i : Instr} {d : Reg} {v : State → Word} (h : classForm i = some (d, v)) (s : State) :
    WritesScalar i s d (v s) 0 4 := by
  cases i with
  | fclassF32 d a =>
    cases h
    exact .of_writeInt (t := fun s => word (classOf fp32 (decodeF fp32 (s.rdFloat fp32 a)))) rfl
      (congrArg word (classOf_decodeF fp32 rfl _))
  | fclassF64 d a =>
    cases h
    have hc := classOf_decodeF fp64 rfl (s.rdFloat fp64 a)
    exact .of_writeInt (t := fun s => word (classOf fp64 (decodeF fp64 (s.rdFloat fp64 a)))) rfl
      (congrArg word (hc.trans (by rw [State.rdFloat_fp64]; rfl)))
  | _ => cases h

/-! ### `fsgn` (R138) -/

theorem signF_eq (f : Fmt) (n : Nat) (hn : f.w = n + 1) (j : BitVec 2) (x y : Word) :
    (word (signF f j (x.toNat % 2 ^ f.w) (y.toNat % 2 ^ f.w)).1, (signF f j (x.toNat % 2 ^ f.w) (y.toNat % 2 ^ f.w)).2) =
      signResult n (word f.nan) (decodeF f (x.toNat % 2 ^ f.w)).isNan (decodeF f (x.toNat % 2 ^ f.w)).isSig j x y := by
  have hs : ∀ z : Word, (z.toNat % 2 ^ f.w / 2 ^ (f.w - 1) % 2 == 1) = z.getLsbD n := by
    intro z
    rw [hn, Nat.add_sub_cancel, BitVec.getLsbD, Nat.testBit_eq_decide_div_mod_eq, Nat.pow_succ,
      Nat.mod_mul_right_div_self, Nat.mod_mod]
    rfl
  have hm : x.toNat % 2 ^ f.w % 2 ^ (f.w - 1) = x.toNat % 2 ^ n := by
    rw [hn, Nat.add_sub_cancel, Nat.mod_mod_of_dvd _ (Nat.pow_dvd_pow 2 (Nat.le_succ n))]
  unfold signF signResult newSign
  dsimp only
  rw [hs, hs, hm]
  cases hx : (decodeF f (x.toNat % 2 ^ f.w)).isNan
  · simp [Fmt.sign, hn, word]
  · simp [flagIf]

theorem WritesScalar.of_signF {i : Instr} {s : State} {d a b : Reg} (f : Fmt) (n : Nat) (hn : f.w = n + 1) (j : BitVec 2)
    (he : exec i s = writeFloat d (fun s => signF f j (s.rdFloat f a) (s.rdFloat f b)) s) :
    WritesScalar i s d (signResult n (word f.nan) (src s f a).isNan (src s f a).isSig j (s.rd a) (s.rd b)).1
      (signResult n (word f.nan) (src s f a).isNan (src s f a).isSig j (s.rd a) (s.rd b)).2 4 := by
  have h := signF_eq f n hn j (s.rd a) (s.rd b)
  exact .of_writeFloat he (congrArg Prod.fst h) (congrArg Prod.snd h)

theorem signForm_writes {i : Instr} {d : Reg} {r : State → Word × Flags} (h : signForm i = some (d, r)) (s : State) :
    WritesScalar i s d (r s).1 (r s).2 4 := by
  cases i with
  | fsgnF32 => cases h; exact .of_signF fp32 31 rfl _ rfl
  | fsgnF64 => cases h; exact .of_signF fp64 63 rfl _ rfl
  | _ => cases h

/-- Settles O4: the choices and predicates by the operands' decoded values, the class by the fields of the encoding. -/
theorem floatChoiceAndClassResults : Obligations.FloatChoiceAndClassResults :=
  ⟨fun _ _ _ => choiceForm_writes, fun _ _ _ => classForm_writes, fun _ _ _ => signForm_writes⟩

/-! ### `trap`, `bkpt` and `eret` (R124, R125, R144, R145, R465) -/

theorem State.takeTrap_seen {s : State} (h : s.Trappable) (code : Nat) (val ret : Word) (a : Nat) :
    (s.takeTrap code val ret).seen a = s.seen a := by
  rw [State.takeTrap_eq h]
  exact State.seen_congr rfl rfl rfl rfl rfl rfl a

theorem EntersTrap.of_takeTrap {i : Instr} {s : State} {code : Nat} {val ret : Word} (h : s.Trappable)
    (he : exec i s = .next (s.takeTrap code val ret)) : EntersTrap i s code val (ret &&& ~~~3#64) := by
  refine ⟨_, he, ?_, ?_, ?_, State.takeTrap_kept h code val ret, State.takeTrap_seen h code val ret⟩ <;>
    rw [State.takeTrap_eq h] <;> rfl

theorem exec_trap (n : BitVec 15) (s : State) :
    exec (.trap n) s = .next (s.takeTrap 0x13 (zext n) (s.run.ctx.pc + 4)) := rfl

theorem State.breaks_iff {n : BitVec 15} {s : State} : s.breaks n = true ↔ s.dbg.hold = true ∧ 0x7F00 ≤ n.toNat := by
  simp [State.breaks]

theorem exec_bkpt_of_breaks {n : BitVec 15} {s : State} (h : s.breaks n = true) :
    exec (.bkpt n) s = .next { s.traceAct kBREAK (body2 s.run.ctx.pc.toNat s.run.ctx.lic) with
      core := { s.core with halt := some .brk } } := by
  dsimp only [exec, execBkpt, runBody]
  rw [h, ← State.traceAct_core s kBREAK (body2 s.run.ctx.pc.toNat s.run.ctx.lic)]
  rfl

theorem exec_bkpt_of_not_breaks {n : BitVec 15} {s : State} (h : s.breaks n = false) :
    exec (.bkpt n) s = .next (s.takeTrap 0x12 (zext n) s.run.ctx.pc) := by
  dsimp only [exec, execBkpt, runBody]
  rw [h]
  rfl

theorem exec_eret_of_supervisor {s : State} (h : s.run.ctx.priv = true) :
    exec .eret s = .next (s.returnTrap.retireTo s.run.ctx.epc) := by
  dsimp only [exec, execEret, runBody, State.privCheck]
  rw [h]
  rfl

theorem exec_eret_of_user {s : State} (h : s.run.ctx.priv = false) :
    exec .eret s = .next (s.takeTrap 0x18 0x1B4 s.run.ctx.pc) := by
  dsimp only [exec, execEret, runBody, State.privCheck]
  rw [h]
  rfl

@[simp] theorem State.traceAct_cycle (s : State) (k : Nat) (b : List Byte) : (s.traceAct k b).cycle = s.cycle := by
  rw [State.traceAct_eq]

theorem State.traceAct_dbg_of_disabled {s : State} {k : Nat} (h : s.dbg.enables.getLsbD k = false) (b : List Byte) :
    (s.traceAct k b).dbg = s.dbg := by
  unfold State.traceAct State.trace
  rw [h]
  rfl

theorem State.traceAct_trace_of_enabled {s : State} {k : Nat} (h : s.dbg.enables.getLsbD k = true)
    (hr : s.dbg.trace.length < s.dbg.traceCap) (b : List Byte) :
    (s.traceAct k b).dbg.trace = s.dbg.trace ++ [⟨s.recordHeader k s.core.serial, b⟩] := by
  unfold State.traceAct State.trace
  rw [h, if_pos rfl, if_pos hr]

/-- The kind stands at bits 135:128: what lies below it in the header is less than 2^128 (R457). -/
theorem State.recordHeader_kind (s : State) (kind serial : Nat) :
    (s.recordHeader kind serial).extractLsb' 128 8 = BitVec.ofNat 8 kind := by
  have hc : s.lcore.toNat < 2 ^ 34 := s.lcore.isLt
  have hl := s.dbg.lost.isLt
  unfold State.recordHeader
  dsimp only
  apply BitVec.eq_of_toNat_eq
  rw [BitVec.extractLsb'_toNat, BitVec.toNat_ofNat, BitVec.toNat_ofNat, Nat.shiftRight_eq_div_pow]
  omega

theorem eret_returns {s : State} (h : s.run.ctx.priv = true) :
    ∃ t, exec .eret s = .next t ∧ s.RetiredAt t s.run.ctx.epc ∧
      t.run.ctx = { s.run.ctx with
        pc := s.run.ctx.epc, lic := s.run.ctx.lic + 1, priv := s.run.ctx.ppriv, ppriv := false } ∧
      s.Kept t ∧ ∀ a, t.seen a = s.seen a := by
  refine ⟨_, exec_eret_of_supervisor h, State.retireTo_retired s.returnTrap _, State.retireTo_ctx s.returnTrap _, ?_, ?_⟩
  · rw [State.retireTo_eq]; rfl
  · intro a
    rw [State.retireTo_seen]
    exact State.seen_congr rfl rfl rfl rfl rfl rfl a

/-- Settles O7: the traps by `takeTrap` at user level, the debugger breakpoint by its record, `eret` by its two levels. -/
theorem trapEntryAndReturn : Obligations.TrapEntryAndReturn := by
  refine ⟨fun n s => ⟨fun ht => ⟨?trap, fun hb => ?bkpt⟩, fun hh hn => ?halt⟩, fun s => ⟨eret_returns, fun ht => ?user⟩⟩
  case trap => exact .of_takeTrap ht (exec_trap n s)
  case bkpt =>
    have h : s.breaks n = false := by rcases hb with hb | hb <;> simp [State.breaks, hb]
    exact .of_takeTrap ht (exec_bkpt_of_not_breaks h)
  case halt =>
    refine ⟨_, exec_bkpt_of_breaks (State.breaks_iff.2 ⟨hh, hn⟩), rfl, by simp, by simp, by simp, by simp, by simp, ?_, ?_⟩
    · exact fun he => State.traceAct_dbg_of_disabled he _
    · exact fun he hr => ⟨_, State.traceAct_trace_of_enabled he hr _, State.recordHeader_kind s _ _, rfl⟩
  case user => exact .of_takeTrap ht (exec_eret_of_user ht.1)

end Sys2Proof.Machine
end
